-- ==== Sys2Proof/Word.lean ====
section
/-! DEFINITION. The byte type and the plain arithmetic the whole model uses. -/

namespace Sys2Proof

/-- One byte of the window or of the memory. -/
abbrev Byte := BitVec 8

/-- "Clamped" (00_scope.md, Arithmetic): the nearer end of the range when the value lies outside it. -/
def clampNat (lo hi n : Nat) : Nat := max lo (min hi n)

/-- The same for signed values. -/
def clampInt (lo hi n : Int) : Int := max lo (min hi n)

/-- A counter that saturates (00_scope.md, Arithmetic): it stops at its largest value `top`. -/
def satAdd (top n k : Nat) : Nat := min top (n + k)

end Sys2Proof
end

