-- ==== Sys2Proof/Syntax.lean ====
section
/-! DEFINITION. The commands of the W62: one constructor per row of spec/opcode_table.json. The table gives the rows no
operands; the operands here are those the governing rules need (notes/assumptions/7.md). -/

namespace Sys2Proof

/-- The five converter channels (Table 5). -/
inductive Channel where
  | rh | troom | tevap | tcond | supply
  deriving DecidableEq, Repr

/-- The four contact switches (Table 7). -/
inductive Switch where
  | highFloat | fullFloat | tankPresent | door
  deriving DecidableEq, Repr

/-- The two lamp channels (R118). -/
inductive Lamp where
  | filter | tank
  deriving DecidableEq, Repr

/-- The direction of an edge at the TACH input (R13). -/
inductive Edge where
  | falling | rising
  deriving DecidableEq, Repr

/-- The rows of the table of operations and events. `written` is how many bytes of the writing in progress the memory
has received when the event comes; an `off` is a window offset; a `v` is the byte on the controller's data lines. -/
inductive Instr where
  | powerOn (written : Nat)
  | nresetAssert (written : Nat)
  | nresetRelease
  | loadDelayExpiry
  | loadComplete (pfwLow : Bool)
  | converterArrival (ch : Channel) (code : BitVec 10)
  | particleWindowEnd
  | tachEdge (edge : Edge) (interval : Nat)
  | stoppedReport
  | switchRawChange (sw : Switch) (high : Bool)
  | debounceExpiry (sw : Switch)
  | switchSettlingExpiry
  | npfwAssert
  | rampStep
  | settledTimerExpiry
  | armingTimerExpiry
  | stallCheck
  | stallWaitExpiry
  | airflowPeriod
  | learnHoldExpiry
  | learnReading
  | dosePeriod
  | dryingCheck
  | offTimeExpiry
  | confirmationTimerExpiry
  | extraHoldExpiry
  | runSecondExpiry
  | defrostMaxExpiry
  | timedCycleExpiry
  | uptimeMinute
  | onTimeEnd
  | afterRunExpiry
  | pulseTimerExpiry
  | lampPhaseTimer (lamp : Lamp)
  | settingWrite (off v : Byte)
  | hexhLowWrite (v : Byte)
  | hexhHighWrite (v : Byte)
  | quietTimerExpiry
  | latchedWrite (off v : Byte)
  | summaryRead
  | snapshotLoadRead (off : Byte)
  | strayWrite (off v : Byte)
  | anchorWrite (v : Byte)
  | filterReset
  | learnBaseline
  | abortLearn
  | defrostNow
  | clearLockout
  | resume
  | saveNow
  | restartArm
  | restart
  | unknownCommand (code : Byte)
  | drainJobComplete
  | holdackRise
  | holdackFall (written : Nat)
  | ackTimerExpiry
  | retryTimerExpiry
  | burstComplete
  | saveTimerExpiry
  | supervisionCount
  | supervisionPulseEnd
  | particleSample (high : Bool)
  deriving DecidableEq, Repr

end Sys2Proof
end

