-- ==== Sys2Proof/Decode.lean ====
section
/-! DEFINITION. The W62 decodes no instruction word: its commands are events and memory cycles, and no row of
spec/opcode_table.json gives bits (notes/assumptions/30.md). -/

namespace Sys2Proof

/-- The command a table word spells: none, since no row of the table gives bits. -/
def decodeTableWord (_nbits _w : Nat) : Option Instr := none

end Sys2Proof
end

