-- ==== Sys2Proof/Config.lean ====
section
/-! DEFINITION. What the spec leaves to the appliance around the part and the model fixes. Every value here has a log
entry. -/

namespace Sys2Proof.Config

/-- What a byte of the controller's memory reads as before anything has written it. DESIGN CHOICE, unsafe: the spec
gives the memory no initial contents (notes/assumptions/1.md). -/
def unwrittenByte : Byte := 0

/-- The level of the four switch inputs at State.reset, `true` for high. DESIGN CHOICE, unsafe
(notes/assumptions/5.md). -/
def switchLevelAtReset : Bool := true

/-- The level of HOLDACK at State.reset. DESIGN CHOICE, unsafe (notes/assumptions/5.md). -/
def holdAckAtReset : Bool := false

/-- Whether nPFW is low at State.reset. DESIGN CHOICE, unsafe (notes/assumptions/5.md). -/
def powerFailLowAtReset : Bool := false

end Sys2Proof.Config
end

