-- ==== Sys2Proof/Machine/Cells.lean ====
section
/-! DEFINITION. The window map: places of a memory cycle (R127, Table 24), the snapshot holders (R142), the command codes
(Table 30) and the default image (Table 34). Nothing here depends on the state. -/

namespace Sys2Proof.Machine

/-- The memory offset of window offset `off` on page `page`: page x 256 + off (00_scope.md, Offsets and pages). -/
def address (page : BitVec 7) (off : Byte) : BitVec 15 := page ++ off

/-- The anchor, memory offset 0x7FFF. -/
def anchor : BitVec 15 := 0x7FFF#15

/-- The places of Table 24. -/
inductive Place where
  | outside
  | setting (off : Byte)
  | commandCell
  | latchedCell (off : Byte)
  | summaryCell
  | plainOverlay (off : Byte)
  | hole (off : Byte)
  | wearRecord (off : Byte)
  | checkByte
  | anchorCell
  deriving DecidableEq, Repr

/-- The place of a window offset that is not the anchor (Table 24). -/
def windowPlace (off : Byte) : Place :=
  if off.toNat < 0x40 then .setting off
  else if off.toNat = 0x40 then .commandCell
  else if off.toNat < 0x4B then .plainOverlay off
  else if off.toNat < 0x4E then .latchedCell off
  else if off.toNat = 0x4E then .summaryCell
  else if off.toNat < 0x7B then .plainOverlay off
  else if off.toNat < 0xA0 then .hole off
  else if off.toNat < 0xC7 then .wearRecord off
  else if off.toNat < 0xFE then .hole off
  else if off.toNat = 0xFE then .checkByte
  else .hole off

/-- R127: the place of a memory cycle, decided in its order: the anchor, the window, outside. -/
def classify (page : BitVec 7) (m : BitVec 15) : Place :=
  if m = anchor then .anchorCell
  else if m.toNat / 256 = page.toNat then windowPlace (BitVec.ofNat 8 (m.toNat % 256))
  else .outside

/-- Table 24, write column: the cells whose writes are dropped as stray. -/
def Place.stray : Place → Bool
  | .plainOverlay _ | .summaryCell | .wearRecord _ | .checkByte => true
  | .outside | .setting _ | .commandCell | .latchedCell _ | .hole _ | .anchorCell => false

/-- R128: a controller write reaches memory if and only if its address is a setting cell, the anchor, a hole, or lies
outside the window. -/
def Place.forwardsWrite : Place → Bool
  | .outside | .setting _ | .hole _ | .anchorCell => true
  | .commandCell | .latchedCell _ | .summaryCell | .plainOverlay _ | .wearRecord _ | .checkByte => false

/-- Table 24, read column: the places whose reads the part answers itself. -/
def Place.overlays : Place → Bool
  | .commandCell | .latchedCell _ | .summaryCell | .plainOverlay _ | .wearRecord _ => true
  | .outside | .setting _ | .hole _ | .checkByte | .anchorCell => false

/-- R142: the twenty-six values with a snapshot holder, each its lowest window offset and its size in bytes. -/
def holderTable : List (Nat × Nat) :=
  [(0x50, 2), (0x52, 2), (0x54, 2), (0x56, 2), (0x58, 2), (0x5A, 2), (0x5C, 2), (0x5E, 2),
   (0x63, 2), (0x72, 2), (0x76, 2),
   (0xA0, 3), (0xA3, 3),
   (0xA6, 2), (0xAA, 2), (0xAD, 2), (0xAF, 2), (0xB1, 2),
   (0xB4, 2), (0xB6, 2), (0xB8, 2), (0xBA, 2), (0xBC, 2), (0xBE, 2), (0xC0, 2), (0xC2, 2)]

/-- The index in `holderTable` of the multi-byte value that window offset `off` belongs to. -/
def holderIndex (off : Nat) : Option Nat :=
  holderTable.findIdx? fun h => h.1 ≤ off && off < h.1 + h.2

/-- Whether `off` is the lowest byte of a multi-byte value. -/
def isHolderLow (off : Nat) : Bool := holderTable.any fun h => h.1 == off

/-- Byte `k` of a value stored least significant byte first (00_scope.md, Byte order and sizes). -/
def leByte (value k : Nat) : Byte := BitVec.ofNat 8 (value / 256 ^ k)

/-- A two-byte signed value in two's complement. -/
def signed16 (v : Int) : Nat := (BitVec.ofInt 16 v).toNat

/-- The value of bytes stored least significant first. -/
def leValue : List Byte → Nat
  | [] => 0
  | b :: rest => b.toNat + 256 * leValue rest

/-- The command codes of Table 30. -/
def codeFilterReset : Byte := 0x11#8
def codeLearnBaseline : Byte := 0x12#8
def codeAbortLearn : Byte := 0x13#8
def codeDefrostNow : Byte := 0x21#8
def codeClearLockout : Byte := 0x22#8
def codeResume : Byte := 0x31#8
def codeSaveNow : Byte := 0x32#8
def codeRestartArm : Byte := 0xA5#8
/-- The second half of the restart pattern (R167); a command only while armed. -/
def codeRestart : Byte := 0x5A#8

/-- The codes Table 30 names. -/
def knownCodes : List Byte :=
  [codeFilterReset, codeLearnBaseline, codeAbortLearn, codeDefrostNow, codeClearLockout, codeResume, codeSaveNow,
   codeRestartArm]

/-- R175: the default image, the column of default bytes of Table 34 from 0x00 to 0x3F. -/
def defaultImage : List Byte :=
  [0x03#8, 0x00#8, 0x01#8, 0x32#8, 0x03#8, 0x02#8, 0x05#8, 0x50#8,
   0x82#8, 0xB4#8, 0xFF#8, 0x0C#8, 0x23#8, 0x4B#8, 0x96#8, 0xC8#8]
  ++ [0x08#8, 0x0C#8, 0x64#8, 0x1E#8, 0x40#8, 0x23#8, 0x28#8, 0xC8#8,
   0x6D#8, 0x01#8, 0x50#8, 0x01#8, 0x12#8, 0x0C#8, 0xFF#8, 0x05#8]
  ++ [0x0F#8, 0x32#8, 0x3E#8, 0x01#8, 0x2D#8, 0x08#8, 0x3C#8, 0x08#8,
   0x05#8, 0x00#8, 0x02#8, 0x00#8, 0x00#8, 0x00#8, 0x00#8, 0xC8#8]
  ++ [0x00#8, 0x00#8, 0x00#8, 0x01#8, 0x00#8, 0x00#8, 0x00#8, 0x00#8,
   0xC8#8, 0x01#8, 0x00#8, 0x82#8, 0x37#8, 0x00#8, 0x00#8, 0x77#8]

/-- R155: one byte combined into the CRC register, most significant bit first. -/
def crcByte (reg b : Byte) : Byte :=
  (List.range 8).foldl (fun r _ => if r.msb then (r <<< 1) ^^^ 0x07#8 else r <<< 1) (reg ^^^ b)

/-- R155: the CRC-8 of bytes taken in order, polynomial x^8 + x^2 + x + 1, initial value 0xFF, no final inversion. -/
def crc8 (bytes : List Byte) : Byte := bytes.foldl crcByte 0xFF#8

end Sys2Proof.Machine
end

