-- ==== Sys2Proof/Machine/Operands.lean ====
section
/-! DEFINITION. The setting bytes as operands: the raw byte forms and clamps of R136, R137, R141 and R175, the judgement of
a clamp (R138), and the working value of every setting under its name (Table 3, Table 34). -/

namespace Sys2Proof.Machine

/-- The kinds of setting of R136, with the members of the two groups of R137. -/
inductive SettingKind where
  | unsigned (lo hi : Nat)
  | signed (lo hi : Int)
  | choice (last : Nat)
  | supervision
  | polarity
  | mask
  | waits
  | pair
  | autoT1 | autoT2 | autoT3
  | condWarn | condTrip
  deriving DecidableEq, Repr

/-- Table 34: the kind and range of the setting at each window offset. -/
def settingKind (off : Nat) : SettingKind :=
  match off with
  | 0x00 => .choice 3
  | 0x01 => .unsigned 0 4
  | 0x02 => .choice 1
  | 0x03 => .unsigned 30 80
  | 0x04 => .unsigned 1 10
  | 0x05 => .unsigned 1 10
  | 0x06 => .unsigned 1 15
  | 0x07 => .unsigned 31 255
  | 0x08 => .unsigned 31 255
  | 0x09 => .unsigned 31 255
  | 0x0A => .unsigned 31 255
  | 0x0B => .autoT1
  | 0x0C => .autoT2
  | 0x0D => .autoT3
  | 0x0E => .unsigned 31 255
  | 0x0F => .unsigned 31 255
  | 0x10 => .unsigned 1 255
  | 0x11 => .unsigned 1 255
  | 0x12 => .unsigned 1 255
  | 0x13 => .unsigned 1 255
  | 0x14 => .unsigned 1 255
  | 0x15 => .unsigned 0 250
  | 0x16 => .unsigned 1 255
  | 0x17 => .unsigned 16 255
  | 0x18 => .pair
  | 0x19 => .pair
  | 0x1A => .unsigned 50 99
  | 0x1B => .choice 1
  | 0x1C => .unsigned 12 60
  | 0x1D => .unsigned 6 60
  | 0x1E => .signed (-5) 3
  | 0x1F => .unsigned 2 10
  | 0x20 => .unsigned 5 30
  | 0x21 => .condWarn
  | 0x22 => .condTrip
  | 0x23 => .choice 1
  | 0x24 => .unsigned 10 100
  | 0x25 => .unsigned 1 50
  | 0x26 => .unsigned 10 120
  | 0x27 => .unsigned 0 30
  | 0x28 => .unsigned 1 25
  | 0x29 => .polarity
  | 0x2A => .unsigned 1 4
  | 0x2B => .signed (-50) 50
  | 0x2C => .signed (-30) 30
  | 0x2D => .signed (-30) 30
  | 0x2E => .signed (-30) 30
  | 0x2F => .unsigned 100 255
  | 0x30 => .mask
  | 0x31 => .mask
  | 0x32 => .mask
  | 0x33 => .choice 1
  | 0x34 => .choice 1
  | 0x35 => .choice 1
  | 0x36 => .choice 4
  | 0x37 => .choice 4
  | 0x38 => .unsigned 1 255
  | 0x39 => .choice 1
  | 0x3A => .supervision
  | 0x3B => .unsigned 31 255
  | 0x3C => .unsigned 30 80
  | 0x3D => .choice 1
  | 0x3E => .choice 1
  | _ => .waits

/-- The raw byte at an offset, as a number. -/
def rawNat (raw : List Byte) (off : Nat) : Nat := (raw.getD off 0).toNat

/-- R137: the working T1. -/
def workingT1 (raw : List Byte) : Nat := clampNat 1 248 (rawNat raw 0x0B)
/-- R137: the working T2. -/
def workingT2 (raw : List Byte) : Nat := clampNat (workingT1 raw + 1) 249 (rawNat raw 0x0C)
/-- R137: the working T3. -/
def workingT3 (raw : List Byte) : Nat := clampNat (workingT2 raw + 1) 250 (rawNat raw 0x0D)
/-- R137: the working condenser warn. -/
def workingWarn (raw : List Byte) : Nat := clampNat 40 60 (rawNat raw 0x21)
/-- R137: the working condenser trip. -/
def workingTrip (raw : List Byte) : Nat := clampNat (max 55 (workingWarn raw + 2)) 70 (rawNat raw 0x22)

/-- R136, supervision interval: 0 as written, 1 taken as 2, above 60 taken as 60. -/
def workingSupervision (n : Nat) : Nat := if n = 0 then 0 else clampNat 2 60 n

/-- R136, wait counts: each half clamped to 7. -/
def workingWaits (n : Nat) : Nat := min 7 (n % 16) + 16 * min 7 (n / 16)

/-- R136 and R137: the working byte of the setting at `off`. The two bytes of Hexh have no working byte of their own
(R140, R141): the pair is held beside the bytes, and its places here hold 0. -/
def workingByte (raw : List Byte) (off : Nat) : Byte :=
  match settingKind off with
  | .unsigned lo hi => BitVec.ofNat 8 (clampNat lo hi (rawNat raw off))
  | .signed lo hi => BitVec.ofInt 8 (clampInt lo hi (raw.getD off 0).toInt)
  | .choice last => BitVec.ofNat 8 (min last (rawNat raw off))
  | .supervision => BitVec.ofNat 8 (workingSupervision (rawNat raw off))
  | .polarity => (raw.getD off 0) &&& 0x3F#8
  | .mask => raw.getD off 0
  | .waits => BitVec.ofNat 8 (workingWaits (rawNat raw off))
  | .pair => 0#8
  | .autoT1 => BitVec.ofNat 8 (workingT1 raw)
  | .autoT2 => BitVec.ofNat 8 (workingT2 raw)
  | .autoT3 => BitVec.ofNat 8 (workingT3 raw)
  | .condWarn => BitVec.ofNat 8 (workingWarn raw)
  | .condTrip => BitVec.ofNat 8 (workingTrip raw)

/-- The working bytes of all 64 settings. -/
def workingImage (raw : List Byte) : List Byte := (List.range 64).map (workingByte raw)

/-- R141: the working Hexh of a pair. -/
def workingHexh (low high : Nat) : Nat := clampNat 1 730 (low + 256 * high)

/-- R137: the offsets formed together with `off`, in ascending order. -/
def settingGroup (off : Nat) : List Nat :=
  if off = 0x0B ∨ off = 0x0C ∨ off = 0x0D then [0x0B, 0x0C, 0x0D]
  else if off = 0x21 ∨ off = 0x22 then [0x21, 0x22]
  else [off]

/-- R138: the offset a write at `off` records as clamped, if any setting of its group is clamped in it. -/
def clampedBy (old new raw : List Byte) (off : Nat) : Option Nat :=
  if new.getD off 0 ≠ raw.getD off 0 then some off
  else (settingGroup off).find? fun m =>
    m ≠ off && new.getD m 0 ≠ old.getD m 0 && new.getD m 0 ≠ raw.getD m 0

/-- The working settings: 64 working bytes and the two-byte Hexh. -/
structure Settings where
  bytes : List Byte
  hexh  : Nat
  deriving DecidableEq, Repr

/-- R126: the working settings a load forms from a raw image. -/
def Settings.ofRaw (raw : List Byte) : Settings :=
  { bytes := workingImage raw, hexh := workingHexh (rawNat raw 0x18) (rawNat raw 0x19) }

/-- The working byte at an offset. -/
def Settings.byte (w : Settings) (off : Nat) : Byte := w.bytes.getD off 0
/-- The working byte at an offset as an unsigned number. -/
def Settings.nat (w : Settings) (off : Nat) : Nat := (w.byte off).toNat
/-- The working byte at an offset as a two's complement number. -/
def Settings.int (w : Settings) (off : Nat) : Int := (w.byte off).toInt
/-- A choice between 0 and 1. -/
def Settings.flag (w : Settings) (off : Nat) : Bool := w.nat off ≠ 0

/-- The four modes (Table 34, offset 0x00). -/
inductive Mode where
  | off | clean | dry | cleanDry
  deriving DecidableEq, Repr

def Settings.mode (w : Settings) : Mode :=
  if w.nat 0x00 = 0 then .off else if w.nat 0x00 = 1 then .clean
  else if w.nat 0x00 = 2 then .dry else .cleanDry

def Settings.fanSpeed (w : Settings) : Nat := w.nat 0x01
def Settings.circulate (w : Settings) : Bool := w.flag 0x02
def Settings.rhSetpoint (w : Settings) : Nat := w.nat 0x03
def Settings.bandOn (w : Settings) : Nat := w.nat 0x04
def Settings.bandOff (w : Settings) : Nat := w.nat 0x05
def Settings.tmin (w : Settings) : Nat := w.nat 0x06
/-- S1 to S4, numbered 1 to 4. -/
def Settings.speedDuty (w : Settings) (n : Nat) : Nat := w.nat (0x06 + n)
def Settings.t1 (w : Settings) : Nat := w.nat 0x0B
def Settings.t2 (w : Settings) : Nat := w.nat 0x0C
def Settings.t3 (w : Settings) : Nat := w.nat 0x0D
def Settings.dryDuty (w : Settings) : Nat := w.nat 0x0E
def Settings.defrostDuty (w : Settings) : Nat := w.nat 0x0F
def Settings.riseRate (w : Settings) : Nat := w.nat 0x10
def Settings.fallRate (w : Settings) : Nat := w.nat 0x11
/-- Fmax in m³/h, four times the setting (R39). -/
def Settings.fmaxM3h (w : Settings) : Nat := w.nat 0x12 * 4
/-- Fmin_dry in m³/h, four times the setting (Table 16). -/
def Settings.fminDryM3h (w : Settings) : Nat := w.nat 0x13 * 4
def Settings.kp (w : Settings) : Nat := w.nat 0x14
def Settings.fallback (w : Settings) : Nat := w.nat 0x15
def Settings.dexh (w : Settings) : Nat := w.nat 0x16
def Settings.qexh (w : Settings) : Nat := w.nat 0x17
def Settings.wworn (w : Settings) : Nat := w.nat 0x1A
def Settings.learnOnReset (w : Settings) : Bool := w.flag 0x1B
/-- Min off in seconds (R73). -/
def Settings.minOffSeconds (w : Settings) : Nat := w.nat 0x1C * 10
/-- Min run in seconds (R80). -/
def Settings.minRunSeconds (w : Settings) : Nat := w.nat 0x1D * 10
/-- Tfrost in tenths of °C (R82). -/
def Settings.tfrostTenths (w : Settings) : Int := w.int 0x1E * 10
/-- Tdefend in tenths of °C (R85). -/
def Settings.tdefendTenths (w : Settings) : Int := (w.nat 0x1F : Int) * 10
/-- Defrost max in seconds (R84). -/
def Settings.defrostMaxSeconds (w : Settings) : Nat := w.nat 0x20 * 60
def Settings.warn (w : Settings) : Nat := w.nat 0x21
def Settings.trip (w : Settings) : Nat := w.nat 0x22
def Settings.pumpFitted (w : Settings) : Bool := w.flag 0x23
def Settings.capacity (w : Settings) : Nat := w.nat 0x24
def Settings.condensateRate (w : Settings) : Nat := w.nat 0x25
def Settings.pumpMaxRun (w : Settings) : Nat := w.nat 0x26
def Settings.pumpAfterRun (w : Settings) : Nat := w.nat 0x27
/-- Debounce time in ms (R17). -/
def Settings.debounceMs (w : Settings) : Nat := w.nat 0x28 * 10
/-- R175: one entry of the input polarity set, `true` for INVERTED: bit 0 tach, 1 particle, 2 high float, 3 full float,
4 tank switch, 5 door. -/
def Settings.inverted (w : Settings) (bit : Nat) : Bool := (w.byte 0x29).getLsbD bit
def Settings.ppr (w : Settings) : Nat := w.nat 0x2A
def Settings.rhOffset (w : Settings) : Int := w.int 0x2B
def Settings.troomOffset (w : Settings) : Int := w.int 0x2C
def Settings.tevapOffset (w : Settings) : Int := w.int 0x2D
def Settings.tcondOffset (w : Settings) : Int := w.int 0x2E
def Settings.supplyLowThreshold (w : Settings) : Nat := w.nat 0x2F
/-- R112, R175: the masks of flags 1 to 24, flag n in bit n − 1, 1 = masked. -/
def Settings.masks (w : Settings) : BitVec 24 := (w.byte 0x32 ++ w.byte 0x31 ++ w.byte 0x30 : BitVec (8 + 8 + 8))
def Settings.autoClear (w : Settings) : Bool := w.flag 0x33

/-- The five lamp patterns (Table 34, offsets 0x36 and 0x37). -/
inductive Pattern where
  | off | on | blink | fastBlink | breathe
  deriving DecidableEq, Repr

/-- The pattern of a code. -/
def patternOf (n : Nat) : Pattern :=
  if n = 0 then .off else if n = 1 then .on else if n = 2 then .blink else if n = 3 then .fastBlink else .breathe

/-- Whether the filter lamp's source is CONTROLLER. -/
def Settings.filterLampControlled (w : Settings) : Bool := w.flag 0x34
/-- Whether the tank lamp's source is CONTROLLER. -/
def Settings.tankLampControlled (w : Settings) : Bool := w.flag 0x35
def Settings.filterLampPattern (w : Settings) : Pattern := patternOf (w.nat 0x36)
def Settings.tankLampPattern (w : Settings) : Pattern := patternOf (w.nat 0x37)
def Settings.lampLevel (w : Settings) : Nat := w.nat 0x38
/-- Whether the lamp curve is PERCEPTUAL. -/
def Settings.perceptual (w : Settings) : Bool := w.flag 0x39
def Settings.supervisionInterval (w : Settings) : Nat := w.nat 0x3A
def Settings.standaloneDuty (w : Settings) : Nat := w.nat 0x3B
def Settings.standaloneRhSetpoint (w : Settings) : Nat := w.nat 0x3C
/-- Whether the fault policy is STOP_ALL. -/
def Settings.stopAll (w : Settings) : Bool := w.flag 0x3D
def Settings.controllerResetEnable (w : Settings) : Bool := w.flag 0x3E
/-- Wm, the lower half of the wait byte (R175). -/
def Settings.waitMemory (w : Settings) : Nat := w.nat 0x3F % 16
/-- Wc, the upper half of the wait byte (R175). -/
def Settings.waitCell (w : Settings) : Nat := w.nat 0x3F / 16

end Sys2Proof.Machine
end

