-- ==== Sys2Proof/Machine/State.lean ====
section
/-! DEFINITION. Every piece of state the spec gives the W62, as plain data, and the part just after power-on. -/

namespace Sys2Proof.Machine

/-- A timer that runs for a span fixed at its start: `none` while stopped. Both figures are in ms; the idle tick advances
`elapsed`, the expiry itself is a command (notes/assumptions/2.md, 3.md). -/
structure Countdown where
  span    : Nat
  elapsed : Nat
  deriving DecidableEq, Repr

abbrev Timer := Option Countdown

/-- A timer that counts up against a setting: `none` while stopped, else the ms since its start (R100, R101). -/
abbrev Stopwatch := Option Nat

/-- Where the part stands between a reset and running (R156 to R160). -/
inductive Phase where
  /-- nRESET is asserted. -/
  | inReset
  /-- The 10 ms before the load. -/
  | loadDelay
  /-- The start-up load, or the reload of a restart. -/
  | loading
  /-- The drain of a restart. -/
  | draining
  | running
  deriving DecidableEq, Repr

/-- The levels of the inputs that hold a level: they belong to the appliance and outlast every reset. -/
structure Pins where
  nresetLow   : Bool
  npfwLow     : Bool
  holdAck     : Bool
  /-- FLTH, FLTF, TANK, DOOR: `true` for high. -/
  highFloat   : Bool
  fullFloat   : Bool
  tankPresent : Bool
  door        : Bool
  deriving DecidableEq, Repr

/-! ### Measurement front end (chapter 1) -/

inductive ChannelStatus where
  | unmeasured | valid | faulted
  deriving DecidableEq, Repr

/-- One converter channel (R2). -/
structure ChannelState where
  status : ChannelStatus
  /-- Good codes, oldest first, at most four. -/
  window : List (BitVec 10)
  /-- Consecutive out-of-range count. -/
  count  : Nat
  value  : Int
  deriving DecidableEq, Repr

inductive ParticleStatus where
  | warmUp | awaiting | valid | faulted
  deriving DecidableEq, Repr

/-- The particle channel (R9, R10). -/
structure ParticleState where
  status      : ParticleStatus
  accumulator : Nat
  occupancy   : Nat
  value       : Nat
  saturated   : Nat
  deriving DecidableEq, Repr

/-- The tach input (R13 to R16). -/
structure TachState where
  /-- An edge is being timed. -/
  timing    : Bool
  /-- Periods in µs, oldest first, at most eight. -/
  periods   : List Nat
  rpm       : Nat
  valid     : Bool
  stopTimer : Timer
  deriving DecidableEq, Repr

/-- One switch: its debounced meaning (`true` for raised, present, open; `none` while unsettled) and debounce timer
(R17, R18). -/
structure SwitchState where
  debounced : Option Bool
  timer     : Timer
  deriving DecidableEq, Repr

structure FrontEnd where
  rh          : ChannelState
  troom       : ChannelState
  tevap       : ChannelState
  tcond       : ChannelState
  supply      : ChannelState
  particle    : ParticleState
  tach        : TachState
  highFloat   : SwitchState
  fullFloat   : SwitchState
  tankPresent : SwitchState
  door        : SwitchState
  settling    : Timer
  supplyLow   : Bool
  deriving DecidableEq, Repr

/-! ### Air mover (chapter 2) -/

inductive FanState where
  | stopped | run | stallWait | stallLockout
  deriving DecidableEq, Repr

/-- The seven compressor states (Table 17). -/
inductive CompState where
  | offHold | offReady | preRun | running | defrost | tripped | lockedOut
  deriving DecidableEq, Repr

/-- The three phases of a sweep point (R44); `readings` holds those taken, oldest first. -/
inductive SweepPhase where
  | settling
  | hold
  | readings (taken : List Nat)
  deriving DecidableEq, Repr

inductive Sweep where
  | none
  | waiting
  | measuring (point : Nat) (phase : SweepPhase)
  deriving DecidableEq, Repr

structure AirMover where
  user          : Option Nat
  auto          : Option Nat
  drying        : Option Nat
  defrost       : Option Nat
  protect       : Option Nat
  standalone    : Option Nat
  learn         : Option Nat
  band          : Nat
  target        : Nat
  effective     : Nat
  fan           : FanState
  settled       : Bool
  settledTimer  : Timer
  rampTimer     : Timer
  armed         : Bool
  armingTimer   : Timer
  /-- Checks of the zero run in progress, 0 when none. -/
  zeroRun       : Nat
  /-- Checks of the clean run in progress, 0 when none. -/
  cleanRun      : Nat
  retries       : Nat
  stallWait     : Timer
  /-- B[0] to B[7]; `none` for an absent entry. -/
  baseline      : List (Option Nat)
  /-- The held restriction Q. -/
  q             : Nat
  scratch       : List Nat
  airflow       : Nat
  confirmed     : Bool
  sweep         : Sweep
  /-- The 5 s hold timer and the 0.5 s reading interval of the sweep. -/
  learnTimer    : Timer
  doorClosed    : Bool
  allStop       : Bool
  supplyLow     : Bool
  /-- The compressor state drying last reported. -/
  compressor    : CompState
  deriving DecidableEq, Repr

/-! ### Filter accounting (chapter 3) -/

inductive Stage where
  | good | worn | exhausted
  deriving DecidableEq, Repr

/-- A block's copy of the filter door. -/
inductive DoorCopy where
  | unknown | opened | closed
  deriving DecidableEq, Repr

structure FilterState where
  dose       : Nat
  remainder  : Nat
  fanSeconds : Nat
  minutes    : Nat
  hours      : Nat
  wear       : Nat
  stage      : Stage
  door       : DoorCopy
  deriving DecidableEq, Repr

/-! ### Tank and pump (chapter 5) -/

inductive TankLevel where
  | absent | normal | high | full
  deriving DecidableEq, Repr

inductive PumpState where
  | idle | running | afterRun | failed
  deriving DecidableEq, Repr

structure TankBlock where
  /-- Switch copies: `none` while unsettled, `some true` for raised or present. -/
  highFloat   : Option Bool
  fullFloat   : Option Bool
  present     : Option Bool
  level       : TankLevel
  pump        : PumpState
  onTime      : Stopwatch
  afterRun    : Stopwatch
  estimate    : Nat
  estFull     : Bool
  oncePerFill : Bool
  cycles      : Nat
  deriving DecidableEq, Repr

/-! ### Drying (chapter 4) -/

inductive ModeState where
  | normal | standalone
  deriving DecidableEq, Repr

/-- The humidity demand state; TIMED carries whether its demand is on. -/
inductive Demand where
  | satisfied
  | demand
  | timed (on : Bool)
  deriving DecidableEq, Repr

structure Drying where
  comp            : CompState
  offTime         : Nat
  offTimer        : Timer
  extraHold       : Timer
  runTime         : Nat
  runSeconds      : Nat
  runSinceDefrost : Nat
  runTimer        : Timer
  /-- The model's own (notes/assumptions/33.md): a stop to OFF_HOLD has stopped the run-second timer in this instant, and a
  run-second expiry of the same instant may still be taken (R107). -/
  runSecondDue    : Bool
  confirmTimer    : Timer
  /-- Checks of the frost run in progress, 0 when none. -/
  frostRun        : Nat
  /-- Checks of the defend run in progress, 0 when none. -/
  defendRun       : Nat
  defrostTimer    : Timer
  demand          : Demand
  timedTimer      : Timer
  warning         : Bool
  /-- Uptime minutes of trips, oldest first. -/
  trips           : List Nat
  uptime          : Nat
  runHours        : Nat
  runMinutes      : Nat
  starts          : Nat
  defrosts        : Nat
  tripTotal       : Nat
  door            : DoorCopy
  /-- The tank state copy, `none` while not reported. -/
  tank            : Option TankLevel
  supplyLow       : Bool
  fanStall        : Bool
  learnPending    : Bool
  mode            : ModeState
  allStop         : Bool
  deriving DecidableEq, Repr

/-! ### Notices and lamps (chapter 6) -/

structure NoticeUnit where
  /-- Flag n in bit n − 1. -/
  conditions : BitVec 24
  latched    : BitVec 24
  pulseTimer : Timer
  /-- The line is held released until the load completes (R109). -/
  held       : Bool
  deriving DecidableEq, Repr

inductive LampPhase where
  | off | on | rise | high | fall | low
  deriving DecidableEq, Repr

structure LampState where
  pattern   : Pattern
  phase     : LampPhase
  /-- Time elapsed in the phase, in ms. -/
  elapsed   : Nat
  intensity : Nat
  timer     : Timer
  deriving DecidableEq, Repr

structure LampEngine where
  filter   : LampState
  tank     : LampState
  tankCopy : Option TankLevel
  tankHigh : Bool
  pump     : PumpState
  door     : DoorCopy
  stage    : Stage
  progress : Nat
  deriving DecidableEq, Repr

/-! ### Memory path (chapter 7) -/

structure MemoryPath where
  page           : BitVec 7
  /-- The 64 setting bytes as last written. -/
  raw            : List Byte
  working        : Settings
  hexhStage      : Option Byte
  /-- The snapshot holders, in the order of `holderTable`. -/
  holders        : List (Option Nat)
  armed          : Bool
  lastClamped    : Byte
  lastStray      : Byte
  quietTimer     : Timer
  /-- Window offsets 0xA0 to 0xC6, then 0xFE (R131). -/
  protectedImage : List Byte
  deriving DecidableEq, Repr

/-! ### Stored-image unit (chapter 8) -/

inductive Job where
  | crcUpdate | wearSave | windowMove
  deriving DecidableEq, Repr

inductive HoldState where
  | idle | requesting | burst | retryWait
  deriving DecidableEq, Repr

inductive ResetCause where
  | powerOn | resetLine | restart | supervision
  deriving DecidableEq, Repr

/-- The job in service with the snapshots it needs (R152): the settings check byte; the 38 record bytes; the raw image,
the record bytes and the target page. -/
inductive Service where
  | crcUpdate (check : Byte)
  | wearSave (record : List Byte)
  | windowMove (raw record : List Byte) (page : BitVec 7)
  deriving DecidableEq, Repr

/-- The snapshots of a restart (R159). -/
structure Drain where
  record : List Byte
  raw    : List Byte
  deriving DecidableEq, Repr

structure StoredImages where
  queue      : List Job
  target     : BitVec 7
  service    : Option Service
  hold       : HoldState
  /-- HOLDREQ, `true` for high. -/
  holdReq    : Bool
  ackTimer   : Timer
  retryTimer : Timer
  /-- The 15 min save timer, running from the load's completion (R149). -/
  saveTimer  : Timer
  refusals   : Nat
  lastSeq    : Byte
  lastCheck  : Byte
  /-- The record-changed mark. -/
  changed    : Bool
  resetCause : ResetCause
  /-- The 10 ms supervision pulse on nCRST. -/
  pulse      : Timer
  drain      : Option Drain
  deriving DecidableEq, Repr

/-! ### Commands and supervision (chapter 9) -/

inductive CommandStatus where
  | idle | accepted | inProgress | done | refusedState | refusedBusy | refusedUnknown | armed | aborted
  deriving DecidableEq, Repr

inductive Awaited where
  | none | save | sweep
  deriving DecidableEq, Repr

structure CommandBlock where
  lastCode : Byte
  status   : CommandStatus
  awaited  : Awaited
  /-- Learn progress: 0 IDLE, 1 WAITING, 2 to 9, 10 COMPLETED, 11 ABORTED. -/
  progress : Nat
  mode     : ModeState
  allStop  : Bool
  count    : Nat
  counting : Timer
  deriving DecidableEq, Repr

/-! ### The whole part -/

/-- The model's own record of the latest controller cycle (notes/assumptions/20.md): the byte presented to the controller
in a read, the byte given to the memory in a write, and the wait count W of R134. -/
structure BusCycle where
  toController : Option Byte
  toMemory     : Option Byte
  waits        : Nat
  deriving DecidableEq, Repr

/-- The controller's 32 KiB memory: the bytes that differ from `Config.unwrittenByte`, addresses strictly rising. -/
abbrev Memory := List Host.Cell

structure State where
  phase     : Phase
  loadDelay : Timer
  pins      : Pins
  front     : FrontEnd
  air       : AirMover
  filter    : FilterState
  dry       : Drying
  tank      : TankBlock
  notice    : NoticeUnit
  lamps     : LampEngine
  path      : MemoryPath
  store     : StoredImages
  cmd       : CommandBlock
  bus       : BusCycle
  memory    : Memory
  /-- The commands that wait, first in, first out. -/
  pending   : List Instr
  deriving DecidableEq, Repr

/-- Why the machine stops with a fault. The spec gives the part no fault: every command has an effect or changes nothing,
and no address lies outside the memory (INVENTORY.md, Faults). -/
inductive Fault where
  deriving DecidableEq, Repr

/-- Why a command is refused. -/
inductive Refusal where
  /-- Raised by exec alone, for a row without a meaning. No row is without one. Safe. -/
  | notModelled (mnemonic : String)
  deriving DecidableEq, Repr

/-! ### Updates of one block -/

def State.setPhase (s : State) (p : Phase) : State := { s with phase := p }
def State.setLoadDelay (s : State) (t : Timer) : State := { s with loadDelay := t }
def State.setPins (s : State) (p : Pins) : State := { s with pins := p }
def State.setFront (s : State) (f : FrontEnd) : State := { s with front := f }
def State.setAir (s : State) (a : AirMover) : State := { s with air := a }
def State.setFilter (s : State) (f : FilterState) : State := { s with filter := f }
def State.setDry (s : State) (d : Drying) : State := { s with dry := d }
def State.setTank (s : State) (t : TankBlock) : State := { s with tank := t }
def State.setNotice (s : State) (n : NoticeUnit) : State := { s with notice := n }
def State.setLamps (s : State) (l : LampEngine) : State := { s with lamps := l }
def State.setPath (s : State) (p : MemoryPath) : State := { s with path := p }
def State.setStore (s : State) (x : StoredImages) : State := { s with store := x }
def State.setCmd (s : State) (c : CommandBlock) : State := { s with cmd := c }
def State.setBus (s : State) (b : BusCycle) : State := { s with bus := b }
def State.setMemory (s : State) (m : Memory) : State := { s with memory := m }
def State.setPending (s : State) (q : List Instr) : State := { s with pending := q }

/-! ### The reset state of each block -/

/-- R1: a converter channel at reset. -/
def ChannelState.atReset : ChannelState := { status := .unmeasured, window := [], count := 0, value := 0 }

/-- R1: a switch at reset, unsettled. -/
def SwitchState.atReset : SwitchState := { debounced := none, timer := none }

/-- R1: the measurement front end at reset. -/
def FrontEnd.atReset : FrontEnd :=
  { rh := .atReset, troom := .atReset, tevap := .atReset, tcond := .atReset, supply := .atReset,
    particle := { status := .warmUp, accumulator := 0, occupancy := 0, value := 0, saturated := 0 },
    tach := { timing := false, periods := [], rpm := 0, valid := false, stopTimer := none },
    highFloat := .atReset, fullFloat := .atReset, tankPresent := .atReset, door := .atReset,
    settling := none, supplyLow := false }

/-- R22: the air mover at reset; the baseline and Q are those of no record until the load. -/
def AirMover.atReset : AirMover :=
  { user := none, auto := none, drying := none, defrost := none, protect := none, standalone := none, learn := none,
    band := 0, target := 0, effective := 0, fan := .stopped, settled := false, settledTimer := none, rampTimer := none,
    armed := false, armingTimer := none, zeroRun := 0, cleanRun := 0, retries := 0, stallWait := none,
    baseline := List.replicate 8 none, q := 0, scratch := [], airflow := 0, confirmed := false, sweep := .none,
    learnTimer := none, doorClosed := false, allStop := false, supplyLow := false, compressor := .offHold }

/-- R48: filter accounting at reset. -/
def FilterState.atReset : FilterState :=
  { dose := 0, remainder := 0, fanSeconds := 0, minutes := 0, hours := 0, wear := 0, stage := .good, door := .unknown }

/-- R64, R66: drying at reset. -/
def Drying.atReset : Drying :=
  { comp := .offHold, offTime := 0, offTimer := none, extraHold := none, runTime := 0, runSeconds := 0,
    runSinceDefrost := 0, runTimer := none, runSecondDue := false, confirmTimer := none, frostRun := 0, defendRun := 0, defrostTimer := none,
    demand := .satisfied, timedTimer := none, warning := false, trips := [], uptime := 0, runHours := 0,
    runMinutes := 0, starts := 0, defrosts := 0, tripTotal := 0, door := .unknown, tank := none, supplyLow := false,
    fanStall := false, learnPending := false, mode := .normal, allStop := false }

/-- R94: the tank block at reset. -/
def TankBlock.atReset : TankBlock :=
  { highFloat := none, fullFloat := none, present := none, level := .absent, pump := .idle, onTime := none,
    afterRun := none, estimate := 0, estFull := false, oncePerFill := false, cycles := 0 }

/-- R109: the notice unit at reset, its line held. -/
def NoticeUnit.atReset : NoticeUnit := { conditions := 0, latched := 0, pulseTimer := none, held := true }

/-- R118: a lamp at reset. -/
def LampState.atReset : LampState := { pattern := .off, phase := .off, elapsed := 0, intensity := 0, timer := none }

/-- R118: the lamp engine at reset. -/
def LampEngine.atReset : LampEngine :=
  { filter := .atReset, tank := .atReset, tankCopy := none, tankHigh := false, pump := .idle, door := .unknown,
    stage := .good, progress := 0 }

/-- R125: the memory path at reset. What the load delivers stands at the default image, page 0 and zeros until then
(DESIGN CHOICE, notes/assumptions/6.md); the default wait byte gives the counts 7 and 7 that R125 states. -/
def MemoryPath.atReset : MemoryPath :=
  { page := 0, raw := defaultImage, working := Settings.ofRaw defaultImage, hexhStage := none,
    holders := List.replicate 26 none, armed := false, lastClamped := 0, lastStray := 0, quietTimer := none,
    protectedImage := List.replicate 40 0 }

/-- R147: the stored-image unit at power-on; the save timer starts at the load's completion. -/
def StoredImages.atReset : StoredImages :=
  { queue := [], target := 0, service := none, hold := .idle, holdReq := false, ackTimer := none, retryTimer := none,
    saveTimer := none, refusals := 0, lastSeq := 0, lastCheck := 0, changed := false, resetCause := .powerOn, pulse := none, drain := none }

/-- R162: the commands and supervision block at reset. That the supervision count stands at 0, stopped, until the load's
completion is a DESIGN CHOICE (notes/assumptions/6.md). -/
def CommandBlock.atReset : CommandBlock :=
  { lastCode := 0, status := .idle, awaited := .none, progress := 0, mode := .normal, allStop := false, count := 0,
    counting := none }

/-- No controller cycle yet. -/
def BusCycle.atReset : BusCycle := { toController := none, toMemory := none, waits := 0 }

/-- The part just after power-on (R156): every block in its reset state, nCRST asserted, the 10 ms before the load
running, the reset cause POWER_ON. Input levels are those of Config (notes/assumptions/5.md). -/
def State.reset : State :=
  { phase := .loadDelay, loadDelay := some { span := 10, elapsed := 0 },
    pins := { nresetLow := false, npfwLow := Config.powerFailLowAtReset, holdAck := Config.holdAckAtReset,
              highFloat := Config.switchLevelAtReset, fullFloat := Config.switchLevelAtReset,
              tankPresent := Config.switchLevelAtReset, door := Config.switchLevelAtReset },
    front := .atReset, air := .atReset, filter := .atReset, dry := .atReset, tank := .atReset, notice := .atReset,
    lamps := .atReset, path := .atReset, store := .atReset, cmd := .atReset, bus := .atReset, memory := [],
    pending := [] }

end Sys2Proof.Machine
end

