-- ==== Sys2Proof/Machine/Ops.lean ====
section
/-! DEFINITION. The named operations on timers, on the memory and on the bus that every block shares. -/

namespace Sys2Proof.Machine

/-! ### Timers -/

/-- A timer started, or restarted from 0, for `span` ms. -/
def startTimer (span : Nat) : Timer := some { span := span, elapsed := 0 }

/-- One more ms on a running timer; a tick never expires one (notes/assumptions/3.md). -/
def tickTimer (t : Timer) : Timer := t.map fun c => { c with elapsed := c.elapsed + 1 }

/-- One more ms on a running stopwatch. -/
def tickStopwatch (t : Stopwatch) : Stopwatch := t.map (· + 1)

/-- The whole seconds left on a timer, 0 while it is stopped (Table 17; notes/assumptions/13.md). -/
def secondsLeft (t : Timer) : Nat :=
  match t with
  | none => 0
  | some c => c.span / 1000 - c.elapsed / 1000

/-! ### Memory -/

/-- The byte the memory holds at an offset. -/
def Memory.read : Memory → Nat → Byte
  | [], _ => Config.unwrittenByte
  | (k, b) :: rest, a => if k = a then b else Memory.read rest a

/-- The memory with one byte written, in canonical form: an offset that reads as unwritten is not listed. -/
def Memory.write : Memory → Nat → Byte → Memory
  | [], a, v => if v = Config.unwrittenByte then [] else [(a, v)]
  | (k, b) :: rest, a, v =>
    if a < k then (if v = Config.unwrittenByte then (k, b) :: rest else (a, v) :: (k, b) :: rest)
    else if a = k then (if v = Config.unwrittenByte then rest else (a, v) :: rest)
    else (k, b) :: Memory.write rest a v

/-- The memory after a series of writes, each an offset and a byte, in order. -/
def Memory.writeAll (m : Memory) (ws : List (BitVec 15 × Byte)) : Memory :=
  ws.foldl (fun m w => m.write w.1.toNat w.2) m

/-- The canonical form, from a lower bound on: offsets strictly rising and inside the memory, no entry that reads as
unwritten. -/
def Memory.wfFrom : Nat → Memory → Bool
  | _, [] => true
  | lo, (k, b) :: rest =>
    decide (lo ≤ k) && decide (k < 0x8000) && decide (b ≠ Config.unwrittenByte) && Memory.wfFrom (k + 1) rest

/-- The canonical form of the memory. -/
def Memory.wf (m : Memory) : Bool := Memory.wfFrom 0 m

/-- The bytes at `count` window offsets of a page, from `off` up. -/
def readRun (m : Memory) (page : BitVec 7) (off count : Nat) : List Byte :=
  (List.range count).map fun i => m.read (address page (BitVec.ofNat 8 (off + i))).toNat

/-- The writes that put bytes at rising window offsets of a page, from `off` up. -/
def writesAt (page : BitVec 7) (off : Nat) : List Byte → List (BitVec 15 × Byte)
  | [] => []
  | b :: rest => (address page (BitVec.ofNat 8 off), b) :: writesAt page (off + 1) rest

/-! ### The protected image (R131) -/

/-- The place in the protected image of a window offset: 0xA0 to 0xC6, then 0xFE. -/
def protectedIndex (off : Byte) : Option Nat :=
  if 0xA0 ≤ off.toNat ∧ off.toNat ≤ 0xC6 then some (off.toNat - 0xA0)
  else if off.toNat = 0xFE then some 39
  else none

/-- R131: the byte the part drives to the memory in a write it does not forward. -/
def protectedByte (image : List Byte) (off : Byte) : Byte :=
  match protectedIndex off with
  | some i => image.getD i 0
  | none => 0

/-- The protected image after the part's own writes, of which it takes those on `page` (R131). -/
def protectedAfter (image : List Byte) (page : BitVec 7) (ws : List (BitVec 15 × Byte)) : List Byte :=
  ws.foldl (fun im w =>
    if w.1.toNat / 256 = page.toNat then
      match protectedIndex (BitVec.ofNat 8 (w.1.toNat % 256)) with
      | some i => im.set i w.2
      | none => im
    else im) image

/-! ### Controller cycles -/

/-- The part holds nCRST asserted: in a reset, a load or a drain, and in the supervision pulse (R161). -/
def State.controllerHeld (s : State) : Bool := decide (s.phase ≠ .running) || s.store.pulse.isSome

/-- The supervision pulse, if one runs, began in this instant: no idle step has passed a millisecond since
(DEDUCED, notes/assumptions/35.md). -/
def StoredImages.pulseAtStart (x : StoredImages) : Bool :=
  match x.pulse with
  | none => true
  | some timer => decide (timer.elapsed = 0)

/-- R146: the controller makes cycles, and the memory path takes them, except in a reset, a load or a drain, while the unit
holds the bus in BURST, and in the supervision pulse. A cycle of the instant in which the pulse begins is still taken
(R168, notes/assumptions/35.md). -/
def State.takesCycles (s : State) : Bool :=
  decide (s.phase = .running) && s.store.pulseAtStart && decide (s.store.hold ≠ .burst)

/-- A controller cycle: taken while the controller makes cycles, without effect otherwise (notes/assumptions/8.md). -/
def whenCycles (s : State) (f : State → State) : State := if s.takesCycles then f s else s

/-- An event of the running part: without effect in a reset, a load or a drain (R1 and its like). -/
def whenRunning (s : State) (f : State → State) : State := if s.phase = .running then f s else s

/-- R134: W of a setting write, an anchor write, and a write that is not forwarded. -/
def takenWriteWaits (w : Settings) : Nat := max w.waitMemory w.waitCell

/-- A byte the memory receives in a controller write, with W recorded (R129, R131, R134). -/
def busWrite (m : BitVec 15) (v : Byte) (waits : Nat) (s : State) : State :=
  (s.setMemory (s.memory.write m.toNat v)).setBus { toController := none, toMemory := some v, waits := waits }

/-- A byte presented to the controller in a read, with W recorded (R129, R130, R134). -/
def busRead (v : Byte) (waits : Nat) (s : State) : State :=
  s.setBus { toController := some v, toMemory := none, waits := waits }

end Sys2Proof.Machine
end

