-- ==== Sys2Proof/Machine/AirCore.lean ====
section
/-! DEFINITION. The air mover's own work: slots, arbitration, ramp, settling, stall monitor, airflow arithmetic
(R23 to R40). Each function acts on the air mover alone. -/

namespace Sys2Proof.Machine

/-! ### Slots -/

/-- R24: USER and AUTO from the mode, the fan speed and circulate while the mode state is NORMAL, absent in
STANDALONE. -/
def AirMover.formUserAuto (a : AirMover) (w : Settings) (m : ModeState) : AirMover :=
  match m with
  | .standalone => { a with user := none, auto := none }
  | .normal =>
    match w.mode with
    | .off => { a with user := none, auto := none }
    | .dry => { a with user := if w.circulate then some (w.speedDuty 1) else none, auto := none }
    | .clean | .cleanDry =>
      if w.fanSpeed = 0 then { a with user := none, auto := some (w.speedDuty (a.band + 1)) }
      else { a with user := some (w.speedDuty w.fanSpeed), auto := none }

/-- A present slot takes a new duty; an absent one stays absent (R23). -/
def redo (slot : Option Nat) (duty : Nat) : Option Nat := slot.map fun _ => duty

/-- R25: the band the thresholds imply. -/
def impliedBand (w : Settings) (p : Nat) : Nat :=
  if w.t3 ≤ p then 3 else if w.t2 ≤ p then 2 else if w.t1 ≤ p then 1 else 0

/-- R25: the lower threshold of a band above 0. -/
def lowerThreshold (w : Settings) (band : Nat) : Nat :=
  if band = 1 then w.t1 else if band = 2 then w.t2 else w.t3

/-- R25: the band after a window end with the particle value in use `p`. -/
def nextBand (w : Settings) (band p : Nat) : Nat :=
  if band < impliedBand w p then impliedBand w p
  else if 0 < band ∧ p < 4 * lowerThreshold w band / 5 then band - 1
  else band

/-! ### Arbitration, ramp and settling -/

/-- The duty of a slot, 0 for an absent one. -/
def slotDuty (slot : Option Nat) : Nat := slot.getD 0

/-- R27, step 3: the highest duty present, or 0. -/
def AirMover.highest (a : AirMover) : Nat :=
  max (slotDuty a.user) (max (slotDuty a.auto) (max (slotDuty a.drying) (max (slotDuty a.defrost)
    (max (slotDuty a.protect) (max (slotDuty a.standalone) (slotDuty a.learn))))))

/-- R27, step 1: the door or all-stop holds the fan at 0. -/
def AirMover.overridden (a : AirMover) : Bool := !a.doorClosed || a.allStop

/-- R27: the target arbitration chooses. -/
def AirMover.chosen (a : AirMover) : Nat :=
  if a.overridden then 0
  else match a.learn with
    | some d => d
    | none => a.highest

/-- In a stall state (R30). -/
def AirMover.stalled (a : AirMover) : Bool := decide (a.fan = .stallWait) || decide (a.fan = .stallLockout)

/-- R31: the monitor disarmed, its arming timer stopped and the zero run discarded. -/
def AirMover.disarm (a : AirMover) : AirMover := { a with armed := false, armingTimer := none, zeroRun := 0 }

/-- The effective duty becomes 0 at once: the ramp timer stops and the monitor is disarmed (R27, R31). -/
def AirMover.cutDuty (a : AirMover) : AirMover := { a.disarm with effective := 0, rampTimer := none }

/-- R44: a sweep point whose fan is no longer settled returns to settling, its readings discarded. -/
def Sweep.resettle : Sweep → Sweep
  | .none => .none
  | .waiting => .waiting
  | .measuring i _ => .measuring i .settling

/-- Settled ends and its timer stops (R29); the sweep's hold or readings end with it (R44). -/
def AirMover.unsettle (a : AirMover) : AirMover :=
  { a with settled := false, settledTimer := none, learnTimer := none, sweep := a.sweep.resettle }

/-- R27, R29: a target that differs is in force from this event, and settled ends. -/
def AirMover.retarget (a : AirMover) (t : Nat) : AirMover :=
  if t = a.target then a
  else
    let b := { a.unsettle with target := t }
    if b.effective = t ∧ 31 ≤ t then { b with settledTimer := startTimer 3000 } else b

/-- R30: outside the stall states the fan state follows the target. -/
def AirMover.follow (a : AirMover) : AirMover :=
  if a.stalled then a else { a with fan := if a.target = 0 then .stopped else .run }

/-- R28: the ramp timer runs while the effective duty differs from the target in RUN or STOPPED. -/
def AirMover.driveRamp (a : AirMover) : AirMover :=
  if a.stalled ∨ a.overridden ∨ a.effective = a.target then { a with rampTimer := none }
  else if a.rampTimer.isSome then a
  else { a with rampTimer := startTimer 100 }

/-- R27: arbitration, with what follows from its target in the same event. -/
def AirMover.arbitrate (a : AirMover) : AirMover :=
  let b := if a.overridden then a.cutDuty else a
  ((b.retarget a.chosen).follow).driveRamp

/-- R28: the effective duty after one ramp step. -/
def rampedDuty (w : Settings) (effective target : Nat) : Nat :=
  if effective = target then effective
  else if effective = 0 then 31
  else if effective < target then min target (effective + w.riseRate)
  else if 31 ≤ target then max target (effective - w.fallRate)
  else if 31 + w.fallRate ≤ effective then effective - w.fallRate
  else 0

/-- R28, R29, R31: one expiry of the ramp timer. -/
def AirMover.rampExpiry (a : AirMover) (w : Settings) : AirMover :=
  let d := rampedDuty w a.effective a.target
  let b :=
    if d = 0 then { a.disarm with effective := d }
    else if a.effective = 0 ∧ a.supplyLow = false then { a with effective := d, armingTimer := startTimer 2000 }
    else { a with effective := d }
  if d = a.target then
    { b with rampTimer := none, settledTimer := if 31 ≤ a.target then startTimer 3000 else none }
  else { b with rampTimer := startTimer 100 }

/-- R44: a settled fan starts the hold of the point being measured. -/
def AirMover.beginHold (a : AirMover) : AirMover :=
  match a.sweep with
  | .measuring i .settling =>
    if a.settled then { a with sweep := .measuring i .hold, learnTimer := startTimer 5000 } else a
  | _ => a

/-- R29: the settled timer's expiry. -/
def AirMover.settle (a : AirMover) : AirMover := AirMover.beginHold { a with settled := true, settledTimer := none }

/-- R26, R31: the supply-low state changes; stall detection starts afresh. -/
def AirMover.setSupplyLow (a : AirMover) (low : Bool) : AirMover :=
  let b := { a.disarm with supplyLow := low }
  if low = false ∧ 31 ≤ a.effective then { b with armingTimer := startTimer 2000 } else b

/-! ### Stall monitor -/

/-- R31: the zero run after a check. -/
def AirMover.nextZeroRun (a : AirMover) (rpm : Nat) : Nat :=
  if a.armed ∧ rpm = 0 then a.zeroRun + 1 else 0

/-- R32: the check that completes 3 s from the first check of a zero run is its thirty-first. -/
def AirMover.stallsAt (a : AirMover) (rpm : Nat) : Bool := decide (31 ≤ a.nextZeroRun rpm)

/-- R32: the air mover's own part of a stall. -/
def AirMover.stall (a : AirMover) : AirMover :=
  { a.cutDuty.unsettle with
    retries := a.retries + 1
    fan := if 3 ≤ a.retries + 1 then .stallLockout else .stallWait
    stallWait := if 3 ≤ a.retries + 1 then none else startTimer 30000
    cleanRun := 0 }

/-- R34: the clean run after a check, for a timer that is in use. -/
def AirMover.nextCleanRun (a : AirMover) (rpm : Nat) : Nat :=
  if a.fan = .run ∧ 31 ≤ a.effective ∧ 0 < rpm then a.cleanRun + 1 else 0

/-- R33, R35: RUN or STOPPED according to the target; in RUN the ramp starts from 0. -/
def AirMover.leaveStall (a : AirMover) : AirMover :=
  AirMover.driveRamp { a with fan := if a.target = 0 then .stopped else .run, stallWait := none }

/-! ### Airflow -/

/-- The duty point d_i of the baseline (AIRFLOW AND RESTRICTION). -/
def dutyPoint (i : Nat) : Nat := 32 * i + 31

/-- R37: the base at a duty, `none` where it is undefined. -/
def baseAt (baseline : List (Option Nat)) (d : Nat) : Option Int :=
  if d < 31 then none
  else
    let i := (d - 31) / 32
    if i = 7 then (baseline.getD 7 none).map Int.ofNat
    else
      match baseline.getD i none, baseline.getD (i + 1) none with
      | some lo, some hi => some ((lo : Int) + ((hi : Int) - lo) * ((d : Int) - dutyPoint i) / 32)
      | _, _ => none

/-- R38: the restriction from the speed and the base. -/
def restriction (rpm : Nat) (base : Int) : Nat :=
  if (rpm : Int) - base ≤ 0 then 0
  else (min 255 (((rpm : Int) - base) * 1024 / base)).toNat

/-- R38: Q as computed in a period, `none` where the conditions do not hold. -/
def AirMover.computedQ (a : AirMover) (tachValid : Bool) (rpm : Nat) : Option Nat :=
  match baseAt a.baseline a.effective with
  | none => none
  | some b => if a.settled ∧ tachValid ∧ 1 ≤ b then some (restriction rpm b) else none

/-- R39: the nominal airflow at a duty. -/
def nominalAirflow (w : Settings) (d : Nat) : Nat := d * w.fmaxM3h / 255

/-- R39: the airflow at a duty and a held restriction. -/
def airflowAt (w : Settings) (d q : Nat) : Nat := nominalAirflow w d * (256 - q) / 256

/-- R36, steps 1 to 4: one airflow period. -/
def AirMover.airflowPeriod (a : AirMover) (w : Settings) (tachValid : Bool) (rpm : Nat) : AirMover :=
  let computed := a.computedQ tachValid rpm
  let q := computed.getD a.q
  { a with q := q, airflow := airflowAt w a.effective q, confirmed := computed.isSome }

end Sys2Proof.Machine
end

