-- ==== Sys2Proof/Machine/Lamps.lean ====
section
/-! DEFINITION. The lamp engine (R118 to R124). -/

namespace Sys2Proof.Machine

/-- R120, tank lamp: the first case that applies. -/
def LampEngine.autoTank (e : LampEngine) : Pattern :=
  if e.tankCopy = some .absent then .on
  else if e.tankCopy = some .full then .fastBlink
  else if e.tankHigh then .blink
  else if e.pump = .running then .breathe
  else .off

/-- R120, filter lamp: the first case that applies. -/
def LampEngine.autoFilter (e : LampEngine) : Pattern :=
  if e.door = .opened then .on
  else if e.stage = .exhausted then .fastBlink
  else if e.stage = .worn then .breathe
  else if 1 ≤ e.progress ∧ e.progress ≤ 9 then .blink
  else .off

/-- R119: the pattern each lamp's source selects. -/
def LampEngine.selected (e : LampEngine) (w : Settings) (l : Lamp) : Pattern :=
  match l with
  | .filter => if w.filterLampControlled then w.filterLampPattern else e.autoFilter
  | .tank => if w.tankLampControlled then w.tankLampPattern else e.autoTank

/-- R121: the first phase of a pattern. -/
def Pattern.firstPhase : Pattern → LampPhase
  | .off => .off
  | .on => .on
  | .blink => .on
  | .fastBlink => .on
  | .breathe => .rise

/-- Whether a pattern's phase timer runs: it stops for ON and OFF (R121). -/
def Pattern.timed : Pattern → Bool
  | .off => false
  | .on => false
  | .blink => true
  | .fastBlink => true
  | .breathe => true

/-- R122: the duration in ms of a phase of a timed pattern. -/
def phaseDuration (p : Pattern) (ph : LampPhase) : Nat :=
  match p with
  | .blink => 500
  | .fastBlink => 200
  | _ => if ph = .rise ∨ ph = .fall then 1000 else 500

/-- R122: the phase after one of a timed pattern. -/
def nextPhase (p : Pattern) (ph : LampPhase) : LampPhase :=
  match p with
  | .breathe =>
    match ph with
    | .rise => .high
    | .high => .fall
    | .fall => .low
    | _ => .rise
  | _ => if ph = .on then .off else .on

/-- R123: the intensity in a phase at an elapsed time. -/
def phaseIntensity (level elapsed : Nat) (ph : LampPhase) : Nat :=
  match ph with
  | .on | .high => level
  | .off | .low => 0
  | .rise => level * elapsed / 1000
  | .fall => level * (1000 - elapsed) / 1000

/-- R121: a selected pattern applied to a lamp; the pattern it already has leaves it undisturbed. -/
def LampState.apply (l : LampState) (level : Nat) (p : Pattern) : LampState :=
  if p = l.pattern then l
  else { pattern := p, phase := p.firstPhase, elapsed := 0, intensity := phaseIntensity level 0 p.firstPhase,
         timer := if p.timed then startTimer 10 else none }

/-- R122, R123: one expiry of a running phase timer. -/
def LampState.expiry (l : LampState) (level : Nat) : LampState :=
  if phaseDuration l.pattern l.phase ≤ l.elapsed + 10 then
    { l with phase := nextPhase l.pattern l.phase, elapsed := 0,
             intensity := phaseIntensity level 0 (nextPhase l.pattern l.phase), timer := startTimer 10 }
  else
    { l with elapsed := l.elapsed + 10, intensity := phaseIntensity level (l.elapsed + 10) l.phase,
             timer := startTimer 10 }

/-- R123: a write of the lamp level acts at once on a lamp in phase ON or HIGH. -/
def LampState.newLevel (l : LampState) (level : Nat) : LampState :=
  if l.phase = .on ∨ l.phase = .high then { l with intensity := level } else l

/-- R124: the lamp drive output. -/
def lampOutput (perceptual : Bool) (intensity : Nat) : Nat :=
  if perceptual then intensity * intensity / 255 else intensity

/-- R119: both lamps select their patterns again. -/
def LampEngine.select (e : LampEngine) (w : Settings) : LampEngine :=
  { e with filter := e.filter.apply w.lampLevel (e.selected w .filter)
           tank := e.tank.apply w.lampLevel (e.selected w .tank) }

/-- A change of the lamp engine's copies, followed by the selection (R119). -/
def updateLamps (f : LampEngine → LampEngine) (s : State) : State :=
  s.setLamps ((f s.lamps).select s.path.working)

/-- LAMP_PHASE_TIMER (R122): the lamp's 10 ms expiry, without effect while its timer is stopped. -/
def execLampPhaseTimer (lamp : Lamp) (s : State) : Host.Outcome State Fault Refusal :=
  .next (match lamp with
    | .filter =>
      if s.lamps.filter.timer.isSome then
        s.setLamps { s.lamps with filter := s.lamps.filter.expiry s.path.working.lampLevel }
      else s
    | .tank =>
      if s.lamps.tank.timer.isSome then
        s.setLamps { s.lamps with tank := s.lamps.tank.expiry s.path.working.lampLevel }
      else s)

end Sys2Proof.Machine
end

