-- ==== Sys2Proof/Machine/Flags.lean ====
section
/-! DEFINITION. The notice unit: the 24 flags of Table 22, latching, clearing, the notice line and the summary
(R109 to R117). -/

namespace Sys2Proof.Machine

/-- The flags of Table 22. -/
inductive Flag where
  | supplyLow | condHotWarn | defrostLong | filterWorn | floatCheck | learnAborted | holdRefused | settingsDefaulted
  | wearLost | strayWrite | settingClamped | commandRefused
  | tankFull | tankAbsent | pumpFail | filterExhausted | filterDoor | fanStall | airflowLow | compTrip | compLockout
  | sensorFault | standalone | tankHigh
  deriving DecidableEq, Repr

/-- The number of a flag (Table 22). -/
def Flag.number : Flag → Nat
  | .supplyLow => 1 | .condHotWarn => 2 | .defrostLong => 3 | .filterWorn => 4 | .floatCheck => 5 | .learnAborted => 6
  | .holdRefused => 7 | .settingsDefaulted => 8 | .wearLost => 9 | .strayWrite => 10 | .settingClamped => 11
  | .commandRefused => 12 | .tankFull => 13 | .tankAbsent => 14 | .pumpFail => 15 | .filterExhausted => 16
  | .filterDoor => 17 | .fanStall => 18 | .airflowLow => 19 | .compTrip => 20 | .compLockout => 21 | .sensorFault => 22
  | .standalone => 23 | .tankHigh => 24

/-- The bit of a flag in the 24-bit sets. -/
def Flag.bit (f : Flag) : BitVec 24 := 1#24 <<< (f.number - 1)

/-- Flags 1 to 12, the pulse class. -/
def pulseClass : BitVec 24 := 0x000FFF#24

/-- Flags 13 to 24, the level class. -/
def levelClass : BitVec 24 := 0xFFF000#24

/-- Whether a flag's bit is set in a set of flags. -/
def hasFlag (set : BitVec 24) (f : Flag) : Bool := set.getLsbD (f.number - 1)

/-- R114: at least one level-class flag is both latched and unmasked. -/
def NoticeUnit.levelTerm (n : NoticeUnit) (masks : BitVec 24) : Bool :=
  decide (n.latched &&& ~~~masks &&& levelClass ≠ 0)

/-- R114, R115: the line is asserted while either term is true, apart from the hold of R109. -/
def NoticeUnit.line (n : NoticeUnit) (masks : BitVec 24) : Bool :=
  !n.held && (n.levelTerm masks || n.pulseTimer.isSome)

/-- R111, R115: one occurrence of a pulse-class flag. For an unmasked occurrence while the timer runs and the level term is
true two sentences of R115 differ; that it leaves the timer running, not restarted, is a DESIGN CHOICE
(notes/assumptions/32.md). -/
def NoticeUnit.occur (n : NoticeUnit) (masks : BitVec 24) (f : Flag) : NoticeUnit :=
  { n with
    latched := n.latched ||| f.bit
    pulseTimer :=
      if hasFlag masks f || n.levelTerm masks || n.held then n.pulseTimer else startTimer 20 }

/-- R110, R111: a report of a level-class condition. The flag latches in the event in which it becomes present. -/
def NoticeUnit.condition (n : NoticeUnit) (f : Flag) (isPresent : Bool) : NoticeUnit :=
  if isPresent then
    if hasFlag n.conditions f then n
    else { n with conditions := n.conditions ||| f.bit, latched := n.latched ||| f.bit }
  else { n with conditions := n.conditions &&& ~~~f.bit }

/-- Byte `k` of a set of flags: flags 1–8, 9–16 or 17–24 (Table 32). -/
def flagByte (set : BitVec 24) (k : Nat) : Byte := set.extractLsb' (8 * k) 8

/-- The set of flags that a byte written to latched cell `k` names. -/
def flagsNamed (k : Nat) (v : Byte) : BitVec 24 := (v.setWidth 24) <<< (8 * k)

/-- R113: each named flag becomes clear, but for a level-class flag whose condition is present. -/
def NoticeUnit.clear (n : NoticeUnit) (named : BitVec 24) : NoticeUnit :=
  { n with latched := n.latched &&& ~~~(named &&& (pulseClass ||| ~~~n.conditions)) }

/-- R116: the number of the lowest-numbered flag that is latched and unmasked, or 0. -/
def NoticeUnit.summary (n : NoticeUnit) (masks : BitVec 24) : Nat :=
  match (List.range 24).find? fun i => (n.latched &&& ~~~masks).getLsbD i with
  | some i => i + 1
  | none => 0

/-- R116, R117: what a summary read leaves: under auto-clear, the returned pulse-class flag is clear. -/
def NoticeUnit.afterSummary (n : NoticeUnit) (masks : BitVec 24) (autoClear : Bool) : NoticeUnit :=
  let k := n.summary masks
  if autoClear && decide (1 ≤ k) && decide (k ≤ 12) then
    { n with latched := n.latched &&& ~~~(1#24 <<< (k - 1)) }
  else n

/-- R115: the pulse timer's expiry. -/
def NoticeUnit.pulseExpiry (n : NoticeUnit) : NoticeUnit := { n with pulseTimer := none }

/-- One occurrence of a pulse-class flag, under the working masks. -/
def raise (f : Flag) (s : State) : State := s.setNotice (s.notice.occur s.path.working.masks f)

/-- A report of a level-class condition, without the judgement of all-stop (`reportCondition` adds it). -/
def setCondition (f : Flag) (isPresent : Bool) (s : State) : State := s.setNotice (s.notice.condition f isPresent)

/-- PULSE_TIMER_EXPIRY (R115). -/
def execPulseTimerExpiry (s : State) : Host.Outcome State Fault Refusal :=
  .next (if s.notice.pulseTimer.isSome then s.setNotice s.notice.pulseExpiry else s)

end Sys2Proof.Machine
end

