-- ==== Sys2Proof/Machine/Store.lean ====
section
/-! DEFINITION. The stored-image unit's own work: the persistence queue (R148), the hold protocol's states (R150, R151),
snapshots (R152) and the bytes of a burst (R153). -/

namespace Sys2Proof.Machine

/-- The 15 min of the save timer, in ms (R147). -/
def saveSpan : Nat := 900000

/-! ### The queue -/

/-- R147: a WINDOW_MOVE is pending while it is in the queue or is the job in service. -/
def StoredImages.movePending (x : StoredImages) : Bool :=
  x.queue.contains .windowMove ||
    match x.service with
    | some (.windowMove _ _ _) => true
    | _ => false

/-- R148: a non-urgent CRC_UPDATE or WEAR_SAVE: dropped, merged or appended. -/
def StoredImages.request (x : StoredImages) (j : Job) : StoredImages :=
  if x.movePending then x
  else if x.queue.contains j then x
  else { x with queue := x.queue ++ [j] }

/-- R148: an urgent WEAR_SAVE: merged or new, it stands at the head. -/
def StoredImages.requestUrgentSave (x : StoredImages) : StoredImages :=
  { x with queue := .wearSave :: x.queue.filter (· ≠ .wearSave) }

/-- R148: a WINDOW_MOVE: it removes the other kinds, or a queued move takes the new target. -/
def StoredImages.requestMove (x : StoredImages) (page : BitVec 7) : StoredImages :=
  if x.queue.contains .windowMove then { x with target := page }
  else { x with queue := x.queue.filter (fun j => j ≠ .crcUpdate ∧ j ≠ .wearSave) ++ [.windowMove], target := page }

/-- R154: a cut job returned to the queue as a new request of its kind, at the head and not at the tail; a WINDOW_MOVE
keeps its target (notes/assumptions/15.md). -/
def StoredImages.returnJob (x : StoredImages) (sv : Service) : StoredImages :=
  match sv with
  | .crcUpdate _ =>
    if x.movePending then x else { x with queue := .crcUpdate :: x.queue.filter (· ≠ .crcUpdate) }
  | .wearSave _ =>
    if x.movePending then x else { x with queue := .wearSave :: x.queue.filter (· ≠ .wearSave) }
  | .windowMove _ _ page => x.requestMove page

/-! ### The hold -/

/-- HOLDREQ raised and REQUESTING entered, the acknowledge timer running for 20 ms (R150). -/
def StoredImages.enterRequesting (x : StoredImages) : StoredImages :=
  { x with hold := .requesting, holdReq := true, ackTimer := startTimer 20, retryTimer := none }

/-- R150: in IDLE the unit asks for the bus once the queue holds a job and HOLDACK is low. -/
def StoredImages.ask (x : StoredImages) (holdAck : Bool) : StoredImages :=
  if x.hold = .idle ∧ x.queue ≠ [] ∧ holdAck = false then x.enterRequesting else x

/-- RETRY_WAIT with its 1 s timer, HOLDREQ low (R151, R154). -/
def StoredImages.enterRetryWait (x : StoredImages) : StoredImages :=
  { x with hold := .retryWait, holdReq := false, ackTimer := none, retryTimer := startTimer 1000 }

/-- The record-changed mark set by a report of a change (R149). -/
def markChanged (s : State) : State := s.setStore { s.store with changed := true }

/-- The record-changed mark set if something did change. -/
def markIf (b : Bool) (s : State) : State := if b then markChanged s else s

/-- A non-urgent CRC_UPDATE or WEAR_SAVE request, then the hold protocol's question for the bus (R148 to R150). -/
def requestJob (j : Job) (s : State) : State := s.setStore ((s.store.request j).ask s.pins.holdAck)

/-- An urgent WEAR_SAVE request (R148 to R150). -/
def requestUrgent (s : State) : State := s.setStore (s.store.requestUrgentSave.ask s.pins.holdAck)

/-! ### The wear record (Table 33) -/

/-- The code of a filter stage (Table 33). -/
def Stage.code : Stage → Nat
  | .good => 0
  | .worn => 1
  | .exhausted => 2

/-- R48: a stage byte that names no stage is taken as EXHAUSTED. -/
def stageOfByte (b : Byte) : Stage :=
  if b = 0#8 then .good else if b = 1#8 then .worn else .exhausted

/-- A value as `n` bytes, least significant first. -/
def leBytes (value n : Nat) : List Byte := (List.range n).map (leByte value)

/-- The 38 record bytes 0xA0 to 0xC5 from the working values of their owners, with the save sequence `seq` (R152). -/
def recordBytes (s : State) (seq : Byte) : List Byte :=
  leBytes s.filter.dose 3 ++ leBytes s.filter.remainder 3 ++ leBytes s.filter.hours 2 ++ leBytes s.filter.minutes 1
  ++ leBytes s.filter.stage.code 1
  ++ leBytes s.dry.runHours 2 ++ leBytes s.dry.runMinutes 1 ++ leBytes s.dry.starts 2 ++ leBytes s.dry.defrosts 2
  ++ leBytes s.tank.cycles 2 ++ leBytes s.dry.tripTotal 1
  ++ (List.range 8).flatMap (fun i => leBytes ((s.air.baseline.getD i none).getD 0) 2)
  ++ [seq] ++ leBytes s.air.q 1

/-- A record with its save sequence, at 0xC4, replaced. -/
def withSequence (record : List Byte) (seq : Byte) : List Byte := record.set 0x24 seq

/-! ### Bursts -/

/-- Table 27: the writes of a WEAR_SAVE, the record check byte last. -/
def saveWrites (page : BitVec 7) (record : List Byte) : List (BitVec 15 × Byte) :=
  writesAt page 0xA0 record ++ [(address page 0xC6#8, crc8 record)]

/-- Table 27: the writes of a WINDOW_MOVE at its target page. -/
def moveWrites (page : BitVec 7) (raw record : List Byte) : List (BitVec 15 × Byte) :=
  writesAt page 0x00 raw ++ [(address page 0xFE#8, crc8 raw)] ++ saveWrites page record

/-- R153, Table 27: the bytes of the job in service in writing order; `page` is the window page. -/
def burstWrites (page : BitVec 7) (sv : Service) : List (BitVec 15 × Byte) :=
  match sv with
  | .crcUpdate check => [(address page 0xFE#8, check)]
  | .wearSave record => saveWrites page record
  | .windowMove raw record target => moveWrites target raw record

/-- R152: the job taken into service with its snapshots. -/
def snapshot (s : State) (j : Job) : Service :=
  match j with
  | .crcUpdate => .crcUpdate (crc8 s.path.raw)
  | .wearSave => .wearSave (recordBytes s (s.store.lastSeq + 1))
  | .windowMove => .windowMove s.path.raw (recordBytes s (s.store.lastSeq + 1)) s.store.target

/-- R160: a queued job of a restart's drain, written from the snapshots of R159. -/
def drainService (x : StoredImages) (d : Drain) (j : Job) : Service :=
  match j with
  | .crcUpdate => .crcUpdate (crc8 d.raw)
  | .wearSave => .wearSave (withSequence d.record (x.lastSeq + 1))
  | .windowMove => .windowMove d.raw (withSequence d.record (x.lastSeq + 1)) x.target

/-- The record a job writes, if it writes one. -/
def Service.record? : Service → Option (List Byte)
  | .crcUpdate _ => none
  | .wearSave record => some record
  | .windowMove _ record _ => some record

/-- R153: what a completed job leaves in the unit: for a save or a move, the last completed save. -/
def StoredImages.recordSave (x : StoredImages) (sv : Service) : StoredImages :=
  match sv.record? with
  | none => x
  | some record => { x with lastSeq := record.getD 0x24 0, lastCheck := crc8 record }

/-- R131, R145: what the written bytes of a job leave in the memory path: a completed move switches the page, and its
bytes become the protected image; another job's bytes stand at the window page. -/
def MemoryPath.takeBurst (p : MemoryPath) (sv : Service) : MemoryPath :=
  match sv with
  | .windowMove _ _ target =>
    { p with page := target, protectedImage := protectedAfter p.protectedImage target (burstWrites p.page sv) }
  | _ => { p with protectedImage := protectedAfter p.protectedImage p.page (burstWrites p.page sv) }

/-- The first `n` bytes of a job that was cut: they stand in the memory; those of a save or check-byte job stand in the
protected image as well, those gathered for a move are discarded (R154). -/
def MemoryPath.takeCut (p : MemoryPath) (sv : Service) (n : Nat) : MemoryPath :=
  match sv with
  | .windowMove _ _ _ => p
  | _ => { p with protectedImage := protectedAfter p.protectedImage p.page ((burstWrites p.page sv).take n) }

end Sys2Proof.Machine
end

