-- ==== Sys2Proof/Machine/Links.lean ====
section
/-! DEFINITION. What one block's event does in its neighbours: the compressor's state reports, the start and stop rules of
drying that hold "in any event after which", the sweep's start, points and abandonment, and all-stop
(R42 to R47, R66 to R80, R171). -/

namespace Sys2Proof.Machine

/-! ### Learn progress and the sweep's points -/

/-- R166: a new learn progress value at the commands and supervision block. -/
def CommandBlock.newProgress (c : CommandBlock) (p : Nat) : CommandBlock :=
  if c.awaited = .sweep ∧ p = 10 then { c with progress := p, status := .done, awaited := .none }
  else if c.awaited = .sweep ∧ p = 11 then { c with progress := p, status := .aborted, awaited := .none }
  else { c with progress := p }

/-- R47: a new learn progress value, to the commands and supervision block and to the lamp engine. -/
def reportProgress (p : Nat) (s : State) : State :=
  updateLamps (fun e => { e with progress := p }) (s.setCmd (s.cmd.newProgress p))

/-- R44: the air mover begins to measure a point. -/
def AirMover.measure (a : AirMover) (i : Nat) : AirMover :=
  (AirMover.arbitrate
    { a with sweep := .measuring i .settling, learn := some (dutyPoint i), learnTimer := none }).beginHold

/-- R44: measuring point `i` begins, with its progress value. -/
def measurePoint (i : Nat) (s : State) : State := reportProgress (2 + i) (s.setAir (s.air.measure i))

/-- R42, R43: the states in which the sweep waits for the compressor. -/
def CompState.occupied : CompState → Bool
  | .preRun | .running | .defrost => true
  | .offHold | .offReady | .tripped | .lockedOut => false

/-- R43: WAITING ends in an event after which the compressor is in none of PRE_RUN, RUNNING and DEFROST and the door is
closed. -/
def leaveWaiting (s : State) : State :=
  if s.air.sweep = .waiting ∧ s.air.compressor.occupied = false ∧ s.air.doorClosed = true then measurePoint 0 s else s

/-! ### The compressor's states -/

/-- R23, Table 9: the slots the compressor state determines. -/
def AirMover.takeCompressor (a : AirMover) (w : Settings) (c : CompState) : AirMover :=
  AirMover.arbitrate
    { a with compressor := c
             drying := if c = .preRun ∨ c = .running then some w.dryDuty else none
             defrost := if c = .defrost then some w.defrostDuty else none }

/-- R72: a change of compressor state, reported to the air mover in the same event. -/
def setComp (c : CompState) (s : State) : State :=
  leaveWaiting
    ((s.setDry { s.dry with comp := c }).setAir (s.air.takeCompressor s.path.working c))

/-- R69, R70: whether the demand is on. -/
def Demand.isOn : Demand → Bool
  | .satisfied => false
  | .demand => true
  | .timed on => on

/-- R68: whether drying is allowed. -/
def dryingAllowed (w : Settings) (m : ModeState) : Bool :=
  match m with
  | .standalone => true
  | .normal => decide (w.mode = .dry) || decide (w.mode = .cleanDry)

/-- R74: all the start permissions. -/
def permissions (s : State) : Bool :=
  (decide (s.dry.tank = some .normal) || decide (s.dry.tank = some .high))
    && decide (s.dry.door = .closed)
    && !s.dry.supplyLow
    && !s.dry.fanStall
    && !s.dry.learnPending
    && (decide (s.front.tcond.status = .valid) && decide (s.front.tcond.value < (s.path.working.trip : Int) * 10))
    && (decide (s.front.troom.status = .unmeasured) || decide ((s.path.working.tmin : Int) * 10 ≤ s.front.troom.value))
    && !s.dry.allStop

/-- R73: the off time meets min off and no extra hold runs. -/
def Drying.holdDone (d : Drying) (w : Settings) : Bool :=
  decide (w.minOffSeconds ≤ d.offTime) && d.extraHold.isNone

/-- R73: OFF_HOLD passes to OFF_READY once its holds are done; OFF_READY and PRE_RUN fall back when min off is raised
above the off time. -/
def judgeHold (s : State) : State :=
  match s.dry.comp with
  | .offHold => if s.dry.holdDone s.path.working then setComp .offReady s else s
  | .offReady => if s.dry.offTime < s.path.working.minOffSeconds then setComp .offHold s else s
  | .preRun =>
    if s.dry.offTime < s.path.working.minOffSeconds then setComp .offHold (s.setDry { s.dry with confirmTimer := none })
    else s
  | .running | .defrost | .tripped | .lockedOut => s

/-- R75: the demand is on and every permission holds. -/
def startHolds (s : State) : Bool := s.dry.demand.isOn && permissions s

/-- R75: OFF_READY passes to PRE_RUN, and PRE_RUN back to OFF_READY. -/
def judgeStart (s : State) : State :=
  match s.dry.comp with
  | .offReady =>
    if startHolds s then setComp .preRun (s.setDry { s.dry with confirmTimer := startTimer 30000 }) else s
  | .preRun =>
    if startHolds s then s else setComp .offReady (s.setDry { s.dry with confirmTimer := none })
  | .offHold | .running | .defrost | .tripped | .lockedOut => s

/-- What turning the drive output off does to drying's timers (R73, R78): the off-time timer starts from 0, the frost run
and the run-second timer stop. -/
def Drying.outputOff (d : Drying) : Drying :=
  { d with offTime := 0, offTimer := startTimer 1000, frostRun := 0, runTimer := none }

/-- A stop to OFF_HOLD: the output off, and a run-second expiry of the same instant still to be taken if the timer ran
(R80, R107; DEDUCED, notes/assumptions/33.md). -/
def Drying.stopRun (d : Drying) : Drying := { d.outputOff with runSecondDue := d.runTimer.isSome }

/-- R78, R80: a stop of a RUNNING compressor to OFF_HOLD, with R73 applied in the event. -/
def stopCompressor (s : State) : State := judgeHold (setComp .offHold (s.setDry s.dry.stopRun))

/-- R78: the immediate stop: a RUNNING compressor stops whatever its run time. -/
def immediateStop (s : State) : State := if s.dry.comp = .running then stopCompressor s else s

/-- R80: one of the three reasons of the deferred stop holds. -/
def deferredReason (s : State) : Bool :=
  !s.dry.demand.isOn || s.dry.learnPending || decide (s.front.tcond.status ≠ .valid)

/-- R80: the deferred stop, once min run has elapsed. -/
def judgeDeferred (s : State) : State :=
  if s.dry.comp = .running ∧ s.path.working.minRunSeconds ≤ s.dry.runTime ∧ deferredReason s = true then
    stopCompressor s
  else s

/-- Drying's rules that act in any event that reaches it: R80, R73, R75. -/
def judgeDrying (s : State) : State := judgeStart (judgeHold (judgeDeferred s))

/-! ### Humidity demand -/

/-- R68: the setpoint in use, in %. -/
def setpointInUse (w : Settings) (m : ModeState) : Nat :=
  match m with
  | .normal => w.rhSetpoint
  | .standalone => w.standaloneRhSetpoint

/-- R68: the on threshold, in tenths of % RH. -/
def onThreshold (w : Settings) (m : ModeState) : Int := ((setpointInUse w m : Int) + w.bandOn) * 10

/-- R68: the off threshold, in tenths of % RH. -/
def offThreshold (w : Settings) (m : ModeState) : Int := ((setpointInUse w m : Int) - w.bandOff) * 10

/-- R69, R71: the demand state of an allowed drying with RH VALID. -/
def Demand.follow (x : Demand) (rh hi lo : Int) : Demand :=
  if hi ≤ rh then .demand
  else if rh ≤ lo then .satisfied
  else if x.isOn then .demand else .satisfied

/-- R68 to R71: one evaluation of the humidity demand. -/
def Drying.evaluateDemand (d : Drying) (w : Settings) (rh : ChannelState) : Drying :=
  if dryingAllowed w d.mode then
    match rh.status with
    | .unmeasured => d
    | .valid =>
      { d with demand := d.demand.follow rh.value (onThreshold w d.mode) (offThreshold w d.mode), timedTimer := none }
    | .faulted =>
      match d.demand with
      | .timed _ => d
      | _ => { d with demand := .timed true, timedTimer := startTimer 3600000 }
  else { d with demand := .satisfied, timedTimer := none }

/-- One evaluation of the humidity demand in the state. -/
def evaluateDemand (s : State) : State := s.setDry (s.dry.evaluateDemand s.path.working s.front.rh)

/-! ### All-stop -/

/-- R171: the conditions that start all-stop. -/
def allStopConditions : BitVec 24 :=
  Flag.tankFull.bit ||| Flag.pumpFail.bit ||| Flag.filterExhausted.bit ||| Flag.fanStall.bit ||| Flag.compTrip.bit
    ||| Flag.sensorFault.bit

/-- A start or an end of all-stop, reported to the air mover and to drying (R26, R66). -/
def setAllStop (on : Bool) (s : State) : State :=
  let s := s.setCmd { s.cmd with allStop := on }
  let s := s.setAir (AirMover.arbitrate { s.air with allStop := on })
  let s := s.setDry { s.dry with allStop := on }
  judgeDrying (if on then immediateStop s else s)

/-- R171: under STOP_ALL in STANDALONE, all-stop begins in the event in which one of its conditions is present. -/
def judgeAllStop (s : State) : State :=
  if s.cmd.mode = .standalone ∧ s.path.working.stopAll = true ∧ s.cmd.allStop = false
      ∧ s.notice.conditions &&& allStopConditions ≠ 0 then
    setAllStop true s
  else s

/-- R110, R171: a report of a level-class condition to the notice unit, and the fault policy's judgement of it. -/
def reportCondition (f : Flag) (isPresent : Bool) (s : State) : State := judgeAllStop (setCondition f isPresent s)

/-! ### The sweep -/

/-- R47: drying is told whether a learn is pending, and acts on it. -/
def tellLearnPending (b : Bool) (s : State) : State := judgeDrying (s.setDry { s.dry with learnPending := b })

/-- R42, R43: a sweep starts. -/
def startSweep (s : State) : State :=
  let s := tellLearnPending true (s.setAir { s.air with scratch := [] })
  if s.air.compressor.occupied || !s.air.doorClosed then reportProgress 1 (s.setAir { s.air with sweep := .waiting })
  else measurePoint 0 s

/-- The air mover without a sweep: the scratch table empty and LEARN absent, followed by arbitration (R45, R46). -/
def AirMover.endSweep (a : AirMover) : AirMover :=
  AirMover.arbitrate { a with sweep := .none, scratch := [], learn := none, learnTimer := none }

/-- R46: a sweep in WAITING or measuring is abandoned; without one nothing happens. -/
def abandonSweep (s : State) : State :=
  if s.air.sweep = .none then s
  else
    let s := reportProgress 11 (s.setAir s.air.endSweep)
    raise .learnAborted (tellLearnPending false s)

end Sys2Proof.Machine
end

