-- ==== Sys2Proof/Machine/Filter.lean ====
section
/-! DEFINITION. Filter accounting (R48 to R63): dose, filter time, wear index, stage, door and reset. -/

namespace Sys2Proof.Machine

/-- The largest dose (Table 13). -/
def doseTop : Nat := 16777215

/-- One mg in units of the remainder (R50). -/
def doseUnit : Nat := 3600000

/-- R11: the particle value in use. -/
def particleInUse (f : FrontEnd) (w : Settings) : Nat :=
  if f.particle.status = .valid then f.particle.value else w.fallback

/-- R50, R51: `add` joins the dose remainder; a saturated dose leaves both as they are. -/
def FilterState.addDose (f : FilterState) (add : Nat) : FilterState :=
  if doseTop ≤ f.dose then f
  else if doseUnit ≤ f.remainder + add then
    { f with dose := f.dose + 1, remainder := f.remainder + add - doseUnit }
  else { f with remainder := f.remainder + add }

/-- R53: one counted fan-second, with its carries. -/
def FilterState.addSecond (f : FilterState) : FilterState :=
  if f.fanSeconds + 1 < 60 then { f with fanSeconds := f.fanSeconds + 1 }
  else if f.minutes + 1 < 60 then { f with fanSeconds := 0, minutes := f.minutes + 1 }
  else { f with fanSeconds := 0, minutes := 0, hours := satAdd 65535 f.hours 1 }

/-- R50, R53: what a dose period does to the counters. -/
def FilterState.period (f : FilterState) (add effective : Nat) : FilterState :=
  if 0 < effective then (f.addDose add).addSecond else f.addDose add

/-- R54: the dose share. -/
def doseShare (w : Settings) (dose : Nat) : Nat := dose / (w.dexh * 10)
/-- R54: the restriction share. -/
def restrictionShare (w : Settings) (q : Nat) : Nat := q * 100 / w.qexh
/-- R54: the time share. -/
def timeShare (w : Settings) (hours : Nat) : Nat := hours * 100 / (w.hexh * 24)

/-- R54: the wear index. -/
def wearIndex (w : Settings) (f : FilterState) (q : Nat) : Nat :=
  min 100 (max (doseShare w f.dose) (max (restrictionShare w q) (timeShare w f.hours)))

/-- R56: the stage a wear index implies. -/
def impliedStage (w : Settings) (wear : Nat) : Stage :=
  if wear = 100 then .exhausted else if w.wworn ≤ wear then .worn else .good

/-- R56: the higher of two stages, ranking GOOD below WORN below EXHAUSTED. -/
def Stage.higher (a b : Stage) : Stage := if a.code < b.code then b else a

/-- R55, R56: W and the stage after an evaluation. -/
def FilterState.evaluated (f : FilterState) (w : Settings) (q : Nat) : FilterState :=
  { f with wear := wearIndex w f q, stage := f.stage.higher (impliedStage w (wearIndex w f q)) }

/-- R57 to R59: the reports of a stage that has risen to `stage`. -/
def reportRise (stage : Stage) (s : State) : State :=
  let s := updateLamps (fun e => { e with stage := stage }) (markChanged s)
  match stage with
  | .good => s
  | .worn => raise .filterWorn s
  | .exhausted => reportCondition .filterExhausted true s

/-- R55 to R59: one evaluation of W, the stage rule, and the reports of a rise. -/
def evaluateFilter (s : State) : State :=
  let f := s.filter.evaluated s.path.working s.air.q
  if f.stage = s.filter.stage then s.setFilter f else reportRise f.stage (s.setFilter f)

/-- Whether a field of the wear record that filter accounting owns differs (R59). -/
def FilterState.recordDiffers (f g : FilterState) : Bool :=
  decide (f.dose ≠ g.dose) || decide (f.remainder ≠ g.remainder) || decide (f.minutes ≠ g.minutes)
    || decide (f.hours ≠ g.hours) || decide (f.stage ≠ g.stage)

/-- R50 to R55: one dose period. -/
def dosePeriod (s : State) : State :=
  let f := s.filter.period (particleInUse s.front s.path.working * s.air.airflow) s.air.effective
  evaluateFilter (markIf (f.recordDiffers s.filter) (s.setFilter f))

/-- R48: the fields a record delivers, taken into their ranges. -/
def FilterState.ofRecord (record : List Byte) : FilterState :=
  { FilterState.atReset with
    dose := leValue ((record.drop 0x00).take 3)
    remainder := min 3599999 (leValue ((record.drop 0x03).take 3))
    hours := leValue ((record.drop 0x06).take 2)
    minutes := min 59 (leValue ((record.drop 0x08).take 1))
    stage := stageOfByte (record.getD 0x09 0) }

/-- R61: FILTER_RESET at filter accounting; the air mover's Q is 0 already when W is evaluated
(notes/assumptions/27.md). -/
def FilterState.reset (f : FilterState) : FilterState :=
  { f with dose := 0, remainder := 0, fanSeconds := 0, minutes := 0, hours := 0, stage := .good }

/-- R60: a debounced filter-door report at filter accounting. -/
def filterDoorReport (isOpen : Bool) (s : State) : State :=
  reportCondition .filterDoor isOpen (s.setFilter { s.filter with door := if isOpen then .opened else .closed })

/-- DOSE_PERIOD (R50, R53, R55). -/
def execDosePeriod (s : State) : Host.Outcome State Fault Refusal := .next (whenRunning s dosePeriod)

end Sys2Proof.Machine
end

