-- ==== Sys2Proof/Machine/Drying.lean ====
section
/-! DEFINITION. Drying's events (R64 to R93): the drying check, the compressor's timers, the airflow report, defrost and
condenser protection. -/

namespace Sys2Proof.Machine

/-! ### Condenser protection (R87 to R90) -/

/-- R88: the trip history with the current minute appended, entries exceeded by more than 60 removed. -/
def appendTrip (trips : List Nat) (uptime : Nat) : List Nat := trips.filter (fun m => uptime ≤ m + 60) ++ [uptime]

/-- R88, steps 1 to 3: drying's own part of a trip. -/
def Drying.trip (d : Drying) : Drying :=
  { d.outputOff with tripTotal := satAdd 255 d.tripTotal 1, trips := appendTrip d.trips d.uptime }

/-- R88: the compressor trips. -/
def tripCompressor (s : State) : State :=
  let d := s.dry.trip
  let s := markIf (decide (d.tripTotal ≠ s.dry.tripTotal)) (s.setDry d)
  requestJob .wearSave
    (if 3 ≤ d.trips.length then reportCondition .compLockout true (setComp .lockedOut s)
     else reportCondition .compTrip true (setComp .tripped s))

/-- R88, R89: the trip in RUNNING and the recovery in TRIPPED. -/
def checkTrip (s : State) : State :=
  match s.dry.comp with
  | .running =>
    if s.front.tcond.status = .valid ∧ (s.path.working.trip : Int) * 10 ≤ s.front.tcond.value then tripCompressor s
    else s
  | .tripped =>
    if s.front.tcond.status = .valid ∧ s.front.tcond.value ≤ ((s.path.working.trip : Int) - 10) * 10 then
      judgeHold (reportCondition .compTrip false (setComp .offHold s))
    else s
  | .offHold | .offReady | .preRun | .defrost | .lockedOut => s

/-- R87: a start or an end of the condenser warning, with the PROTECT slot of the air mover. -/
def setWarning (on : Bool) (s : State) : State :=
  let s := s.setDry { s.dry with warning := on }
  let s := s.setAir (AirMover.arbitrate { s.air with protect := if on then some 255 else none })
  if on then raise .condHotWarn s else s

/-- R87: the warning as a check judges it. -/
def checkWarning (s : State) : State :=
  if s.front.tcond.status = .valid then
    if s.dry.warning = false ∧ (s.path.working.warn : Int) * 10 ≤ s.front.tcond.value then setWarning true s
    else if s.dry.warning = true ∧ s.front.tcond.value < ((s.path.working.warn : Int) - 3) * 10 then setWarning false s
    else s
  else s

/-! ### Defrost (R82 to R86) -/

/-- R84: drying's own part of the entry to DEFROST. -/
def Drying.enterDefrost (d : Drying) (w : Settings) : Drying :=
  { d.outputOff with
    runSinceDefrost := 0, defrosts := satAdd 65535 d.defrosts 1, defendRun := 0,
    defrostTimer := startTimer (w.defrostMaxSeconds * 1000) }

/-- R84: the compressor enters DEFROST. -/
def enterDefrost (s : State) : State :=
  let d := s.dry.enterDefrost s.path.working
  setComp .defrost (markIf (decide (d.defrosts ≠ s.dry.defrosts)) (s.setDry d))

/-- R85: defrost ends to OFF_HOLD, with R73 applied in the event. -/
def endDefrost (s : State) : State :=
  judgeHold (setComp .offHold (s.setDry { s.dry with defrostTimer := none, defendRun := 0 }))

/-- R82: the frost run after a check in RUNNING. -/
def nextFrostRun (s : State) : Nat :=
  if s.front.tevap.status = .valid ∧ s.front.tevap.value ≤ s.path.working.tfrostTenths then s.dry.frostRun + 1 else 0

/-- R85: the defend run after a check in DEFROST. -/
def nextDefendRun (s : State) : Nat :=
  if s.front.tevap.status = .valid ∧ s.path.working.tdefendTenths ≤ s.front.tevap.value then s.dry.defendRun + 1 else 0

/-- R82, R83, R85: the defrost part of a check. The run of 120 s from its first check completes at its 121st, the run of
30 s at its 31st. -/
def checkDefrost (s : State) : State :=
  match s.dry.comp with
  | .running =>
    if 121 ≤ nextFrostRun s ∨ (s.front.tevap.status = .faulted ∧ 1800 ≤ s.dry.runSinceDefrost) then enterDefrost s
    else s.setDry { s.dry with frostRun := nextFrostRun s }
  | .defrost =>
    if 31 ≤ nextDefendRun s then endDefrost s else s.setDry { s.dry with defendRun := nextDefendRun s }
  | .offHold | .offReady | .preRun | .tripped | .lockedOut => s

/-- R67: the drying check, in its four steps, with R80 judged on what they leave. -/
def dryingCheck (s : State) : State := judgeDrying (evaluateDemand (checkDefrost (checkWarning (checkTrip s))))

/-! ### Runs and timers -/

/-- R78: drying's own part of the entry to RUNNING. -/
def Drying.startRun (d : Drying) : Drying :=
  { d with confirmTimer := none, offTimer := none, runTime := 0, starts := satAdd 65535 d.starts 1,
           runTimer := startTimer 1000, runSecondDue := false }

/-- R78: the entry to RUNNING. -/
def enterRunning (s : State) : State :=
  setComp .running (markIf (decide (s.dry.startRun.starts ≠ s.dry.starts)) (s.setDry s.dry.startRun))

/-- R76: the airflow report confirms a start. -/
def confirmsStart (s : State) : Bool :=
  let defined := (baseAt s.air.baseline s.air.effective).isSome
  s.air.settled && decide (s.air.effective = s.air.target) && decide (s.path.working.dryDuty ≤ s.air.effective)
    && ((s.air.confirmed && decide (s.path.working.fminDryM3h ≤ s.air.airflow))
        || (!defined && decide (0 < s.front.tach.rpm)))

/-- R79: the report fails a running compressor. -/
def failsRun (s : State) : Bool :=
  s.air.settled && decide (s.air.effective = s.air.target) && s.air.confirmed
    && decide (s.air.airflow < s.path.working.fminDryM3h)

/-- R79: the report passes a running compressor. -/
def passesRun (s : State) : Bool :=
  s.air.settled && decide (s.air.effective = s.air.target)
    && ((s.air.confirmed && decide (s.path.working.fminDryM3h ≤ s.air.airflow))
        || (!(baseAt s.air.baseline s.air.effective).isSome && decide (0 < s.front.tach.rpm)))

/-- R76, R78, R79: drying judges an airflow report. The report's figures are those the air mover holds at the end of its
period (R40). -/
def airflowReport (s : State) : State :=
  match s.dry.comp with
  | .preRun => if confirmsStart s then reportCondition .airflowLow false (enterRunning s) else s
  | .running =>
    if failsRun s then reportCondition .airflowLow true (stopCompressor s)
    else if passesRun s then reportCondition .airflowLow false s
    else s
  | .offHold | .offReady | .defrost | .tripped | .lockedOut => s

/-- R73: one off-time expiry. Reaching OFF_READY in it is followed by R75. -/
def offTimeExpiry (s : State) : State :=
  let s := s.setDry { s.dry with offTime := satAdd 600 s.dry.offTime 1, offTimer := startTimer 1000 }
  if s.dry.comp = .offHold then judgeStart (judgeHold s) else s

/-- R77: the confirmation timer expires in PRE_RUN. -/
def confirmationExpiry (s : State) : State :=
  reportCondition .airflowLow true
    (setComp .offHold (s.setDry { s.dry with confirmTimer := none, extraHold := startTimer 60000 }))

/-- R77: the extra hold expires. -/
def extraHoldExpiry (s : State) : State := judgeStart (judgeHold (s.setDry { s.dry with extraHold := none }))

/-- R81: a run-minute carries into the hours at 60. -/
def Drying.runMinute (d : Drying) : Drying :=
  if d.runMinutes + 1 < 60 then { d with runMinutes := d.runMinutes + 1 }
  else { d with runMinutes := 0, runHours := satAdd 65535 d.runHours 1 }

/-- R81: one run-second, without the carry. The timer runs on, unless the compressor was stopped earlier in this instant
(notes/assumptions/33.md). -/
def Drying.runSecond (d : Drying) : Drying :=
  { d with runTime := satAdd 600 d.runTime 1, runSinceDefrost := satAdd 1800 d.runSinceDefrost 1,
           runSeconds := d.runSeconds + 1, runSecondDue := false,
           runTimer := if d.runTimer.isSome then startTimer 1000 else none }

/-- R85: the defrost-max timer expires. -/
def defrostMaxExpiry (s : State) : State := judgeStart (raise .defrostLong (endDefrost s))

/-- R70: a phase change of the timed cycle: off at 20 min, a new cycle at 60 min. -/
def Drying.timedExpiry (d : Drying) : Drying :=
  match d.demand with
  | .timed true => { d with demand := .timed false }
  | .timed false => { d with demand := .timed true, timedTimer := startTimer 3600000 }
  | .satisfied => d
  | .demand => d

/-- R90: an accepted CLEAR_LOCKOUT at drying. -/
def dryingClearLockout (s : State) : State :=
  if s.dry.comp = .lockedOut then
    judgeStart (judgeHold (reportCondition .compLockout false (setComp .offHold (s.setDry { s.dry with trips := [] }))))
  else s

/-- R65: the record fields drying takes from a load. -/
def Drying.ofRecord (record : List Byte) : Drying :=
  { Drying.atReset with
    runHours := leValue ((record.drop 0x0A).take 2)
    runMinutes := min 59 (leValue ((record.drop 0x0C).take 1))
    starts := leValue ((record.drop 0x0D).take 2)
    defrosts := leValue ((record.drop 0x0F).take 2)
    tripTotal := leValue ((record.drop 0x13).take 1) }

/-! ### Reports from neighbours (R66) -/

/-- R66, R78: a tank state report. -/
def dryingTankReport (level : TankLevel) (s : State) : State :=
  let s := s.setDry { s.dry with tank := some level }
  judgeDrying (if level = .full ∨ level = .absent then immediateStop s else s)

/-- R66, R78: a filter-door report, its copy set already. -/
def dryingDoorReport (isOpen : Bool) (s : State) : State := judgeDrying (if isOpen then immediateStop s else s)

/-- R66: a supply-low report. -/
def dryingSupplyReport (low : Bool) (s : State) : State := judgeDrying (s.setDry { s.dry with supplyLow := low })

/-- R66: a change of FAN_STALL. -/
def dryingFanStall (isPresent : Bool) (s : State) : State := judgeDrying (s.setDry { s.dry with fanStall := isPresent })

/-- R68, R69, R172: a change of mode state at drying. -/
def dryingModeReport (m : ModeState) (s : State) : State :=
  judgeDrying (evaluateDemand (s.setDry { s.dry with mode := m }))

/-! ### The commands -/

/-- DRYING_CHECK (R67). -/
def execDryingCheck (s : State) : Host.Outcome State Fault Refusal := .next (whenRunning s dryingCheck)

/-- OFF_TIME_EXPIRY (R73). -/
def execOffTimeExpiry (s : State) : Host.Outcome State Fault Refusal :=
  .next (if s.dry.offTimer.isSome then offTimeExpiry s else s)

/-- CONFIRMATION_TIMER_EXPIRY (R77). -/
def execConfirmationTimerExpiry (s : State) : Host.Outcome State Fault Refusal :=
  .next (if s.dry.comp = .preRun ∧ s.dry.confirmTimer.isSome then confirmationExpiry s else s)

/-- EXTRA_HOLD_EXPIRY (R77). -/
def execExtraHoldExpiry (s : State) : Host.Outcome State Fault Refusal :=
  .next (if s.dry.extraHold.isSome then extraHoldExpiry s else s)

/-- DEFROST_MAX_EXPIRY (R85). -/
def execDefrostMaxExpiry (s : State) : Host.Outcome State Fault Refusal :=
  .next (if s.dry.comp = .defrost ∧ s.dry.defrostTimer.isSome then defrostMaxExpiry s else s)

/-- TIMED_CYCLE_EXPIRY (R70). -/
def execTimedCycleExpiry (s : State) : Host.Outcome State Fault Refusal :=
  .next (if s.dry.timedTimer.isSome then judgeDrying (s.setDry s.dry.timedExpiry) else s)

/-- UPTIME_MINUTE (R92). -/
def execUptimeMinute (s : State) : Host.Outcome State Fault Refusal :=
  .next (whenRunning s fun s => s.setDry { s.dry with uptime := satAdd 16777215 s.dry.uptime 1 })

end Sys2Proof.Machine
end

