-- ==== Sys2Proof/Machine/AirMover.lean ====
section
/-! DEFINITION. The air mover's events (R25 to R47): the ramp, settling, the stall monitor, the airflow period and the
learning sweep, with what they do in other blocks. -/

namespace Sys2Proof.Machine

/-! ### Reports the air mover takes -/

/-- R25: a particle window end with the particle value in use. -/
def airWindowEnd (p : Nat) (s : State) : State :=
  let band := nextBand s.path.working s.air.band p
  s.setAir (AirMover.arbitrate
    { s.air with band := band, auto := redo s.air.auto (s.path.working.speedDuty (band + 1)) })

/-- R24, R169, R172: a change of mode state at the air mover. -/
def airModeReport (m : ModeState) (s : State) : State :=
  s.setAir (AirMover.arbitrate
    { s.air.formUserAuto s.path.working m with
      standalone := if m = .standalone then some s.path.working.standaloneDuty else none })

/-- R26, R27, R43, R46: a filter-door report at the air mover, its copy set already: arbitration, then the sweep. -/
def airDoorReport (isOpen : Bool) (s : State) : State :=
  let s := s.setAir s.air.arbitrate
  if isOpen then
    match s.air.sweep with
    | .measuring _ _ => abandonSweep s
    | .none => s
    | .waiting => s
  else leaveWaiting s

/-- R20, R26: a supply-low report at the air mover. -/
def airSupplyReport (low : Bool) (s : State) : State := s.setAir (s.air.setSupplyLow low)

/-- R35: an accepted CLEAR_LOCKOUT at the air mover. -/
def airClearLockout (s : State) : State :=
  if s.air.fan = .stallLockout then s.setAir (AirMover.leaveStall { s.air with retries := 0 }) else s

/-! ### Stall supervision -/

/-- R32: a change of FAN_STALL, reported to the notice unit and to drying. -/
def reportFanStall (isPresent : Bool) (s : State) : State :=
  dryingFanStall isPresent (reportCondition .fanStall isPresent s)

/-- R32: a stall is declared. R32 gives FAN_STALL's report and the sweep's abandonment no order; FAN_STALL first, so that an
unmasked one keeps LEARN_ABORTED from starting the pulse timer, is a DESIGN CHOICE (notes/assumptions/34.md). -/
def declareStall (s : State) : State :=
  let wasPresent := hasFlag s.notice.conditions .fanStall
  let s := s.setAir s.air.stall
  let s := if wasPresent then s else reportFanStall true s
  abandonSweep (immediateStop s)

/-- R34: the clean-run timer is in use. -/
def cleanRunInUse (s : State) : Bool := decide (0 < s.air.retries) || hasFlag s.notice.conditions .fanStall

/-- R34: a clean run is complete. -/
def completeCleanRun (s : State) : State :=
  reportFanStall false (s.setAir { s.air with retries := 0, cleanRun := 0 })

/-- R31, R34: one stall check. The run of 60 s from its first check completes at its 601st. -/
def stallCheck (s : State) : State :=
  if s.air.stallsAt s.front.tach.rpm then declareStall s
  else
    let clean := if cleanRunInUse s then s.air.nextCleanRun s.front.tach.rpm else 0
    let s := s.setAir { s.air with zeroRun := s.air.nextZeroRun s.front.tach.rpm, cleanRun := clean }
    if 601 ≤ clean then completeCleanRun s else s

/-! ### The airflow period -/

/-- R36, R40: one airflow period with its reports. -/
def airflowPeriod (s : State) : State :=
  let a := s.air.airflowPeriod s.path.working s.front.tach.valid s.front.tach.rpm
  let qChanged := decide (a.q ≠ s.air.q)
  let s := s.setAir a
  airflowReport (if qChanged then evaluateFilter (markChanged s) else s)

/-! ### The learning sweep -/

/-- R45: point 7 has placed its result: the baseline is replaced and the sweep completes. -/
def completeSweep (results : List Nat) (s : State) : State :=
  let baseline := results.map some
  let changed := decide (baseline ≠ s.air.baseline) || decide (s.air.q ≠ 0)
  let s := markIf changed (s.setAir (AirMover.endSweep { s.air with baseline := baseline, q := 0 }))
  requestJob .wearSave (tellLearnPending false (reportProgress 10 (evaluateFilter s)))

/-- R44: the four readings of a point give its result, which is placed or abandons the sweep. -/
def placeResult (i : Nat) (taken : List Nat) (s : State) : State :=
  let result := taken.sum / 4
  if result = 0 then abandonSweep s
  else if i < 7 then measurePoint (i + 1) (s.setAir { s.air with scratch := s.air.scratch ++ [result] })
  else completeSweep (s.air.scratch ++ [result]) s

/-- R44: the hold expiry takes the first reading. -/
def learnHoldExpiry (s : State) : State :=
  match s.air.sweep with
  | .measuring i .hold =>
    s.setAir { s.air with sweep := .measuring i (.readings [s.front.tach.rpm]), learnTimer := startTimer 500 }
  | _ => s

/-- R44: a reading interval takes a further reading; the fourth forms the result. -/
def learnReading (s : State) : State :=
  match s.air.sweep with
  | .measuring i (.readings taken) =>
    let taken := taken ++ [s.front.tach.rpm]
    if taken.length < 4 then
      s.setAir { s.air with sweep := .measuring i (.readings taken), learnTimer := startTimer 500 }
    else placeResult i taken s
  | _ => s

/-! ### The commands -/

/-- RAMP_STEP (R28). -/
def execRampStep (s : State) : Host.Outcome State Fault Refusal :=
  .next (if s.air.rampTimer.isSome then s.setAir (s.air.rampExpiry s.path.working) else s)

/-- SETTLED_TIMER_EXPIRY (R29, R44). -/
def execSettledTimerExpiry (s : State) : Host.Outcome State Fault Refusal :=
  .next (if s.air.settledTimer.isSome then s.setAir s.air.settle else s)

/-- ARMING_TIMER_EXPIRY (R31). -/
def execArmingTimerExpiry (s : State) : Host.Outcome State Fault Refusal :=
  .next (if s.air.armingTimer.isSome then s.setAir { s.air with armed := true, armingTimer := none } else s)

/-- STALL_CHECK (R31, R32, R34). -/
def execStallCheck (s : State) : Host.Outcome State Fault Refusal := .next (whenRunning s stallCheck)

/-- STALL_WAIT_EXPIRY (R33). -/
def execStallWaitExpiry (s : State) : Host.Outcome State Fault Refusal :=
  .next (if s.air.stallWait.isSome then s.setAir s.air.leaveStall else s)

/-- AIRFLOW_PERIOD (R36). -/
def execAirflowPeriod (s : State) : Host.Outcome State Fault Refusal := .next (whenRunning s airflowPeriod)

/-- LEARN_HOLD_EXPIRY (R44). -/
def execLearnHoldExpiry (s : State) : Host.Outcome State Fault Refusal :=
  .next (if s.air.learnTimer.isSome then learnHoldExpiry s else s)

/-- LEARN_READING (R44, R45). -/
def execLearnReading (s : State) : Host.Outcome State Fault Refusal :=
  .next (if s.air.learnTimer.isSome then learnReading s else s)

end Sys2Proof.Machine
end

