-- ==== Sys2Proof/Machine/Tank.lean ====
section
/-! DEFINITION. The condensate tank and the pump (R94 to R108), in the six steps of R95, and the run-second that feeds the
estimate (R81). -/

namespace Sys2Proof.Machine

/-- The events that reach the tank block (R95); the debounced reports carry the new meaning. -/
inductive TankEvent where
  | highFloat (raised : Bool)
  | fullFloat (raised : Bool)
  | present (isPresent : Bool)
  /-- The settling expiry, with the first states of the three switches. -/
  | settle (high full present : Bool)
  | runMinute
  | onTimeEnd
  | afterRunEnd
  /-- A taken write that changed the setting at this window offset (Table 20). -/
  | setting (off : Nat)
  deriving DecidableEq, Repr

/-- A float copy is raised; an unsettled copy counts as lowered. -/
def raised (c : Option Bool) : Bool := c == some true

/-- Step 1: the event's own change. -/
def TankBlock.own (t : TankBlock) (w : Settings) (e : TankEvent) : TankBlock :=
  match e with
  | .highFloat r => { t with highFloat := some r }
  | .fullFloat r => { t with fullFloat := some r }
  | .present p => { t with present := some p }
  | .settle h f p => { t with highFloat := some h, fullFloat := some f, present := some p }
  | .runMinute => { t with estimate := satAdd 65535 t.estimate w.condensateRate }
  | .onTimeEnd => t
  | .afterRunEnd => t
  | .setting _ => t

/-- The pump output off: both timers stop. -/
def TankBlock.pumpOff (t : TankBlock) (p : PumpState) : TankBlock :=
  { t with pump := p, onTime := none, afterRun := none }

/-- The estimate 0 and both marks clear (R102, R106). -/
def TankBlock.clearEstimate (t : TankBlock) : TankBlock :=
  { t with estimate := 0, estFull := false, oncePerFill := false }

/-- R100: the pump completes. -/
def TankBlock.complete (t : TankBlock) : TankBlock :=
  TankBlock.clearEstimate { t.pumpOff .idle with cycles := satAdd 65535 t.cycles 1 }

/-- Step 2, R102: removal and re-insertion; `was` is the tank-present copy before the event. -/
def TankBlock.removal (t : TankBlock) (was : Option Bool) (e : TankEvent) : TankBlock :=
  match e with
  | .present false => t.pumpOff .idle
  | .present true => if was = some false then t.clearEstimate else t
  | _ => t

/-- R100: what a float report does to a running pump. -/
def TankBlock.floatMove (t : TankBlock) (w : Settings) : TankBlock :=
  match t.pump with
  | .running =>
    if raised t.highFloat || raised t.fullFloat then t
    else if w.pumpAfterRun = 0 then t.complete
    else { t with pump := .afterRun, afterRun := some 0 }
  | .afterRun =>
    if raised t.highFloat || raised t.fullFloat then { t with pump := .running, afterRun := none } else t
  | .idle => t
  | .failed => t

/-- R101: the end of the on-time. -/
def TankBlock.endOnTime (t : TankBlock) : TankBlock :=
  match t.pump with
  | .running => t.pumpOff .failed
  | .afterRun => t.complete
  | .idle => t
  | .failed => t

/-- R100: the after-run time has been reached. -/
def TankBlock.endAfterRun (t : TankBlock) : TankBlock := if t.pump = .afterRun then t.complete else t

/-- A stopwatch has reached `seconds`. -/
def reached (t : Stopwatch) (seconds : Nat) : Bool :=
  match t with
  | none => false
  | some ms => decide (seconds * 1000 ≤ ms)

/-- R103: what a write of a setting does to the pump. -/
def TankBlock.settingMove (t : TankBlock) (w : Settings) (off : Nat) : TankBlock :=
  if off = 0x23 then (if w.pumpFitted ∨ t.pump = .idle then t else t.pumpOff .idle)
  else if off = 0x26 then (if reached t.onTime w.pumpMaxRun then t.endOnTime else t)
  else if off = 0x27 then (if reached t.afterRun w.pumpAfterRun then t.endAfterRun else t)
  else t

/-- R99: the start condition, judged on a pump in IDLE. -/
def TankBlock.start (t : TankBlock) (w : Settings) : TankBlock :=
  if t.pump = .idle ∧ w.pumpFitted = true ∧ t.present = some true
      ∧ (raised t.highFloat || raised t.fullFloat || t.estFull) = true then
    { t with pump := .running, onTime := some 0 }
  else t

/-- Step 3, R99 to R101: the pump's moves. -/
def TankBlock.movePump (t : TankBlock) (w : Settings) (e : TankEvent) : TankBlock :=
  TankBlock.start
    (match e with
      | .highFloat _ => t.floatMove w
      | .fullFloat _ => t.floatMove w
      | .onTimeEnd => t.endOnTime
      | .afterRunEnd => t.endAfterRun
      | .setting off => t.settingMove w off
      | .present _ => t
      | .settle _ _ _ => t
      | .runMinute => t) w

/-- Step 4, R105: the two thresholds of the estimate, then the start condition again if the estimated-full mark is newly
set. -/
def TankBlock.judgeEstimate (t : TankBlock) (w : Settings) : TankBlock :=
  let u := { t with
    oncePerFill := t.oncePerFill || decide (w.capacity * 150 ≤ t.estimate)
    estFull := t.estFull || decide (w.capacity * 200 ≤ t.estimate) }
  if u.estFull && !t.estFull then u.start w else u

/-- R105: step 4 acts in each event that changes the estimate and in each write of the tank capacity. -/
def estimateJudged (before after : TankBlock) (e : TankEvent) : Bool :=
  decide (before.estimate ≠ after.estimate) || decide (e = .setting 0x24)

/-- R96: the tank state. -/
def TankBlock.evaluated (t : TankBlock) : TankLevel :=
  if t.present ≠ some true then .absent
  else if raised t.fullFloat ∨ t.pump = .failed ∨ t.estFull then .full
  else if raised t.highFloat then .high
  else .normal

/-- Steps 1 to 3 of R95. -/
def TankBlock.moved (t : TankBlock) (w : Settings) (e : TankEvent) : TankBlock :=
  ((t.own w e).removal t.present e).movePump w e

/-- Steps 1 to 4 of R95. -/
def TankBlock.judged (t : TankBlock) (w : Settings) (e : TankEvent) : TankBlock :=
  if estimateJudged t (t.moved w e) e then (t.moved w e).judgeEstimate w else t.moved w e

/-- Steps 1 to 5 of R95. -/
def TankBlock.after (t : TankBlock) (w : Settings) (e : TankEvent) : TankBlock :=
  { t.judged w e with level := (t.judged w e).evaluated }

/-- R98: the float pair is inconsistent. -/
def TankBlock.inconsistent (t : TankBlock) : Bool := raised t.fullFloat && !raised t.highFloat

/-- R98, R105: the event raises one FLOAT_CHECK. -/
def floatCheck (before after : TankBlock) (e : TankEvent) : Bool :=
  match e with
  | .highFloat r => !r && raised after.fullFloat
  | .fullFloat r => r && !raised after.highFloat
  | .settle _ _ _ => after.inconsistent
  | _ => after.oncePerFill && !before.oncePerFill && !raised after.highFloat

/-- R97: TANK_HIGH is present. -/
def TankBlock.tankHigh (t : TankBlock) (w : Settings) : Bool := decide (t.level = .high) && !w.pumpFitted

/-- A level-class condition reported if it differs from what the notice unit holds. -/
def reportChange (f : Flag) (isPresent : Bool) (s : State) : State :=
  if hasFlag s.notice.conditions f = isPresent then s else reportCondition f isPresent s

/-- Step 6, R97 to R101, R108: the reports. `forced` is the settling expiry, which reports the tank state whether or not
it changes. R95 gives the reports of one event no order; FLOAT_CHECK before the level-class conditions, so that its pulse
starts where they begin the level term, is a DESIGN CHOICE (notes/assumptions/31.md). -/
def tankReports (before : TankBlock) (e : TankEvent) (forced : Bool) (s : State) : State :=
  let t := s.tank
  let s := markIf (decide (t.cycles ≠ before.cycles)) s
  let s := if floatCheck before t e then raise .floatCheck s else s
  let s := reportChange .tankAbsent (decide (t.level = .absent)) s
  let s := reportChange .tankFull (decide (t.level = .full)) s
  let s := reportChange .tankHigh (t.tankHigh s.path.working) s
  let s := reportChange .pumpFail (decide (t.pump = .failed)) s
  let s := updateLamps (fun l => { l with tankCopy := some t.level, tankHigh := t.tankHigh s.path.working, pump := t.pump }) s
  if forced || decide (t.level ≠ before.level) then dryingTankReport t.level s else s

/-- R95: one event of the tank block. Before the settling expiry the tank state stands at ABSENT and the block reports
nothing (R94). -/
def tankEvent (e : TankEvent) (s : State) : State :=
  let before := s.tank
  let s := s.setTank (before.after s.path.working e)
  match e with
  | .settle _ _ _ => tankReports before e true s
  | _ => if before.present.isSome then tankReports before e false s else s

/-- R81, R80: one expiry of the run-second timer; at 60 run-seconds the run-minute goes to the tank block. -/
def runSecondExpiry (s : State) : State :=
  let d := s.dry.runSecond
  if d.runSeconds < 60 then judgeDrying (s.setDry d)
  else
    judgeDrying (tankEvent .runMinute
      (markChanged (s.setDry { d.runMinute with runSeconds := 0 })))

/-! ### The commands -/

/-- RUN_SECOND_EXPIRY (R81), also that of the instant in which the compressor was stopped (R107). -/
def execRunSecondExpiry (s : State) : Host.Outcome State Fault Refusal :=
  .next (if s.dry.runTimer.isSome || s.dry.runSecondDue then runSecondExpiry s else s)

/-- ON_TIME_END (R101). -/
def execOnTimeEnd (s : State) : Host.Outcome State Fault Refusal :=
  .next (if s.tank.onTime.isSome then tankEvent .onTimeEnd s else s)

/-- AFTER_RUN_EXPIRY (R100). -/
def execAfterRunExpiry (s : State) : Host.Outcome State Fault Refusal :=
  .next (if s.tank.afterRun.isSome then tankEvent .afterRunEnd s else s)

end Sys2Proof.Machine
end

