-- ==== Sys2Proof/Machine/FrontEnd.lean ====
section
/-! DEFINITION. The measurement front end (R1 to R21): converter channels, particle input, tachometer, switches, the
power-fail warning and the supply-low detector, with the reports they make. -/

namespace Sys2Proof.Machine

/-! ### Converter channels (R2 to R8) -/

/-- The state of a channel. -/
def FrontEnd.channel (f : FrontEnd) (ch : Channel) : ChannelState :=
  match ch with
  | .rh => f.rh
  | .troom => f.troom
  | .tevap => f.tevap
  | .tcond => f.tcond
  | .supply => f.supply

/-- The front end with one channel replaced. -/
def FrontEnd.setChannel (f : FrontEnd) (ch : Channel) (c : ChannelState) : FrontEnd :=
  match ch with
  | .rh => { f with rh := c }
  | .troom => { f with troom := c }
  | .tevap => { f with tevap := c }
  | .tcond => { f with tcond := c }
  | .supply => { f with supply := c }

/-- R2: a code from 9 to 1014 is a good sample. -/
def goodSample (code : BitVec 10) : Bool := decide (9 ≤ code.toNat) && decide (code.toNat ≤ 1014)

/-- A list of at most `n`, newest last, after one more arrival. -/
def joinNewest {α : Type} (n : Nat) (l : List α) (x : α) : List α := (l ++ [x]).drop (l.length + 1 - n)

/-- R5: the floor of the mean of a window. -/
def windowMean (window : List (BitVec 10)) : Nat := (window.map BitVec.toNat).sum / window.length

/-- Table 5: the value of a channel from its window mean. -/
def scaled (w : Settings) (ch : Channel) (m : Nat) : Int :=
  match ch with
  | .rh => clampInt 0 1000 (((m * 1000 / 1023 : Nat) : Int) + w.rhOffset)
  | .troom => (m : Int) - 400 + w.troomOffset
  | .tevap => (m : Int) - 400 + w.tevapOffset
  | .tcond => (m : Int) - 400 + w.tcondOffset
  | .supply => ((m * 300 / 1023 : Nat) : Int)

/-- R3: a good sample. -/
def ChannelState.good (c : ChannelState) (w : Settings) (ch : Channel) (code : BitVec 10) : ChannelState :=
  match c.status with
  | .unmeasured =>
    { status := .valid, window := [code], count := 0, value := scaled w ch (windowMean [code]) }
  | .valid =>
    let window := joinNewest 4 c.window code
    { status := .valid, window := window, count := 0, value := scaled w ch (windowMean window) }
  | .faulted =>
    let window := joinNewest 4 c.window code
    if window.length = 4 then
      { c with status := .valid, window := window, value := scaled w ch (windowMean window) }
    else { c with window := window }

/-- R4: an out-of-range sample. -/
def ChannelState.outOfRange (c : ChannelState) : ChannelState :=
  match c.status with
  | .unmeasured | .valid =>
    if c.count + 1 < 3 then { c with count := c.count + 1 }
    else { c with status := .faulted, window := [], count := 0 }
  | .faulted => { c with window := [] }

/-- R2: one arrival at a channel. -/
def ChannelState.arrival (c : ChannelState) (w : Settings) (ch : Channel) (code : BitVec 10) : ChannelState :=
  if goodSample code then c.good w ch code else c.outOfRange

/-- R8: SENSOR_FAULT is present while one of the six channels is FAULTED. -/
def FrontEnd.sensorFault (f : FrontEnd) : Bool :=
  decide (f.rh.status = .faulted) || decide (f.troom.status = .faulted) || decide (f.tevap.status = .faulted)
    || decide (f.tcond.status = .faulted) || decide (f.supply.status = .faulted)
    || decide (f.particle.status = .faulted)

/-- R20: the detector's state after an evaluation. -/
def nextSupplyLow (c : ChannelState) (threshold : Nat) (low : Bool) : Bool :=
  decide (c.status = .valid)
    && (if low then decide (c.value < (threshold : Int) + 5) else decide (c.value < (threshold : Int)))

/-- R20: one evaluation of the supply-low detector with its reports. -/
def judgeSupply (s : State) : State :=
  let low := nextSupplyLow s.front.supply s.path.working.supplyLowThreshold s.front.supplyLow
  if low = s.front.supplyLow then s
  else
    let s := s.setFront { s.front with supplyLow := low }
    let s := if low then raise .supplyLow s else s
    dryingSupplyReport low (airSupplyReport low s)

/-- R7: a change of a channel's status, delivered to the block that uses it; SUPPLY serves the detector alone. -/
def statusReport (ch : Channel) (s : State) : State :=
  match ch with
  | .rh => judgeDrying (evaluateDemand s)
  | .troom => judgeDrying s
  | .tevap =>
    judgeDrying (if s.front.tevap.status = .valid then s else s.setDry { s.dry with frostRun := 0 })
  | .tcond => judgeDrying s
  | .supply => s

/-- R2 to R8, R20: one arrival with all its reports. -/
def converterArrival (ch : Channel) (code : BitVec 10) (s : State) : State :=
  let before := s.front.channel ch
  let after := before.arrival s.path.working ch code
  let s := s.setFront (s.front.setChannel ch after)
  let s := reportChange .sensorFault s.front.sensorFault s
  let s := if after.status = before.status then s else statusReport ch s
  if ch = .supply then judgeSupply s else s

/-! ### Particle input (R9 to R12) -/

/-- R9: the input is at its active level: low under NORMAL, high under INVERTED. -/
def particleActive (w : Settings) (high : Bool) : Bool := high == w.inverted 1

/-- R9: one millisecond sample. The accumulator gives a number from 0 to 10000 (notes/assumptions/17.md). -/
def ParticleState.sample (p : ParticleState) (active : Bool) : ParticleState :=
  if active then { p with accumulator := satAdd 10000 p.accumulator 1 } else p

/-- R11: P from the occupancy of a window. -/
def particleValue (r kp : Nat) : Nat := min 999 (r * kp / 256)

/-- R10, R12: the particle channel at a window end. -/
def ParticleState.windowEnd (p : ParticleState) (kp : Nat) : ParticleState :=
  let r := p.accumulator
  let q := { p with accumulator := 0, occupancy := r }
  if r < 10000 then
    match p.status with
    | .warmUp => { q with status := .awaiting }
    | .awaiting | .valid | .faulted => { q with status := .valid, value := particleValue r kp, saturated := 0 }
  else
    match p.status with
    | .warmUp => { q with status := .awaiting }
    | .awaiting | .valid =>
      if p.saturated + 1 < 2 then { q with saturated := p.saturated + 1 }
      else { q with status := .faulted, saturated := 2 }
    | .faulted => q

/-- R12: one window end with its reports, in their order. -/
def particleWindowEnd (s : State) : State :=
  let s := s.setFront { s.front with particle := s.front.particle.windowEnd s.path.working.kp }
  let s := reportChange .sensorFault s.front.sensorFault s
  airWindowEnd (particleInUse s.front s.path.working) s

/-! ### Fan tachometer (R13 to R16) -/

/-- R13: whether an edge is counted: falling under NORMAL, rising under INVERTED. -/
def edgeCounted (w : Settings) (e : Edge) : Bool :=
  match e with
  | .falling => !w.inverted 0
  | .rising => w.inverted 0

/-- R14: the speed from eight periods. -/
def speedOf (periods : List Nat) (ppr : Nat) : Nat := min 8191 (480000000 / (periods.sum * ppr))

/-- R13, R14, R16: one counted edge. -/
def TachState.counted (t : TachState) (ppr interval : Nat) : TachState :=
  if t.timing then
    let periods := joinNewest 8 t.periods (clampNat 1 1000000 interval)
    if periods.length = 8 then
      { timing := true, periods := periods, rpm := speedOf periods ppr, valid := true, stopTimer := startTimer 1000 }
    else { t with periods := periods, stopTimer := startTimer 1000 }
  else { t with timing := true, stopTimer := startTimer 1000 }

/-- R15: the stopped report. -/
def TachState.stopped (_t : TachState) : TachState :=
  { timing := false, periods := [], rpm := 0, valid := true, stopTimer := none }

/-! ### Switches (R17, R18) -/

/-- The state of a switch. -/
def FrontEnd.switch (f : FrontEnd) (sw : Switch) : SwitchState :=
  match sw with
  | .highFloat => f.highFloat
  | .fullFloat => f.fullFloat
  | .tankPresent => f.tankPresent
  | .door => f.door

/-- The front end with one switch replaced. -/
def FrontEnd.setSwitch (f : FrontEnd) (sw : Switch) (x : SwitchState) : FrontEnd :=
  match sw with
  | .highFloat => { f with highFloat := x }
  | .fullFloat => { f with fullFloat := x }
  | .tankPresent => { f with tankPresent := x }
  | .door => { f with door := x }

/-- The level of a switch input. -/
def Pins.level (p : Pins) (sw : Switch) : Bool :=
  match sw with
  | .highFloat => p.highFloat
  | .fullFloat => p.fullFloat
  | .tankPresent => p.tankPresent
  | .door => p.door

/-- The pins with the level of a switch input replaced. -/
def Pins.setLevel (p : Pins) (sw : Switch) (high : Bool) : Pins :=
  match sw with
  | .highFloat => { p with highFloat := high }
  | .fullFloat => { p with fullFloat := high }
  | .tankPresent => { p with tankPresent := high }
  | .door => { p with door := high }

/-- R175: the bit of a switch in the input polarity set. -/
def polarityBit : Switch → Nat
  | .highFloat => 2
  | .fullFloat => 3
  | .tankPresent => 4
  | .door => 5

/-- R17, Table 7: the raw state, `true` for raised, present, open: low under NORMAL, high under INVERTED. -/
def rawState (p : Pins) (w : Settings) (sw : Switch) : Bool := p.level sw == w.inverted (polarityBit sw)

/-- R17: a settled switch's debounce timer restarts with the working debounce setting. -/
def restartDebounce (sw : Switch) (s : State) : State :=
  if (s.front.switch sw).debounced.isSome then
    s.setFront (s.front.setSwitch sw
      { s.front.switch sw with timer := startTimer s.path.working.debounceMs })
  else s

/-- R17: a change of an input level; in a settled switch of the running part a changed raw state restarts the timer. -/
def switchRawChange (sw : Switch) (high : Bool) (s : State) : State :=
  let was := rawState s.pins s.path.working sw
  let s := s.setPins (s.pins.setLevel sw high)
  if s.phase = .running ∧ rawState s.pins s.path.working sw ≠ was then restartDebounce sw s else s

/-- R17: a debounced filter-door report to the air mover, filter accounting, drying and the lamp engine. Each sets its
copy before any acts (notes/assumptions/10.md). -/
def doorReport (isOpen : Bool) (s : State) : State :=
  let copy : DoorCopy := if isOpen then .opened else .closed
  let s := s.setAir { s.air with doorClosed := !isOpen }
  let s := s.setDry { s.dry with door := copy }
  let s := updateLamps (fun l => { l with door := copy }) s
  dryingDoorReport isOpen (filterDoorReport isOpen (airDoorReport isOpen s))

/-- R17: a change of a debounced state, reported to the blocks that use the switch. -/
def switchReport (sw : Switch) (meaning : Bool) (s : State) : State :=
  match sw with
  | .highFloat => tankEvent (.highFloat meaning) s
  | .fullFloat => tankEvent (.fullFloat meaning) s
  | .tankPresent => tankEvent (.present meaning) s
  | .door => doorReport meaning s

/-- R17: a debounce timer's expiry. -/
def debounceExpiry (sw : Switch) (s : State) : State :=
  let raw := rawState s.pins s.path.working sw
  let was := (s.front.switch sw).debounced
  let s := s.setFront (s.front.setSwitch sw { debounced := some raw, timer := none })
  if was = some raw then s else switchReport sw raw s

/-- R18: the settling expiry: each switch takes its raw state and makes its first report. The rule gives the two blocks no
order; the tank block's whole event before the door report is a DESIGN CHOICE (notes/assumptions/31.md). -/
def settlingExpiry (s : State) : State :=
  let raw := rawState s.pins s.path.working
  let settle := fun sw => ({ debounced := some (raw sw), timer := none } : SwitchState)
  let s := s.setFront
    { s.front with highFloat := settle .highFloat, fullFloat := settle .fullFloat
                   tankPresent := settle .tankPresent, door := settle .door, settling := none }
  doorReport (raw .door) (tankEvent (.settle (raw .highFloat) (raw .fullFloat) (raw .tankPresent)) s)

/-! ### The commands -/

/-- CONVERTER_ARRIVAL (R2). -/
def execConverterArrival (ch : Channel) (code : BitVec 10) (s : State) : Host.Outcome State Fault Refusal :=
  .next (whenRunning s (converterArrival ch code))

/-- PARTICLE_SAMPLE (R9). -/
def execParticleSample (high : Bool) (s : State) : Host.Outcome State Fault Refusal :=
  .next (whenRunning s fun s =>
    s.setFront { s.front with particle := s.front.particle.sample (particleActive s.path.working high) })

/-- PARTICLE_WINDOW_END (R10). -/
def execParticleWindowEnd (s : State) : Host.Outcome State Fault Refusal := .next (whenRunning s particleWindowEnd)

/-- TACH_EDGE (R13). -/
def execTachEdge (e : Edge) (interval : Nat) (s : State) : Host.Outcome State Fault Refusal :=
  .next (whenRunning s fun s =>
    if edgeCounted s.path.working e then
      s.setFront { s.front with tach := s.front.tach.counted s.path.working.ppr interval }
    else s)

/-- STOPPED_REPORT (R15). -/
def execStoppedReport (s : State) : Host.Outcome State Fault Refusal :=
  .next (if s.front.tach.stopTimer.isSome then s.setFront { s.front with tach := s.front.tach.stopped } else s)

/-- SWITCH_RAW_CHANGE (R17). -/
def execSwitchRawChange (sw : Switch) (high : Bool) (s : State) : Host.Outcome State Fault Refusal :=
  .next (switchRawChange sw high s)

/-- DEBOUNCE_EXPIRY (R17). -/
def execDebounceExpiry (sw : Switch) (s : State) : Host.Outcome State Fault Refusal :=
  .next (if (s.front.switch sw).timer.isSome then debounceExpiry sw s else s)

/-- SWITCH_SETTLING_EXPIRY (R18). -/
def execSwitchSettlingExpiry (s : State) : Host.Outcome State Fault Refusal :=
  .next (if s.front.settling.isSome then settlingExpiry s else s)

/-- NPFW_ASSERT (R19): edges outside the running part are not taken, but the line is low. -/
def execNpfwAssert (s : State) : Host.Outcome State Fault Refusal :=
  .next (whenRunning (s.setPins { s.pins with npfwLow := true }) requestUrgent)

end Sys2Proof.Machine
end

