-- ==== Sys2Proof/Machine/Images.lean ====
section
/-! DEFINITION. The hold protocol and the bursts (R149 to R154): what HOLDACK, the unit's timers and the end of a burst
do. -/

namespace Sys2Proof.Machine

/-- R165: a completed save, reported to the commands and supervision block. -/
def CommandBlock.saveCompleted (c : CommandBlock) : CommandBlock :=
  if c.awaited = .save then { c with status := .done, awaited := .none } else c

/-- A job that writes the record: a WEAR_SAVE or a WINDOW_MOVE (R149). -/
def Service.writesRecord (sv : Service) : Bool := sv.record?.isSome

/-- R150, R152: the entry to BURST with the job `j` and the rest of the queue. -/
def enterBurst (j : Job) (rest : List Job) (s : State) : State :=
  let sv := snapshot s j
  s.setStore { s.store with
    queue := rest, service := some sv, hold := .burst, ackTimer := none
    changed := s.store.changed && !sv.writesRecord }

/-- R150: a rise of HOLDACK in the running part: the acknowledge in REQUESTING, ignored elsewhere. -/
def holdackRise (s : State) : State :=
  match s.store.hold, s.store.queue with
  | .requesting, j :: rest => enterBurst j rest s
  | .requesting, [] => s
  | .idle, _ => s
  | .burst, _ => s
  | .retryWait, _ => s

/-- R154: what a cut leaves in the unit. -/
def StoredImages.cut (x : StoredImages) (sv : Service) : StoredImages :=
  StoredImages.enterRetryWait
    { StoredImages.returnJob { x with service := none } sv with changed := x.changed || sv.writesRecord }

/-- R154: a burst cut after `written` bytes. -/
def cutBurst (sv : Service) (written : Nat) (s : State) : State :=
  ((s.setMemory (s.memory.writeAll ((burstWrites s.path.page sv).take written))).setPath
    (s.path.takeCut sv written)).setStore (s.store.cut sv)

/-- R150, R151, R154: a fall of HOLDACK in the running part, its pin low already. -/
def holdackFall (written : Nat) (s : State) : State :=
  match s.store.hold with
  | .burst =>
    match s.store.service with
    | some sv => cutBurst sv written s
    | none => s
  | .idle => s.setStore (s.store.ask s.pins.holdAck)
  | .retryWait => if s.store.retryTimer.isSome then s else s.setStore s.store.enterRequesting
  | .requesting => s

/-- R151: a refused request. -/
def refuseHold (s : State) : State :=
  let s' := s.setStore { s.store.enterRetryWait with
    refusals := if s.store.refusals + 1 < 3 then s.store.refusals + 1 else 0 }
  if s.store.refusals + 1 < 3 then s' else raise .holdRefused s'

/-- R153: what a completed burst leaves in the unit. -/
def StoredImages.finish (x : StoredImages) (sv : Service) : StoredImages :=
  { x.recordSave sv with service := none, hold := .idle, holdReq := false, refusals := 0 }

/-- R153: the burst of the job in service completes. -/
def finishBurst (sv : Service) (s : State) : State :=
  let s := s.setMemory (s.memory.writeAll (burstWrites s.path.page sv))
  let s := s.setPath (s.path.takeBurst sv)
  let s := s.setStore ((s.store.finish sv).ask s.pins.holdAck)
  if sv.writesRecord then s.setCmd s.cmd.saveCompleted else s

/-- R153: the last byte of a burst has been written. -/
def burstComplete (s : State) : State :=
  match s.store.hold, s.store.service with
  | .burst, some sv => finishBurst sv s
  | .burst, none => s
  | .idle, _ => s
  | .requesting, _ => s
  | .retryWait, _ => s

/-! ### The commands -/

/-- HOLDACK_RISE (R150). -/
def execHoldackRise (s : State) : Host.Outcome State Fault Refusal :=
  .next (whenRunning (s.setPins { s.pins with holdAck := true }) holdackRise)

/-- HOLDACK_FALL (R154, R150, R151). -/
def execHoldackFall (written : Nat) (s : State) : Host.Outcome State Fault Refusal :=
  .next (whenRunning (s.setPins { s.pins with holdAck := false }) (holdackFall written))

/-- ACK_TIMER_EXPIRY (R151). -/
def execAckTimerExpiry (s : State) : Host.Outcome State Fault Refusal :=
  .next (if s.store.hold = .requesting ∧ s.store.ackTimer.isSome then refuseHold s else s)

/-- RETRY_TIMER_EXPIRY (R151). -/
def execRetryTimerExpiry (s : State) : Host.Outcome State Fault Refusal :=
  .next (if s.store.hold = .retryWait ∧ s.store.retryTimer.isSome then
      (if s.pins.holdAck then s.setStore { s.store with retryTimer := none } else s.setStore s.store.enterRequesting)
    else s)

/-- BURST_COMPLETE (R153). -/
def execBurstComplete (s : State) : Host.Outcome State Fault Refusal := .next (whenRunning s burstComplete)

/-- R149: a WEAR_SAVE request of the unit's own. It asks for the bus in the running part alone: in a restart's drain and
reload HOLDREQ stays low (R160, R176). -/
def requestOwnSave (s : State) : State :=
  if s.phase = .running then requestJob .wearSave s else s.setStore (s.store.request .wearSave)

/-- R149: one expiry of the free-running save timer: it starts its next 15 min, and the mark asks for a save. It runs on
through the drain of a restart, until the reload's completion starts it afresh (R147, R158, R159). -/
def saveTimerExpiry (s : State) : State :=
  let s := s.setStore { s.store with saveTimer := startTimer saveSpan }
  if s.store.changed then requestOwnSave s else s

/-- SAVE_TIMER_EXPIRY (R149). -/
def execSaveTimerExpiry (s : State) : Host.Outcome State Fault Refusal :=
  .next (if s.store.saveTimer.isSome then saveTimerExpiry s else s)

end Sys2Proof.Machine
end

