-- ==== Sys2Proof/Machine/ResetLoad.lean ====
section
/-! DEFINITION. Resets, the start-up load and the restart (R156 to R160), with what each block takes from a load
(R22, R48, R65, R94, R109, R118, R126, R147, R162). -/

namespace Sys2Proof.Machine

/-! ### What a load reads (R156, R157) -/

/-- The images a load finds in the memory. -/
structure LoadReads where
  page        : BitVec 7
  raw         : List Byte
  settingsOk  : Bool
  record      : List Byte
  recordOk    : Bool
  deriving DecidableEq, Repr

/-- R156, R157: the reads of a load, with each image replaced where its check fails. -/
def loadReads (m : Memory) : LoadReads :=
  let page : BitVec 7 := (m.read anchor.toNat).setWidth 7
  let raw := readRun m page 0x00 64
  let record := readRun m page 0xA0 38
  let settingsOk := crc8 raw == m.read (address page 0xFE#8).toNat
  let recordOk := crc8 record == m.read (address page 0xC6#8).toNat
  { page := page
    raw := if settingsOk then raw else defaultImage
    settingsOk := settingsOk
    record := if recordOk then record else List.replicate 38 0
    recordOk := recordOk }

/-- R157: the write-backs of a load, in their order. -/
def LoadReads.writes (l : LoadReads) : List (BitVec 15 × Byte) :=
  (if l.settingsOk then [] else writesAt l.page 0x00 l.raw ++ [(address l.page 0xFE#8, crc8 l.raw)])
    ++ (if l.recordOk then [] else saveWrites l.page l.record)

/-- R126, R131: the memory path after a load. -/
def LoadReads.memoryPath (l : LoadReads) : MemoryPath :=
  { MemoryPath.atReset with
    page := l.page, raw := l.raw, working := Settings.ofRaw l.raw
    protectedImage := l.record ++ [crc8 l.record, crc8 l.raw] }

/-- R37: the baseline of a record, an entry 0 absent. -/
def baselineOf (record : List Byte) : List (Option Nat) :=
  (List.range 8).map fun i =>
    let v := leValue ((record.drop (0x14 + 2 * i)).take 2)
    if v = 0 then none else some v

/-- R22: the air mover after a load. -/
def AirMover.ofLoad (w : Settings) (record : List Byte) : AirMover :=
  AirMover.arbitrate (AirMover.formUserAuto
    { AirMover.atReset with baseline := baselineOf record, q := (record.getD 0x25 0).toNat } w .normal)

/-- R1, R15, R18: the front end after a load: the tach stop timer and the settling timer run. -/
def FrontEnd.ofLoad (w : Settings) : FrontEnd :=
  { FrontEnd.atReset with
    tach := { FrontEnd.atReset.tach with stopTimer := startTimer 1000 }
    settling := startTimer w.debounceMs }

/-- R94: the tank block after a load. -/
def TankBlock.ofRecord (record : List Byte) : TankBlock :=
  { TankBlock.atReset with cycles := leValue ((record.drop 0x11).take 2) }

/-- R168: the supervision timer restarts; it runs in NORMAL with an interval that is not 0. -/
def CommandBlock.restartSupervision (c : CommandBlock) (w : Settings) : CommandBlock :=
  match c.mode with
  | .standalone => c
  | .normal =>
    { c with count := w.supervisionInterval
             counting := if w.supervisionInterval = 0 then none else startTimer 1000 }

/-- R147, R158: the stored-image unit after a load, the save timer started. -/
def StoredImages.ofLoad (l : LoadReads) (cause : ResetCause) : StoredImages :=
  { StoredImages.atReset with
    lastSeq := l.record.getD 0x24 0, lastCheck := crc8 l.record, resetCause := cause
    saveTimer := startTimer saveSpan }

/-- R157: the occurrences of a load, latched while the line is held. -/
def loadOccurrences (l : LoadReads) (s : State) : State :=
  let s := if l.settingsOk then s else raise .settingsDefaulted s
  if l.recordOk then s else raise .wearLost s

/-- R126, R147, R158 and each block's own rule: what the blocks hold after a load, before filter accounting judges. -/
def takeLoad (l : LoadReads) (s : State) : State :=
  let w := Settings.ofRaw l.raw
  { s with
    phase := .running
    memory := s.memory.writeAll l.writes
    path := l.memoryPath
    notice := { s.notice with held := false }
    front := FrontEnd.ofLoad w
    air := AirMover.ofLoad w l.record
    filter := FilterState.ofRecord l.record
    dry := { Drying.ofRecord l.record with offTimer := startTimer 1000 }
    tank := TankBlock.ofRecord l.record
    lamps := LampEngine.atReset
    store := StoredImages.ofLoad l s.store.resetCause
    cmd := CommandBlock.atReset.restartSupervision w }

/-- R49, R118: filter accounting judges the loaded record, and the lamp engine takes the stage. -/
def judgeLoadedFilter (s : State) : State :=
  let s := evaluateFilter s
  let s := reportChange .filterExhausted (decide (s.filter.stage = .exhausted)) s
  updateLamps (fun e => { e with stage := s.filter.stage }) s

/-- R158, R19: the load completes. -/
def loadComplete (pfwLow : Bool) (s : State) : State :=
  let l := loadReads s.memory
  let s := judgeLoadedFilter (takeLoad l (loadOccurrences l s))
  let s := s.setPins { s.pins with npfwLow := pfwLow }
  if pfwLow then requestUrgent s else s

/-! ### Power-on and the reset line (R156) -/

/-- The writes that an event of reset finds in progress: a burst, the head job of a drain, or a load's write-backs. -/
def writesInProgress (s : State) : List (BitVec 15 × Byte) :=
  match s.phase with
  | .inReset => []
  | .loadDelay => []
  | .loading => (loadReads s.memory).writes
  | .draining =>
    match s.store.drain, s.store.queue with
    | some d, j :: _ => burstWrites s.path.page (drainService s.store d j)
    | some _, [] => []
    | none, _ => []
  | .running =>
    match s.store.service with
    | some sv => burstWrites s.path.page sv
    | none => []

/-- R156: the whole part in reset: every block in its reset state; the memory keeps what had been written, and the levels
of the inputs and the waiting commands are not the part's. -/
def wholeReset (cause : ResetCause) (written : Nat) (s : State) : State :=
  { State.reset with
    phase := if s.pins.nresetLow then .inReset else .loadDelay
    loadDelay := if s.pins.nresetLow then none else startTimer 10
    pins := s.pins
    store := { StoredImages.atReset with resetCause := cause }
    memory := s.memory.writeAll ((writesInProgress s).take written)
    pending := s.pending }

/-! ### Restart (R159, R160) -/

/-- R159: the requests of a restart, taken before any block resets. -/
def StoredImages.restartRequests (x : StoredImages) (quietRunning : Bool) : StoredImages :=
  StoredImages.requestUrgentSave (if quietRunning then x.request .crcUpdate else x)

/-- R159: the unit as a restart begins: the queue to drain and the snapshots; the hold state stands until the reload
(notes/assumptions/16.md), and the save timer and the record-changed mark stand until it too (R147). -/
def StoredImages.beginRestart (x : StoredImages) (quietRunning : Bool) (d : Drain) : StoredImages :=
  { x.restartRequests quietRunning with
    service := none, holdReq := false, ackTimer := none, retryTimer := none
    resetCause := .restart, pulse := none, drain := some d }

/-- R159, R125: a restart begins. The window page is kept through the drain; every other block is in its reset state. -/
def beginRestart (s : State) : State :=
  let d : Drain := { record := recordBytes s s.store.lastSeq, raw := s.path.raw }
  { s with
    phase := .draining
    front := .atReset
    air := .atReset
    filter := .atReset
    dry := .atReset
    tank := .atReset
    notice := .atReset
    lamps := .atReset
    path := { MemoryPath.atReset with page := s.path.page }
    store := s.store.beginRestart s.path.quietTimer.isSome d
    cmd := .atReset }

/-- R160: one job of the drain has been written. That it stood in the queue until now, and that the record-changed mark
stands, is a DESIGN CHOICE (notes/assumptions/36.md). -/
def drainJob (d : Drain) (j : Job) (rest : List Job) (s : State) : State :=
  let sv := drainService s.store d j
  let s := s.setMemory (s.memory.writeAll (burstWrites s.path.page sv))
  let s := s.setPath (s.path.takeBurst sv)
  let x := s.store.recordSave sv
  if rest = [] then (s.setStore { x with queue := [], drain := none }).setPhase .loading
  else s.setStore { x with queue := rest }

/-- R160: the job at the head of the drain completes; when the queue is empty the reload follows. -/
def drainJobComplete (s : State) : State :=
  match s.store.drain, s.store.queue with
  | some d, j :: rest => drainJob d j rest s
  | some _, [] => s
  | none, _ => s

/-! ### The commands -/

/-- POWER_ON (R156). -/
def execPowerOn (written : Nat) (s : State) : Host.Outcome State Fault Refusal := .next (wholeReset .powerOn written s)

/-- NRESET_ASSERT (R156). -/
def execNresetAssert (written : Nat) (s : State) : Host.Outcome State Fault Refusal :=
  .next (wholeReset .resetLine written (s.setPins { s.pins with nresetLow := true }))

/-- NRESET_RELEASE (R156): the 10 ms before the load start. -/
def execNresetRelease (s : State) : Host.Outcome State Fault Refusal :=
  .next
    (let s := s.setPins { s.pins with nresetLow := false }
     if s.phase = .inReset then (s.setPhase .loadDelay).setLoadDelay (startTimer 10) else s)

/-- LOAD_DELAY_EXPIRY (R156): the load begins. -/
def execLoadDelayExpiry (s : State) : Host.Outcome State Fault Refusal :=
  .next (if s.phase = .loadDelay ∧ s.loadDelay.isSome then (s.setPhase .loading).setLoadDelay none else s)

/-- LOAD_COMPLETE (R158). -/
def execLoadComplete (pfwLow : Bool) (s : State) : Host.Outcome State Fault Refusal :=
  .next (if s.phase = .loading then loadComplete pfwLow s else s)

/-- DRAIN_JOB_COMPLETE (R160). -/
def execDrainJobComplete (s : State) : Host.Outcome State Fault Refusal :=
  .next (if s.phase = .draining then drainJobComplete s else s)

end Sys2Proof.Machine
end

