-- ==== Sys2Proof/Machine/Commands.lean ====
section
/-! DEFINITION. Commands, supervision, standalone operation and RESUME (R162 to R172). The controller's write of the
command cell that carries a command is Path.lean's. -/

namespace Sys2Proof.Machine

/-! ### Outcomes (R163, R164) -/

/-- An outcome of the judgement: the status, with the completion it waits for. -/
def CommandBlock.outcome (c : CommandBlock) (status : CommandStatus) (awaited : Awaited) : CommandBlock :=
  { c with status := status, awaited := awaited }

/-- R163, step 4: an accepted command's status. -/
def accept (status : CommandStatus) (awaited : Awaited) (s : State) : State := s.setCmd (s.cmd.outcome status awaited)

/-- R163, steps 4 and 5: a refused command. -/
def refuse (status : CommandStatus) (s : State) : State := raise .commandRefused (s.setCmd (s.cmd.outcome status .none))

/-- A sweep is waiting or measuring (R163). -/
def sweepBusy (s : State) : Bool := decide (s.air.sweep ≠ .none)

/-! ### The commands of Table 30 -/

/-- R61, R41: the filter counters, the stage and the held restriction of a new filter, with the reports and the save. -/
def clearFilter (s : State) : State :=
  let f := s.filter.reset
  let changed := f.recordDiffers s.filter || decide (s.air.q ≠ 0)
  let s := s.setAir { s.air with q := 0 }
  let s := evaluateFilter (markIf changed (s.setFilter f))
  let s := reportChange .filterExhausted false s
  let s := updateLamps (fun e => { e with stage := s.filter.stage }) s
  requestJob .wearSave s

/-- R42: a FILTER_RESET starts a sweep. -/
def resetStartsSweep (s : State) : Bool :=
  s.path.working.learnOnReset && !sweepBusy s && decide (s.cmd.mode = .normal) && decide (s.air.fan ≠ .stallLockout)

/-- 0x11 FILTER_RESET. -/
def filterReset (s : State) : State :=
  if resetStartsSweep s then startSweep (clearFilter (accept .inProgress .sweep s))
  else clearFilter (accept .accepted .save s)

/-- 0x12 LEARN_BASELINE. -/
def learnBaseline (s : State) : State :=
  if sweepBusy s then refuse .refusedBusy s
  else if s.cmd.mode = .standalone ∨ s.air.fan = .stallLockout then refuse .refusedState s
  else startSweep (accept .inProgress .sweep s)

/-- 0x13 ABORT_LEARN. -/
def abortLearn (s : State) : State :=
  if sweepBusy s then abandonSweep (accept .done .none s) else refuse .refusedState s

/-- 0x21 DEFROST_NOW. -/
def defrostNow (s : State) : State :=
  if s.dry.comp = .running then enterDefrost (accept .done .none s) else refuse .refusedState s

/-- 0x22 CLEAR_LOCKOUT. -/
def clearLockout (s : State) : State :=
  if s.dry.comp = .lockedOut ∨ s.air.fan = .stallLockout then
    requestJob .wearSave (airClearLockout (dryingClearLockout (accept .accepted .save s)))
  else refuse .refusedState s

/-- R172: the steps of an accepted RESUME. -/
def leaveStandalone (s : State) : State :=
  let s := if s.cmd.allStop then setAllStop false s else s
  let s := s.setCmd { s.cmd with mode := .normal }
  let s := dryingModeReport .normal (airModeReport .normal s)
  let s := reportCondition .standalone false s
  let s := s.setCmd (s.cmd.restartSupervision s.path.working)
  accept .done .none s

/-- 0x31 RESUME. -/
def resume (s : State) : State :=
  if s.cmd.mode = .standalone then leaveStandalone s else refuse .refusedState s

/-- 0x32 SAVE_NOW. -/
def saveNow (s : State) : State := requestJob .wearSave (accept .accepted .save s)

/-- 0xA5, the first half of a restart; the arming itself is set where the pattern is judged. -/
def restartArm (s : State) : State := accept .armed .none s

/-- Any other code. -/
def unknownCommand (s : State) : State := refuse .refusedUnknown s

/-- Table 30: the judgement of a code. -/
def judgeCommand (code : Byte) (s : State) : State :=
  if code = codeFilterReset then filterReset s
  else if code = codeLearnBaseline then learnBaseline s
  else if code = codeAbortLearn then abortLearn s
  else if code = codeDefrostNow then defrostNow s
  else if code = codeClearLockout then clearLockout s
  else if code = codeResume then resume s
  else if code = codeSaveNow then saveNow s
  else if code = codeRestartArm then restartArm s
  else unknownCommand s

/-! ### The command cell (R163, R167) -/

/-- R163, steps 1 and 2: the last command code and the supervision timer. -/
def noteCommand (code : Byte) (s : State) : State :=
  s.setCmd (CommandBlock.restartSupervision { s.cmd with lastCode := code } s.path.working)

/-- R163, R167: a byte taken from the command cell. -/
def commandByte (code : Byte) (s : State) : State :=
  let s := noteCommand code s
  if s.path.armed = true ∧ code = codeRestart then beginRestart s
  else judgeCommand code (s.setPath { s.path with armed := decide (code = codeRestartArm) })

/-- R135 step 5, R167, R168: a taken write into a setting cell restarts supervision and disarms the restart pattern. -/
def settingTaken (s : State) : State :=
  let s := s.setCmd (s.cmd.restartSupervision s.path.working)
  if s.path.armed then (s.setPath { s.path with armed := false }).setCmd { s.cmd with status := .idle } else s

/-! ### Supervision (R168, R169) -/

/-- R161: the 10 ms pulse on nCRST begins. -/
def StoredImages.startPulse (x : StoredImages) : StoredImages :=
  { x with pulse := startTimer 10, resetCause := .supervision }

/-- R169: the entry into STANDALONE. -/
def enterStandalone (s : State) : State :=
  let s := s.setCmd { s.cmd with mode := .standalone, count := 0, counting := none }
  let s := setCondition .standalone true s
  let s := dryingModeReport .standalone (abandonSweep (airModeReport .standalone s))
  let s := judgeAllStop s
  if s.path.working.controllerResetEnable then s.setStore s.store.startPulse else s

/-- R168: one expiry of the 1 s count. -/
def supervisionCount (s : State) : State :=
  if s.cmd.count ≤ 1 then enterStandalone s
  else s.setCmd { s.cmd with count := s.cmd.count - 1, counting := startTimer 1000 }

/-! ### The commands that are no memory cycles -/

/-- SUPERVISION_COUNT (R168). -/
def execSupervisionCount (s : State) : Host.Outcome State Fault Refusal :=
  .next (if s.cmd.counting.isSome then supervisionCount s else s)

/-- SUPERVISION_PULSE_END (R161). -/
def execSupervisionPulseEnd (s : State) : Host.Outcome State Fault Refusal :=
  .next (if s.store.pulse.isSome then s.setStore { s.store with pulse := none } else s)

end Sys2Proof.Machine
end

