-- ==== Sys2Proof/Machine/Path.lean ====
section
/-! DEFINITION. The memory path's cycles (R127 to R146): the overlay cells, setting writes and their delivery, the
two-byte setting, latched, stray and anchor writes, and the commands that are memory cycles of the controller. -/

namespace Sys2Proof.Machine

/-! ### Overlay cells (R174, Tables 32 and 33) -/

def CommandStatus.code : CommandStatus → Nat
  | .idle => 0 | .accepted => 1 | .inProgress => 2 | .done => 3 | .refusedState => 4 | .refusedBusy => 5
  | .refusedUnknown => 6 | .armed => 7 | .aborted => 8

def ResetCause.code : ResetCause → Nat
  | .powerOn => 0 | .resetLine => 1 | .restart => 2 | .supervision => 3

def FanState.code : FanState → Nat
  | .stopped => 0 | .run => 1 | .stallWait => 2 | .stallLockout => 3

def Demand.code : Demand → Nat
  | .satisfied => 0
  | .demand => 1
  | .timed false => 2
  | .timed true => 3

def CompState.code : CompState → Nat
  | .offHold => 0 | .offReady => 1 | .preRun => 2 | .running => 3 | .defrost => 4 | .tripped => 5 | .lockedOut => 6

def TankLevel.code : TankLevel → Nat
  | .absent => 0 | .normal => 1 | .high => 2 | .full => 3

def PumpState.code : PumpState → Nat
  | .idle => 0 | .running => 1 | .afterRun => 2 | .failed => 3

def Job.code : Job → Nat
  | .crcUpdate => 1 | .wearSave => 2 | .windowMove => 3

def HoldState.code : HoldState → Nat
  | .idle => 0 | .requesting => 1 | .burst => 2 | .retryWait => 3

/-- The mode state cell (R162). -/
def modeStateCode (m : ModeState) (allStop : Bool) : Nat :=
  match m with
  | .normal => 0
  | .standalone => if allStop then 2 else 1

/-- The persistence queue cell: head in bits 0–1, second in bits 2–3, third in bits 4–5. -/
def queueCode (q : List Job) : Nat :=
  ((q.take 3).map Job.code).foldr (fun c rest => c + 4 * rest) 0

/-- R21, Table 32: the validity map. -/
def validityMap (f : FrontEnd) : Nat :=
  (decide (f.rh.status = .valid)).toNat + 2 * (decide (f.troom.status = .valid)).toNat
    + 4 * (decide (f.tevap.status = .valid)).toNat + 8 * (decide (f.tcond.status = .valid)).toNat
    + 16 * (decide (f.supply.status = .valid)).toNat + 32 * (decide (f.particle.status = .valid)).toNat
    + 64 * f.tach.valid.toNat

/-- Table 17: the seconds left on the timer that governs the compressor's state. -/
def compressorSeconds (d : Drying) (w : Settings) : Nat :=
  match d.comp with
  | .offHold => max (w.minOffSeconds - d.offTime) (secondsLeft d.extraHold)
  | .offReady => 0
  | .preRun => secondsLeft d.confirmTimer
  | .running => w.minRunSeconds - d.runTime
  | .defrost => secondsLeft d.defrostTimer
  | .tripped => 0
  | .lockedOut => 0

/-- The live value of the multi-byte value whose lowest window offset is `low` (R142). -/
def liveValue (s : State) (low : Nat) : Nat :=
  match low with
  | 0x50 => s.front.rh.value.toNat
  | 0x52 => signed16 s.front.troom.value
  | 0x54 => signed16 s.front.tevap.value
  | 0x56 => signed16 s.front.tcond.value
  | 0x58 => s.front.supply.value.toNat
  | 0x5A => particleInUse s.front s.path.working
  | 0x5C => s.front.particle.occupancy
  | 0x5E => s.front.tach.rpm
  | 0x63 => s.air.airflow
  | 0x72 => compressorSeconds s.dry s.path.working
  | 0x76 => s.tank.estimate
  | 0xA0 => s.filter.dose
  | 0xA3 => s.filter.remainder
  | 0xA6 => s.filter.hours
  | 0xAA => s.dry.runHours
  | 0xAD => s.dry.starts
  | 0xAF => s.dry.defrosts
  | 0xB1 => s.tank.cycles
  | _ => (s.air.baseline.getD ((low - 0xB4) / 2) none).getD 0

/-- The one-byte overlay cells. -/
def oneByteCell (s : State) (off : Nat) : Nat :=
  match off with
  | 0x40 => s.cmd.lastCode.toNat
  | 0x41 => s.cmd.status.code
  | 0x42 => s.cmd.progress
  | 0x43 => s.store.resetCause.code
  | 0x44 => s.path.lastClamped.toNat
  | 0x45 => s.path.lastStray.toNat
  | 0x46 => s.path.page.toNat
  | 0x47 => s.cmd.count
  | 0x48 => (flagByte s.notice.conditions 0).toNat
  | 0x49 => (flagByte s.notice.conditions 1).toNat
  | 0x4A => (flagByte s.notice.conditions 2).toNat
  | 0x4B => (flagByte s.notice.latched 0).toNat
  | 0x4C => (flagByte s.notice.latched 1).toNat
  | 0x4D => (flagByte s.notice.latched 2).toNat
  | 0x4E => s.notice.summary s.path.working.masks
  | 0x4F => modeStateCode s.cmd.mode s.cmd.allStop
  | 0x60 => validityMap s.front
  | 0x61 => s.air.effective
  | 0x62 => s.air.target
  | 0x65 => s.air.q
  | 0x66 => slotDuty s.air.user
  | 0x67 => slotDuty s.air.auto
  | 0x68 => slotDuty s.air.drying
  | 0x69 => slotDuty s.air.defrost
  | 0x6A => slotDuty s.air.protect
  | 0x6B => slotDuty s.air.standalone
  | 0x6C => slotDuty s.air.learn
  | 0x6D => s.air.band
  | 0x6E => s.air.fan.code
  | 0x6F => s.air.retries
  | 0x70 => s.dry.demand.code
  | 0x71 => s.dry.comp.code
  | 0x74 => s.tank.level.code
  | 0x75 => s.tank.pump.code
  | 0x78 => s.filter.wear
  | 0x79 => queueCode s.store.queue
  | 0x7A => s.store.hold.code
  | 0xA8 => s.filter.minutes
  | 0xA9 => s.filter.stage.code
  | 0xAC => s.dry.runMinutes
  | 0xB3 => s.dry.tripTotal
  | 0xC4 => s.store.lastSeq.toNat
  | 0xC5 => s.air.q
  | 0xC6 => s.store.lastCheck.toNat
  | _ => 0

/-- The lowest window offset of holder `i`. -/
def holderLow (i : Nat) : Nat := (holderTable.getD i (0, 0)).1

/-- R143: the value a read of a byte of holder `i` is answered from. -/
def heldValue (s : State) (i : Nat) : Nat :=
  match s.path.holders.getD i none with
  | some v => v
  | none => liveValue s (holderLow i)

/-- R130, R142, R143: the byte an overlay read of window offset `off` presents. -/
def overlayByte (s : State) (off : Byte) : Byte :=
  match holderIndex off.toNat with
  | some i =>
    if off.toNat = holderLow i then leByte (liveValue s (holderLow i)) 0
    else leByte (heldValue s i) (off.toNat - holderLow i)
  | none => BitVec.ofNat 8 (oneByteCell s off.toNat)

/-- R142: a read of a lowest byte loads its holder with the whole current value; another read loads none. -/
def loadHolder (off : Byte) (s : State) : State :=
  match holderIndex off.toNat with
  | some i =>
    if off.toNat = holderLow i then
      s.setPath { s.path with holders := s.path.holders.set i (some (liveValue s off.toNat)) }
    else s
  | none => s

/-- R130: an overlay read, with the summary's own effect (R116, R117). -/
def overlayRead (off : Byte) (s : State) : State :=
  let s' := busRead (overlayByte s off) s.path.working.waitCell (loadHolder off s)
  if off.toNat = 0x4E then
    s'.setNotice (s.notice.afterSummary s.path.working.masks s.path.working.autoClear)
  else s'

/-- R129: a forwarded read presents the memory's byte. -/
def forwardedRead (m : BitVec 15) (s : State) : State := busRead (s.memory.read m.toNat) s.path.working.waitMemory s

/-- Table 24, read column: a controller read of memory offset `m`. -/
def controllerRead (m : BitVec 15) (s : State) : State :=
  if (classify s.path.page m).overlays then overlayRead (BitVec.ofNat 8 (m.toNat % 256)) s else forwardedRead m s

/-! ### Setting writes (R135 to R139) -/

/-- R135 steps 1 and 2: the raw byte replaced, and the working values of its group formed again. -/
def MemoryPath.takeSetting (p : MemoryPath) (off : Nat) (v : Byte) : MemoryPath :=
  let raw := p.raw.set off v
  { p with
    raw := raw
    working := { p.working with
      bytes := (settingGroup off).foldl (fun b m => b.set m (workingByte raw m)) p.working.bytes } }

/-- R138: SETTING_CLAMPED with the offset it records. -/
def recordClamp (clamped : Option Nat) (s : State) : State :=
  match clamped with
  | none => s
  | some off => (raise .settingClamped s).setPath { s.path with lastClamped := BitVec.ofNat 8 off }

/-- R138: the judgement of a setting write; `old` holds the working bytes before it. -/
def judgeClamp (old : Settings) (off : Nat) (s : State) : State :=
  recordClamp (clampedBy old.bytes s.path.working.bytes s.path.raw off) s

/-- R139: the quiet timer restarts. -/
def restartQuiet (s : State) : State := s.setPath { s.path with quietTimer := startTimer 200 }

/-- The air mover with slots formed or changed, followed by arbitration (R23, R27). -/
def changeSlots (f : AirMover → AirMover) (s : State) : State := s.setAir (f s.air).arbitrate

/-- R68: the event makes drying allowed or not allowed, and the demand is evaluated; else it stands. -/
def reconsiderAllowed (old : Settings) (s : State) : State :=
  if dryingAllowed old s.dry.mode = dryingAllowed s.path.working s.dry.mode then s else evaluateDemand s

/-- R69: the setpoint written is the one in use in mode state `m`. -/
def setpointWritten (m : ModeState) (s : State) : State := if s.dry.mode = m then evaluateDemand s else s

/-- R17: a polarity write changes the raw state of the switches whose entry changed. -/
def polarityWritten (old : Settings) (s : State) : State :=
  [Switch.highFloat, .fullFloat, .tankPresent, .door].foldl
    (fun s sw =>
      if old.inverted (polarityBit sw) = s.path.working.inverted (polarityBit sw) then s else restartDebounce sw s) s

/-- R103: a write of a setting of Table 20, which acts if it changes the working value. -/
def tankSettingWritten (old : Settings) (off : Nat) (s : State) : State :=
  if old.byte off = s.path.working.byte off then s else tankEvent (.setting off) s

/-- R20: a change of the working supply-low threshold. -/
def thresholdWritten (old : Settings) (s : State) : State :=
  if old.supplyLowThreshold = s.path.working.supplyLowThreshold then s else judgeSupply s

/-- R123: a write of the lamp level. -/
def levelWritten (s : State) : State :=
  s.setLamps { s.lamps with
    filter := s.lamps.filter.newLevel s.path.working.lampLevel
    tank := s.lamps.tank.newLevel s.path.working.lampLevel }

/-- R135 step 4: a taken setting write delivered to the blocks that use it, the new working values in force. A setting
that no rule names for its write is read where it is used. -/
def deliverSetting (old : Settings) (off : Nat) (s : State) : State :=
  let w := s.path.working
  match off with
  | 0x00 => judgeDrying (reconsiderAllowed old (changeSlots (·.formUserAuto w s.cmd.mode) s))
  | 0x01 => changeSlots (·.formUserAuto w s.cmd.mode) s
  | 0x02 => changeSlots (·.formUserAuto w s.cmd.mode) s
  | 0x03 => judgeDrying (setpointWritten .normal s)
  | 0x04 => judgeDrying (evaluateDemand s)
  | 0x05 => judgeDrying (evaluateDemand s)
  | 0x06 => judgeDrying s
  | 0x07 => changeSlots (·.formUserAuto w s.cmd.mode) s
  | 0x08 => changeSlots (·.formUserAuto w s.cmd.mode) s
  | 0x09 => changeSlots (·.formUserAuto w s.cmd.mode) s
  | 0x0A => changeSlots (·.formUserAuto w s.cmd.mode) s
  | 0x0E => judgeDrying (changeSlots (fun a => { a with drying := redo a.drying w.dryDuty }) s)
  | 0x0F => changeSlots (fun a => { a with defrost := redo a.defrost w.defrostDuty }) s
  | 0x13 => judgeDrying s
  | 0x16 => evaluateFilter s
  | 0x17 => evaluateFilter s
  | 0x1A => evaluateFilter s
  | 0x1C => judgeDrying s
  | 0x1D => judgeDrying s
  | 0x1E => judgeDrying s
  | 0x1F => judgeDrying s
  | 0x20 => judgeDrying s
  | 0x21 => judgeDrying s
  | 0x22 => judgeDrying s
  | 0x23 => tankSettingWritten old 0x23 s
  | 0x24 => tankSettingWritten old 0x24 s
  | 0x25 => tankSettingWritten old 0x25 s
  | 0x26 => tankSettingWritten old 0x26 s
  | 0x27 => tankSettingWritten old 0x27 s
  | 0x29 => polarityWritten old s
  | 0x2F => thresholdWritten old s
  | 0x34 => updateLamps id s
  | 0x35 => updateLamps id s
  | 0x36 => updateLamps id s
  | 0x37 => updateLamps id s
  | 0x38 => levelWritten s
  | 0x3B => changeSlots (fun a => { a with standalone := redo a.standalone w.standaloneDuty }) s
  | 0x3C => judgeDrying (setpointWritten .standalone s)
  | 0x3D => judgeAllStop s
  | _ => s

/-- R135, after the memory has received the byte: the six steps. -/
def takeSettingWrite (off : Nat) (v : Byte) (s : State) : State :=
  let old := s.path.working
  let s := s.setPath (s.path.takeSetting off v)
  restartQuiet (settingTaken (deliverSetting old off (judgeClamp old off s)))

/-- R140: the low byte of Hexh: staged, not judged, delivered to no block. -/
def takeHexhLow (v : Byte) (s : State) : State :=
  restartQuiet (settingTaken (s.setPath { s.path with raw := s.path.raw.set 0x18 v, hexhStage := some v }))

/-- R141: the pair that a write of the high byte forms. -/
def MemoryPath.hexhPair (p : MemoryPath) (v : Byte) : Nat :=
  (match p.hexhStage with
    | some low => low.toNat
    | none => p.working.hexh % 256) + 256 * v.toNat

/-- R141: the high byte of Hexh. -/
def takeHexhHigh (v : Byte) (s : State) : State :=
  let pair := s.path.hexhPair v
  let hexh := clampNat 1 730 pair
  let s := s.setPath { s.path with
    raw := s.path.raw.set 0x19 v, hexhStage := none, working := { s.path.working with hexh := hexh } }
  let s := recordClamp (if hexh = pair then none else some 0x19) s
  restartQuiet (settingTaken (evaluateFilter s))

/-! ### The other taken writes -/

/-- R113, R132: a write to a latched cell. -/
def takeLatched (off v : Byte) (s : State) : State :=
  s.setNotice (s.notice.clear (flagsNamed (off.toNat - 0x4B) v))

/-- R133: a stray write. -/
def takeStray (off : Byte) (s : State) : State :=
  raise .strayWrite (s.setPath { s.path with lastStray := off })

/-- R144: the anchor's requested page, the value modulo 128. -/
def requestedPage (v : Byte) : BitVec 7 := v.setWidth 7

/-- R144: a write to the anchor. -/
def takeAnchor (v : Byte) (s : State) : State :=
  if s.store.movePending = false ∧ requestedPage v = s.path.page then s
  else s.setStore ((s.store.requestMove (requestedPage v)).ask s.pins.holdAck)

/-! ### A controller write by its place (Table 24, R134) -/

/-- Table 24, write column: a controller write of `v` at memory offset `m`. -/
def controllerWrite (m : BitVec 15) (v : Byte) (s : State) : State :=
  let w := s.path.working
  match classify s.path.page m with
  | .outside => busWrite m v w.waitMemory s
  | .hole _ => busWrite m v w.waitMemory s
  | .anchorCell => takeAnchor v (busWrite m v (takenWriteWaits w) s)
  | .setting off =>
    let s := busWrite m v (takenWriteWaits w) s
    if off.toNat = 0x18 then takeHexhLow v s
    else if off.toNat = 0x19 then takeHexhHigh v s
    else takeSettingWrite off.toNat v s
  | .commandCell => commandByte v (busWrite m 0 (takenWriteWaits w) s)
  | .latchedCell off => takeLatched off v (busWrite m 0 (takenWriteWaits w) s)
  | .plainOverlay off => takeStray off (busWrite m (protectedByte s.path.protectedImage off) (takenWriteWaits w) s)
  | .summaryCell => takeStray 0x4E#8 (busWrite m (protectedByte s.path.protectedImage 0x4E#8) (takenWriteWaits w) s)
  | .wearRecord off => takeStray off (busWrite m (protectedByte s.path.protectedImage off) (takenWriteWaits w) s)
  | .checkByte => takeStray 0xFE#8 (busWrite m (protectedByte s.path.protectedImage 0xFE#8) (takenWriteWaits w) s)

/-! ### A memory cycle by its strobes (R127) -/

/-- The memory select and the two strobes at the beginning of a cycle, `true` while active (nMSEL, nMRD, nMWR). -/
structure Strobes where
  select : Bool
  read   : Bool
  write  : Bool
  deriving DecidableEq, Repr

/-- The strobes of an ordinary read. -/
def Strobes.reading : Strobes := { select := true, read := true, write := false }

/-- The strobes of an ordinary write. -/
def Strobes.writing : Strobes := { select := true, read := false, write := true }

/-- R127: a memory cycle begins when the memory select and one strobe are both active; with both strobes active it is
taken as a write of its place. `v` is the byte on the controller's data lines. -/
def memoryCycle (x : Strobes) (m : BitVec 15) (v : Byte) (s : State) : State :=
  if x.select && x.write then controllerWrite m v s
  else if x.select && x.read then controllerRead m s
  else s

/-- A controller write at memory offset `m`, while the controller makes cycles. -/
def writeCycle (m : BitVec 15) (v : Byte) (s : State) : State := whenCycles s (memoryCycle .writing m v)

/-- A controller read at memory offset `m`, while the controller makes cycles; the part drives nothing onto the write
side, so the byte of the data lines has no part in it. -/
def readCycle (m : BitVec 15) (s : State) : State := whenCycles s (memoryCycle .reading m 0)

/-- A controller write at window offset `off`. -/
def windowWrite (off v : Byte) (s : State) : State := writeCycle (address s.path.page off) v s

/-- A controller read at window offset `off`. -/
def windowRead (off : Byte) (s : State) : State := readCycle (address s.path.page off) s

/-! ### The commands -/

/-- SETTING_WRITE (R135). -/
def execSettingWrite (off v : Byte) (s : State) : Host.Outcome State Fault Refusal := .next (windowWrite off v s)

/-- HEXH_LOW_WRITE (R140). -/
def execHexhLowWrite (v : Byte) (s : State) : Host.Outcome State Fault Refusal := .next (windowWrite 0x18#8 v s)

/-- HEXH_HIGH_WRITE (R141). -/
def execHexhHighWrite (v : Byte) (s : State) : Host.Outcome State Fault Refusal := .next (windowWrite 0x19#8 v s)

/-- QUIET_TIMER_EXPIRY (R139). -/
def execQuietTimerExpiry (s : State) : Host.Outcome State Fault Refusal :=
  .next (if s.path.quietTimer.isSome then requestJob .crcUpdate (s.setPath { s.path with quietTimer := none }) else s)

/-- LATCHED_WRITE (R113). -/
def execLatchedWrite (off v : Byte) (s : State) : Host.Outcome State Fault Refusal := .next (windowWrite off v s)

/-- SUMMARY_READ (R116, R117). -/
def execSummaryRead (s : State) : Host.Outcome State Fault Refusal := .next (windowRead 0x4E#8 s)

/-- SNAPSHOT_LOAD_READ (R142). -/
def execSnapshotLoadRead (off : Byte) (s : State) : Host.Outcome State Fault Refusal := .next (windowRead off s)

/-- STRAY_WRITE (R133). -/
def execStrayWrite (off v : Byte) (s : State) : Host.Outcome State Fault Refusal := .next (windowWrite off v s)

/-- ANCHOR_WRITE (R144). -/
def execAnchorWrite (v : Byte) (s : State) : Host.Outcome State Fault Refusal :=
  .next (writeCycle anchor v s)

/-- FILTER_RESET (R61, R163). -/
def execFilterReset (s : State) : Host.Outcome State Fault Refusal := .next (windowWrite 0x40#8 codeFilterReset s)

/-- LEARN_BASELINE (R42, R163). -/
def execLearnBaseline (s : State) : Host.Outcome State Fault Refusal := .next (windowWrite 0x40#8 codeLearnBaseline s)

/-- ABORT_LEARN (R46, R163). -/
def execAbortLearn (s : State) : Host.Outcome State Fault Refusal := .next (windowWrite 0x40#8 codeAbortLearn s)

/-- DEFROST_NOW (R83, R163). -/
def execDefrostNow (s : State) : Host.Outcome State Fault Refusal := .next (windowWrite 0x40#8 codeDefrostNow s)

/-- CLEAR_LOCKOUT (R35, R90, R163). -/
def execClearLockout (s : State) : Host.Outcome State Fault Refusal := .next (windowWrite 0x40#8 codeClearLockout s)

/-- RESUME (R172). -/
def execResume (s : State) : Host.Outcome State Fault Refusal := .next (windowWrite 0x40#8 codeResume s)

/-- SAVE_NOW (R149, R163). -/
def execSaveNow (s : State) : Host.Outcome State Fault Refusal := .next (windowWrite 0x40#8 codeSaveNow s)

/-- RESTART_ARM (R167). -/
def execRestartArm (s : State) : Host.Outcome State Fault Refusal := .next (windowWrite 0x40#8 codeRestartArm s)

/-- RESTART (R159, R167): 0x5A at the command cell; not armed, it is an unknown code. -/
def execRestart (s : State) : Host.Outcome State Fault Refusal := .next (windowWrite 0x40#8 codeRestart s)

/-- UNKNOWN_COMMAND (R163). -/
def execUnknownCommand (code : Byte) (s : State) : Host.Outcome State Fault Refusal := .next (windowWrite 0x40#8 code s)

end Sys2Proof.Machine
end

