-- ==== Sys2Proof/Machine/Dispatch.lean ====
section
/-! DEFINITION. The dispatch: one arm per command, each one direct call of its meaning. -/

namespace Sys2Proof.Machine

/-- The effect of a command on everything but the queue of waiting commands. -/
def exec (i : Instr) (s : State) : Host.Outcome State Fault Refusal :=
  match i with
  | .powerOn n => Sys2Proof.Machine.execPowerOn n s
  | .nresetAssert n => Sys2Proof.Machine.execNresetAssert n s
  | .nresetRelease => Sys2Proof.Machine.execNresetRelease s
  | .loadDelayExpiry => Sys2Proof.Machine.execLoadDelayExpiry s
  | .loadComplete pfwLow => Sys2Proof.Machine.execLoadComplete pfwLow s
  | .converterArrival ch code => Sys2Proof.Machine.execConverterArrival ch code s
  | .particleWindowEnd => Sys2Proof.Machine.execParticleWindowEnd s
  | .tachEdge e t => Sys2Proof.Machine.execTachEdge e t s
  | .stoppedReport => Sys2Proof.Machine.execStoppedReport s
  | .switchRawChange sw high => Sys2Proof.Machine.execSwitchRawChange sw high s
  | .debounceExpiry sw => Sys2Proof.Machine.execDebounceExpiry sw s
  | .switchSettlingExpiry => Sys2Proof.Machine.execSwitchSettlingExpiry s
  | .npfwAssert => Sys2Proof.Machine.execNpfwAssert s
  | .rampStep => Sys2Proof.Machine.execRampStep s
  | .settledTimerExpiry => Sys2Proof.Machine.execSettledTimerExpiry s
  | .armingTimerExpiry => Sys2Proof.Machine.execArmingTimerExpiry s
  | .stallCheck => Sys2Proof.Machine.execStallCheck s
  | .stallWaitExpiry => Sys2Proof.Machine.execStallWaitExpiry s
  | .airflowPeriod => Sys2Proof.Machine.execAirflowPeriod s
  | .learnHoldExpiry => Sys2Proof.Machine.execLearnHoldExpiry s
  | .learnReading => Sys2Proof.Machine.execLearnReading s
  | .dosePeriod => Sys2Proof.Machine.execDosePeriod s
  | .dryingCheck => Sys2Proof.Machine.execDryingCheck s
  | .offTimeExpiry => Sys2Proof.Machine.execOffTimeExpiry s
  | .confirmationTimerExpiry => Sys2Proof.Machine.execConfirmationTimerExpiry s
  | .extraHoldExpiry => Sys2Proof.Machine.execExtraHoldExpiry s
  | .runSecondExpiry => Sys2Proof.Machine.execRunSecondExpiry s
  | .defrostMaxExpiry => Sys2Proof.Machine.execDefrostMaxExpiry s
  | .timedCycleExpiry => Sys2Proof.Machine.execTimedCycleExpiry s
  | .uptimeMinute => Sys2Proof.Machine.execUptimeMinute s
  | .onTimeEnd => Sys2Proof.Machine.execOnTimeEnd s
  | .afterRunExpiry => Sys2Proof.Machine.execAfterRunExpiry s
  | .pulseTimerExpiry => Sys2Proof.Machine.execPulseTimerExpiry s
  | .lampPhaseTimer lamp => Sys2Proof.Machine.execLampPhaseTimer lamp s
  | .settingWrite off v => Sys2Proof.Machine.execSettingWrite off v s
  | .hexhLowWrite v => Sys2Proof.Machine.execHexhLowWrite v s
  | .hexhHighWrite v => Sys2Proof.Machine.execHexhHighWrite v s
  | .quietTimerExpiry => Sys2Proof.Machine.execQuietTimerExpiry s
  | .latchedWrite off v => Sys2Proof.Machine.execLatchedWrite off v s
  | .summaryRead => Sys2Proof.Machine.execSummaryRead s
  | .snapshotLoadRead off => Sys2Proof.Machine.execSnapshotLoadRead off s
  | .strayWrite off v => Sys2Proof.Machine.execStrayWrite off v s
  | .anchorWrite v => Sys2Proof.Machine.execAnchorWrite v s
  | .filterReset => Sys2Proof.Machine.execFilterReset s
  | .learnBaseline => Sys2Proof.Machine.execLearnBaseline s
  | .abortLearn => Sys2Proof.Machine.execAbortLearn s
  | .defrostNow => Sys2Proof.Machine.execDefrostNow s
  | .clearLockout => Sys2Proof.Machine.execClearLockout s
  | .resume => Sys2Proof.Machine.execResume s
  | .saveNow => Sys2Proof.Machine.execSaveNow s
  | .restartArm => Sys2Proof.Machine.execRestartArm s
  | .restart => Sys2Proof.Machine.execRestart s
  | .unknownCommand code => Sys2Proof.Machine.execUnknownCommand code s
  | .drainJobComplete => Sys2Proof.Machine.execDrainJobComplete s
  | .holdackRise => Sys2Proof.Machine.execHoldackRise s
  | .holdackFall n => Sys2Proof.Machine.execHoldackFall n s
  | .ackTimerExpiry => Sys2Proof.Machine.execAckTimerExpiry s
  | .retryTimerExpiry => Sys2Proof.Machine.execRetryTimerExpiry s
  | .burstComplete => Sys2Proof.Machine.execBurstComplete s
  | .saveTimerExpiry => Sys2Proof.Machine.execSaveTimerExpiry s
  | .supervisionCount => Sys2Proof.Machine.execSupervisionCount s
  | .supervisionPulseEnd => Sys2Proof.Machine.execSupervisionPulseEnd s
  | .particleSample high => Sys2Proof.Machine.execParticleSample high s

end Sys2Proof.Machine
end

