-- ==== Sys2Proof/Machine/Tick.lean ====
section
/-! DEFINITION. One millisecond passing: every running timer's elapsed time advances, and nothing expires; what was due in
the instant before is due no more (notes/assumptions/33.md). It is what a step
does on an empty queue (DESIGN CHOICE, notes/assumptions/3.md). -/

namespace Sys2Proof.Machine

def SwitchState.tick (x : SwitchState) : SwitchState := { x with timer := tickTimer x.timer }

def FrontEnd.tick (f : FrontEnd) : FrontEnd :=
  { f with
    tach := { f.tach with stopTimer := tickTimer f.tach.stopTimer }
    highFloat := f.highFloat.tick, fullFloat := f.fullFloat.tick
    tankPresent := f.tankPresent.tick, door := f.door.tick
    settling := tickTimer f.settling }

def AirMover.tick (a : AirMover) : AirMover :=
  { a with
    settledTimer := tickTimer a.settledTimer, rampTimer := tickTimer a.rampTimer
    armingTimer := tickTimer a.armingTimer, stallWait := tickTimer a.stallWait, learnTimer := tickTimer a.learnTimer }

def Drying.tick (d : Drying) : Drying :=
  { d with
    offTimer := tickTimer d.offTimer, extraHold := tickTimer d.extraHold, runTimer := tickTimer d.runTimer
    runSecondDue := false
    confirmTimer := tickTimer d.confirmTimer, defrostTimer := tickTimer d.defrostTimer
    timedTimer := tickTimer d.timedTimer }

def TankBlock.tick (t : TankBlock) : TankBlock :=
  { t with onTime := tickStopwatch t.onTime, afterRun := tickStopwatch t.afterRun }

def NoticeUnit.tick (n : NoticeUnit) : NoticeUnit := { n with pulseTimer := tickTimer n.pulseTimer }

def LampEngine.tick (e : LampEngine) : LampEngine :=
  { e with
    filter := { e.filter with timer := tickTimer e.filter.timer }
    tank := { e.tank with timer := tickTimer e.tank.timer } }

def MemoryPath.tick (p : MemoryPath) : MemoryPath := { p with quietTimer := tickTimer p.quietTimer }

def StoredImages.tick (x : StoredImages) : StoredImages :=
  { x with
    ackTimer := tickTimer x.ackTimer, retryTimer := tickTimer x.retryTimer, saveTimer := tickTimer x.saveTimer
    pulse := tickTimer x.pulse }

def CommandBlock.tick (c : CommandBlock) : CommandBlock := { c with counting := tickTimer c.counting }

/-- One millisecond in the whole part. -/
def tick (s : State) : State :=
  { s with
    loadDelay := tickTimer s.loadDelay
    front := s.front.tick
    air := s.air.tick
    dry := s.dry.tick
    tank := s.tank.tick
    notice := s.notice.tick
    lamps := s.lamps.tick
    path := s.path.tick
    store := s.store.tick
    cmd := s.cmd.tick }

end Sys2Proof.Machine
end

