-- ==== Sys2Proof/Machine/Views.lean ====
section
/-! DEFINITION. The part's pins as functions of the state (Table 35, R161, R176): the outputs, and who drives the lines of
the two buses. -/

namespace Sys2Proof.Machine

/-- FAN: the duty the fan drive delivers (R28). -/
def State.fanPin (s : State) : Nat := s.air.effective

/-- COMP: the compressor drive is energised in RUNNING alone (R72). -/
def State.compPin (s : State) : Bool := decide (s.dry.comp = .running)

/-- PUMP: the pump output is on in RUNNING and AFTER_RUN (R99, R100). -/
def State.pumpPin (s : State) : Bool := decide (s.tank.pump = .running) || decide (s.tank.pump = .afterRun)

/-- LAMPF and LAMPT: the lamp drive outputs (R124). -/
def State.lampPin (s : State) (l : Lamp) : Nat :=
  lampOutput s.path.working.perceptual
    (match l with
      | .filter => s.lamps.filter.intensity
      | .tank => s.lamps.tank.intensity)

/-- HOLDREQ, `true` for high (R150, R176). -/
def State.holdReqPin (s : State) : Bool := s.store.holdReq

/-- nCRST, `true` while asserted (R161). -/
def State.controllerResetPin (s : State) : Bool := s.controllerHeld

/-- nNOTICE, `true` while asserted (R114, R115). -/
def State.noticePin (s : State) : Bool := s.notice.line s.path.working.masks

/-- nWAIT, `true` while asserted, in BCLK period `k` from the beginning of the latest controller cycle: asserted for the W
periods of the cycle (R134), and released in BURST and in a reset, a load or a drain (R146, R176). The supervision pulse
leaves it under that rule, as it leaves every pin but nCRST (R176). -/
def State.waitPin (s : State) (k : Nat) : Bool :=
  decide (s.phase = .running) && decide (s.store.hold ≠ .burst) && decide (k < s.bus.waits)

/-- What the part does on the lines of a bus (R176). -/
inductive Lines where
  /-- An input only. -/
  | input
  /-- Passing the bytes of the controller's cycles, as the memory path gives. -/
  | carrying
  /-- Driven by the part. -/
  | driven
  /-- Neither driven nor passed on. -/
  | released
  deriving DecidableEq, Repr

/-- R176: the memory side in a reset, a load or a drain: driven during the part's own cycles, released between them.
`inCycle` says whether such a cycle is under way, which is no state of the part between its commands
(notes/assumptions/24.md). Before the load's first cycle, with nRESET low and in the 10 ms delay, R176 leaves open whether
the lines are released or inputs only: released is a DESIGN CHOICE (notes/assumptions/24.md). -/
def Phase.ownLines (p : Phase) (inCycle : Bool) : Lines :=
  match p with
  | .loading | .draining => if inCycle then .driven else .released
  | .inReset | .loadDelay | .running => .released

/-- A0 to A14, nMSEL, nMRD and nMWR (R152, R176). -/
def State.addressLines (s : State) (inCycle : Bool) : Lines :=
  if s.phase ≠ .running then s.phase.ownLines inCycle
  else if s.store.hold = .burst then .driven
  else .input

/-- MD0 to MD7 (R152, R176). -/
def State.memoryDataLines (s : State) (inCycle : Bool) : Lines :=
  if s.phase ≠ .running then s.phase.ownLines inCycle
  else if s.store.hold = .burst then .driven
  else .carrying

/-- CD0 to CD7: released in a reset, a load, a drain and a burst (R176). -/
def State.controllerDataLines (s : State) : Lines :=
  if s.phase ≠ .running ∨ s.store.hold = .burst then .released else .carrying

end Sys2Proof.Machine
end

