-- ==== Sys2Proof/Safety.lean ====
section
/-! DEFINITION. What counts as a safe state of the part: the properties that the spec's prose promises of every moment, in
the terms the statements use. -/

namespace Sys2Proof.Machine

/-! ### The fan (R23, R27, R28) -/

/-- R28: a duty is 0 or from 31 to 255. -/
def legalDuty (d : Nat) : Prop := d = 0 ∨ (31 ≤ d ∧ d ≤ 255)

/-- R23: a slot is absent or holds a duty from 31 to 255. -/
def legalSlot (slot : Option Nat) : Prop := ∀ d, slot = some d → 31 ≤ d ∧ d ≤ 255

/-- R23: all seven slots of the demand table. -/
def AirMover.slotsLegal (a : AirMover) : Prop :=
  legalSlot a.user ∧ legalSlot a.auto ∧ legalSlot a.drying ∧ legalSlot a.defrost ∧ legalSlot a.protect
    ∧ legalSlot a.standalone ∧ legalSlot a.learn

/-- R27: while the door is open or all-stop is in force, the target and the effective duty are 0. -/
def AirMover.overrideHeld (a : AirMover) : Prop := a.overridden = true → a.target = 0 ∧ a.effective = 0

/-- R136, R137, R141: the working settings are those the raw image gives, and Hexh lies in its range. -/
def MemoryPath.settingsFormed (p : MemoryPath) : Prop :=
  p.raw.length = 64 ∧ p.working.bytes = workingImage p.raw ∧ 1 ≤ p.working.hexh ∧ p.working.hexh ≤ 730

/-- R27: the target by the steps of arbitration: 0 under an override, else LEARN, else the highest slot present. -/
def AirMover.targetArbitrated (a : AirMover) : Prop :=
  (a.overridden = true → a.target = 0)
    ∧ (a.overridden = false → ∀ d, a.learn = some d → a.target = d)
    ∧ (a.overridden = false → a.learn = none →
        (∀ d, (a.user = some d ∨ a.auto = some d ∨ a.drying = some d ∨ a.defrost = some d ∨ a.protect = some d
            ∨ a.standalone = some d) → d ≤ a.target)
        ∧ (a.target = 0 ∨ a.user = some a.target ∨ a.auto = some a.target ∨ a.drying = some a.target
            ∨ a.defrost = some a.target ∨ a.protect = some a.target ∨ a.standalone = some a.target))

/-- The fan is safe: legal slots, target and effective duty, formed settings, the target arbitrated, and the override
held. -/
def State.fanSafe (s : State) : Prop :=
  s.path.settingsFormed ∧ s.air.slotsLegal ∧ s.air.band ≤ 3 ∧ legalDuty s.air.target ∧ legalDuty s.air.effective
    ∧ s.air.targetArbitrated ∧ s.air.overrideHeld

/-! ### The compressor (R73, R74, R78) -/

/-- R73: a compressor that may start has rested for its min-off time. -/
def State.compressorRested (s : State) : Prop :=
  (s.dry.comp = .offReady ∨ s.dry.comp = .preRun) → s.path.working.minOffSeconds ≤ s.dry.offTime

/-- R74, R78: the tank holds no veto, the door is closed and all-stop is not in force. -/
def Drying.interlocksClosed (d : Drying) : Prop :=
  (d.tank = some .normal ∨ d.tank = some .high) ∧ d.door = .closed ∧ d.allStop = false

/-- R74, R75, R78: in PRE_RUN and in RUNNING the interlocks are closed. -/
def State.compressorInterlocked (s : State) : Prop :=
  (s.dry.comp = .preRun ∨ s.dry.comp = .running) → s.dry.interlocksClosed

/-- R74: every start permission of its table holds. -/
def State.startPermitted (s : State) : Prop :=
  (s.dry.tank = some .normal ∨ s.dry.tank = some .high) ∧ s.dry.door = .closed ∧ s.dry.supplyLow = false
    ∧ s.dry.fanStall = false ∧ s.dry.learnPending = false
    ∧ (s.front.tcond.status = .valid ∧ s.front.tcond.value < (s.path.working.trip : Int) * 10)
    ∧ (s.front.troom.status = .unmeasured ∨ (s.path.working.tmin : Int) * 10 ≤ s.front.troom.value)
    ∧ s.dry.allStop = false

/-- R69, R70: the humidity demand is on: DEMAND, or the on phase of TIMED. -/
def Drying.demandOn (d : Drying) : Prop := d.demand = .demand ∨ d.demand = .timed true

/-! ### The pump (R99, R102) -/

/-- R18: until the settling expiry no switch is settled, and the tank block has no copy of the tank-present switch. -/
def State.unsettledBeforeExpiry (s : State) : Prop :=
  s.front.settling.isSome = true →
    (∀ sw, s.front.switch sw = { debounced := none, timer := none }) ∧ s.tank.present = none

/-- R99, R102: the pump output is on only while the tank is present. -/
def State.pumpSafe (s : State) : Prop :=
  s.unsettledBeforeExpiry ∧ (s.pumpPin = true → s.tank.present = some true)

/-! ### Notices (R110, R113, R117) -/

/-- R110, R111, R113: only level-class flags have a condition, and the flag of a present condition is latched. -/
def NoticeUnit.latchesPresent (n : NoticeUnit) : Prop :=
  n.conditions &&& pulseClass = 0 ∧ n.conditions &&& ~~~n.latched = 0

/-- R119: while the part runs, each lamp has the pattern that its source selects. -/
def State.lampsSelected (s : State) : Prop :=
  s.phase = .running → s.lamps.filter.pattern = s.lamps.selected s.path.working .filter
    ∧ s.lamps.tank.pattern = s.lamps.selected s.path.working .tank

/-! ### The stored-image unit and the memory (R135, R148, R150) -/

/-- R148: each kind at most once, and no CRC_UPDATE or WEAR_SAVE behind a WINDOW_MOVE. -/
def queueOrdered : List Job → Prop
  | [] => True
  | j :: rest => j ∉ rest ∧ (j = .windowMove → rest = []) ∧ queueOrdered rest

/-- R150 to R154: HOLDREQ is high in REQUESTING and BURST and low in IDLE and RETRY_WAIT, a job is in service in BURST
alone, and a job waits in REQUESTING and RETRY_WAIT. -/
def StoredImages.holdConsistent (x : StoredImages) : Prop :=
  (x.holdReq = true ↔ x.hold = .requesting ∨ x.hold = .burst) ∧ (x.service.isSome = true ↔ x.hold = .burst)
    ∧ ((x.hold = .requesting ∨ x.hold = .retryWait) → x.queue ≠ [])

/-- The hold protocol's consistency while the part runs; in a restart's drain the hold state stands unused. -/
def State.holdSafe (s : State) : Prop := s.phase = .running → s.store.holdConsistent

/-- The memory holds the raw image at the window page (Table 3, "Raw image"). -/
def State.rawInMemory (s : State) : Prop :=
  ∀ i, i < 64 → s.memory.read (address s.path.page (BitVec.ofNat 8 i)).toNat = s.path.raw.getD i 0

/-- R145, R152: the raw image a move carries is the raw image that stands. -/
def State.moveCarriesRaw (s : State) : Prop :=
  ∀ raw record page, s.store.service = some (.windowMove raw record page) → s.store.hold = .burst ∧ raw = s.path.raw

/-- R152: a record in service has its 38 bytes. -/
def StoredImages.recordSized (x : StoredImages) : Prop :=
  ∀ sv r, x.service = some sv → sv.record? = some r → r.length = 38

/-- The raw image matches the memory while the part runs. -/
def State.rawMatches (s : State) : Prop :=
  s.phase = .running → s.path.raw.length = 64 ∧ s.rawInMemory ∧ s.moveCarriesRaw ∧ s.store.recordSized

/-- R131: the protected image holds the wear record and the settings check byte as the memory holds them at the window
page. -/
def State.protectedInMemory (s : State) : Prop :=
  s.path.protectedImage.length = 40
    ∧ (∀ i, i < 39 → s.memory.read (address s.path.page (BitVec.ofNat 8 (0xA0 + i))).toNat
        = s.path.protectedImage.getD i 0)
    ∧ s.memory.read (address s.path.page 0xFE#8).toNat = s.path.protectedImage.getD 39 0

/-- The protected image matches the memory while the part runs. -/
def State.protectedMatches (s : State) : Prop := s.phase = .running → s.protectedInMemory

/-- A move in service to the page the window occupies (R144, R153). -/
def State.movesInPlace (s : State) : Prop :=
  ∃ raw record, s.store.service = some (.windowMove raw record s.path.page)

/-! ### Resets and loads -/

/-- R156, R176: what a reset leaves. What the blocks hold of the load's registers until the load, and that the lines
of the memory side are released before its first cycle, are the model's choices (notes/assumptions/6.md, 24.md). -/
def partInReset (cause : ResetCause) (s t : State) : Prop :=
  t.front = .atReset ∧ t.air = .atReset ∧ t.filter = .atReset ∧ t.dry = .atReset ∧ t.tank = .atReset
    ∧ t.notice = .atReset ∧ t.lamps = .atReset ∧ t.path = .atReset ∧ t.cmd = .atReset
    ∧ t.store = { StoredImages.atReset with resetCause := cause }
    ∧ t.fanPin = 0 ∧ t.compPin = false ∧ t.pumpPin = false ∧ (∀ l, t.lampPin l = 0) ∧ t.holdReqPin = false
    ∧ t.noticePin = false ∧ t.controllerResetPin = true ∧ (∀ k, t.waitPin k = false)
    ∧ (∀ c, t.addressLines c = .released ∧ t.memoryDataLines c = .released) ∧ t.controllerDataLines = .released
    ∧ t.pending = s.pending

/-- The page a load takes: the anchor byte modulo 128 (R126, R156). -/
def loadPage (s : State) : BitVec 7 := BitVec.ofNat 7 ((s.memory.read 0x7FFF).toNat % 128)

/-- The settings check of a load holds (R157). -/
def settingsCheck (s : State) : Prop :=
  crc8 (readRun s.memory (loadPage s) 0x00 64) = s.memory.read (address (loadPage s) 0xFE#8).toNat

/-- The record check of a load holds (R157). -/
def recordCheck (s : State) : Prop :=
  crc8 (readRun s.memory (loadPage s) 0xA0 38) = s.memory.read (address (loadPage s) 0xC6#8).toNat

/-! ### Frames: which blocks differ -/

/-- Only the air mover differs. -/
def onlyAir (s t : State) : Prop := t = s.setAir t.air

/-- Only the measurement front end differs. -/
def onlyFront (s t : State) : Prop := t = s.setFront t.front

/-- Only the reports' targets differ: the front end, the memory path, the memory, the pins, the phase, the bus record and
the queue of commands stand as they were. -/
def onlyBlocks (s t : State) : Prop :=
  t.phase = s.phase ∧ t.loadDelay = s.loadDelay ∧ t.pins = s.pins ∧ t.front = s.front ∧ t.path = s.path
    ∧ t.bus = s.bus ∧ t.memory = s.memory ∧ t.pending = s.pending

/-- The memory differs at `m` alone, where it holds `v`. -/
def onlyByte (s t : State) (m : Nat) (v : Byte) : Prop :=
  t.memory.read m = v ∧ ∀ a, a ≠ m → t.memory.read a = s.memory.read a

/-! ### What every command of the command cell does (R131, R163, R167, R168) -/

/-- The command cell's own part of a write of `code` that begins no restart: the memory receives 0x00 at the cell and
nowhere else, the byte is the last command code, supervision restarts in NORMAL, the restart arming follows the code, and
the front end, the pins, the rest of the memory path and the queue of commands stand. -/
def commandTaken (code : Byte) (s t : State) : Prop :=
  onlyByte s t (address s.path.page 0x40#8).toNat 0 ∧ t.cmd.lastCode = code
    ∧ t.path = { s.path with armed := decide (code = 0xA5#8) }
    ∧ t.front = s.front ∧ t.pins = s.pins ∧ t.phase = s.phase ∧ t.loadDelay = s.loadDelay ∧ t.pending = s.pending

/-- The controller makes cycles, and the part holds an image and working settings of 64 bytes. -/
def State.settingsWritable (s : State) : Prop :=
  s.takesCycles = true ∧ s.path.raw.length = 64 ∧ s.path.working.bytes.length = 64

/-- R168: the supervision count after a write into a setting cell or the command cell. -/
def supervisionRestarted (s t : State) : Prop :=
  (s.cmd.mode = .normal → t.cmd.count = t.path.working.supervisionInterval
      ∧ t.cmd.counting = if t.path.working.supervisionInterval = 0 then none else startTimer 1000)
    ∧ (s.cmd.mode = .standalone → t.cmd.count = s.cmd.count ∧ t.cmd.counting = s.cmd.counting)

/-- A refused command: its status, no awaited completion, COMMAND_REFUSED latched, and no block but these touched. -/
def commandRefused (status : CommandStatus) (s t : State) : Prop :=
  t.cmd.status = status ∧ t.cmd.awaited = .none ∧ hasFlag t.notice.latched .commandRefused = true
    ∧ t.cmd.mode = s.cmd.mode ∧ t.cmd.progress = s.cmd.progress ∧ t.cmd.allStop = s.cmd.allStop
    ∧ t.notice.conditions = s.notice.conditions
    ∧ t.air = s.air ∧ t.filter = s.filter ∧ t.dry = s.dry ∧ t.tank = s.tank ∧ t.lamps = s.lamps ∧ t.store = s.store

end Sys2Proof.Machine
end

