-- ==== Sys2Proof/WellFormed.lean ====
section
/-! DEFINITION. Which operands a command of each row may carry. -/

namespace Sys2Proof

/-- The operands a row admits: a setting write names a setting cell other than the two of Hexh (R135, R140, R141); a
latched write names a latched cell (R113); a snapshot load names the lowest byte of a multi-byte value (R142); a stray
write names a cell that accepts no writes (R133); an unknown command is none of the codes of Table 30. -/
def Instr.wellFormed : Instr → Bool
  | .settingWrite off _ => decide (off.toNat < 0x40) && off != 0x18#8 && off != 0x19#8
  | .latchedWrite off _ => decide (0x4B ≤ off.toNat) && decide (off.toNat ≤ 0x4D)
  | .snapshotLoadRead off => Machine.isHolderLow off.toNat
  | .strayWrite off _ => (Machine.windowPlace off).stray
  | .unknownCommand code => !(Machine.knownCodes.contains code)
  | .powerOn _ | .nresetAssert _ | .nresetRelease | .loadDelayExpiry | .loadComplete _ | .converterArrival _ _
  | .particleWindowEnd | .tachEdge _ _ | .stoppedReport | .switchRawChange _ _ | .debounceExpiry _
  | .switchSettlingExpiry | .npfwAssert | .rampStep | .settledTimerExpiry | .armingTimerExpiry | .stallCheck
  | .stallWaitExpiry | .airflowPeriod | .learnHoldExpiry | .learnReading | .dosePeriod | .dryingCheck | .offTimeExpiry
  | .confirmationTimerExpiry | .extraHoldExpiry | .runSecondExpiry | .defrostMaxExpiry | .timedCycleExpiry
  | .uptimeMinute | .onTimeEnd | .afterRunExpiry | .pulseTimerExpiry | .lampPhaseTimer _ | .hexhLowWrite _
  | .hexhHighWrite _ | .quietTimerExpiry | .summaryRead | .anchorWrite _ | .filterReset | .learnBaseline | .abortLearn
  | .defrostNow | .clearLockout | .resume | .saveNow | .restartArm | .restart | .drainJobComplete | .holdackRise
  | .holdackFall _ | .ackTimerExpiry | .retryTimerExpiry | .burstComplete | .saveTimerExpiry | .supervisionCount
  | .supervisionPulseEnd | .particleSample _ => true

end Sys2Proof
end

