-- ==== Sys2Proof/Certificates/Slice0/Obligations.lean ====
section
/-! DEFINITION. The statements for the provers: what the commands do, what the part promises of every moment, and where each
command completes. -/

open Sys2Proof Sys2Proof.Machine

/-! ### The step and the queue of commands -/

/-- A step takes the command at the front of the queue and runs it on the state with the queue's rest. -/
def Obligations.StepTakesFrontCommand : Prop :=
  ∀ (c : Instr) (rest : List Instr) (s : State), s.pending = c :: rest → step s = exec c (s.setPending rest)

/-- The model's choice (notes/assumptions/3.md): on an empty queue one ms passes, and no output pin, no memory byte, no
latched flag and no overlay cell but the seconds left on a compressor timer (0x72, 0x73) shows it. -/
def Obligations.IdleStepShowsNothing : Prop :=
  ∀ s : State, s.pending = [] → ∃ t, step s = .next t ∧ t.pending = [] ∧ t.memory = s.memory ∧ t.pins = s.pins
    ∧ t.notice.latched = s.notice.latched ∧ t.fanPin = s.fanPin ∧ t.compPin = s.compPin ∧ t.pumpPin = s.pumpPin
    ∧ (∀ l, t.lampPin l = s.lampPin l) ∧ t.holdReqPin = s.holdReqPin ∧ t.noticePin = s.noticePin
    ∧ t.controllerResetPin = s.controllerResetPin ∧ (∀ k, t.waitPin k = s.waitPin k)
    ∧ (∀ c, t.addressLines c = s.addressLines c ∧ t.memoryDataLines c = s.memoryDataLines c)
    ∧ t.controllerDataLines = s.controllerDataLines
    ∧ ∀ off : Byte, off ≠ 0x72#8 → off ≠ 0x73#8 → overlayByte t off = overlayByte s off

/-- No command stops the part, and none touches the queue of waiting commands. -/
def Obligations.CommandsLeaveQueue : Prop :=
  ∀ (c : Instr) (s : State), ∃ t, exec c s = .next t ∧ t.pending = s.pending

/-! ### Reset, load and restart (R156 to R161, R176) -/

/-- R156, R160, R176: POWER_ON and NRESET_ASSERT, with every pin as R176 holds it and the memory keeping the bytes already
written; the 10 ms before the load start at the release of nRESET, and the load at their expiry; no cell moves in
either. The model's choices: how many bytes of a writing in progress the memory has is an operand
(notes/assumptions/7.md), a power-on waits for nRESET (notes/assumptions/21.md), the lines of the memory side are released
before the load's first cycle (notes/assumptions/24.md), and the page, the raw image, the
protected image, the baseline, Q, the record counters and the last completed save, which the load delivers, stand until
then as notes/assumptions/6.md says. -/
def Obligations.ResetLeadsToLoad : Prop :=
  (∀ (n : Nat) (s : State), ∃ t, exec (.powerOn n) s = .next t ∧ partInReset .powerOn s t ∧ t.pins = s.pins
      ∧ t.phase = (if s.pins.nresetLow then .inReset else .loadDelay)
      ∧ t.loadDelay = (if s.pins.nresetLow then none else startTimer 10)
      ∧ t.memory = s.memory.writeAll ((writesInProgress s).take n))
  ∧ (∀ (n : Nat) (s : State), ∃ t, exec (.nresetAssert n) s = .next t ∧ partInReset .resetLine s t
      ∧ t.pins = { s.pins with nresetLow := true } ∧ t.phase = .inReset ∧ t.loadDelay = none
      ∧ t.memory = s.memory.writeAll ((writesInProgress s).take n))
  ∧ (∀ s : State, s.phase = .inReset → ∃ t, exec .nresetRelease s = .next t
      ∧ t = ((s.setPins { s.pins with nresetLow := false }).setPhase .loadDelay).setLoadDelay (startTimer 10))
  ∧ (∀ s : State, s.phase = .loadDelay → s.loadDelay.isSome = true → ∃ t, exec .loadDelayExpiry s = .next t
      ∧ t = (s.setPhase .loading).setLoadDelay none)

/-- R157: an image that fails its check is replaced, in the part and in the memory, with its check byte and its
occurrence: the settings by the default image, the record by the zero record. -/
def Obligations.LoadReplacesFailedImages : Prop :=
  (∀ (p : Bool) (s : State), s.phase = .loading → s.memory.wf = true → ¬ settingsCheck s →
    ∃ t, exec (.loadComplete p) s = .next t ∧ t.phase = .running ∧ t.path.page = loadPage s
      ∧ t.path.raw = defaultImage ∧ t.path.working = Settings.ofRaw defaultImage
      ∧ hasFlag t.notice.latched .settingsDefaulted = true
      ∧ (∀ i, i < 64 → t.memory.read (address t.path.page (BitVec.ofNat 8 i)).toNat = defaultImage.getD i 0)
      ∧ t.memory.read (address t.path.page 0xFE#8).toNat = crc8 defaultImage
      ∧ (recordCheck s → ∀ a,
          (∀ off, off < 0x40 ∨ off = 0xFE → a ≠ (address (loadPage s) (BitVec.ofNat 8 off)).toNat) →
          t.memory.read a = s.memory.read a)
      ∧ t.pending = s.pending)
  ∧ (∀ (p : Bool) (s : State), s.phase = .loading → s.memory.wf = true → ¬ recordCheck s →
    ∃ t, exec (.loadComplete p) s = .next t ∧ hasFlag t.notice.latched .wearLost = true
      ∧ t.filter.dose = 0 ∧ t.filter.remainder = 0 ∧ t.filter.hours = 0 ∧ t.filter.minutes = 0
      ∧ t.dry.runHours = 0 ∧ t.dry.runMinutes = 0 ∧ t.dry.starts = 0 ∧ t.dry.defrosts = 0 ∧ t.dry.tripTotal = 0
      ∧ t.tank.cycles = 0 ∧ t.air.baseline = List.replicate 8 none ∧ t.air.q = 0
      ∧ t.store.lastSeq = 0 ∧ t.store.lastCheck = crc8 (List.replicate 38 0)
      ∧ (∀ i, i < 38 → t.memory.read (address t.path.page (BitVec.ofNat 8 (0xA0 + i))).toNat = 0)
      ∧ t.memory.read (address t.path.page 0xC6#8).toNat = crc8 (List.replicate 38 0)
      ∧ t.path.page = loadPage s
      ∧ (settingsCheck s → ∀ a,
          (∀ off, 0xA0 ≤ off → off ≤ 0xC6 → a ≠ (address (loadPage s) (BitVec.ofNat 8 off)).toNat) →
          t.memory.read a = s.memory.read a)
      ∧ t.pending = s.pending)

/-- R126, R48, R49, R65, R94, R157, R158: a load whose two checks hold takes both images as they stand, with the limits of
R48 and R65 and the stage judged again, writes nothing, raises neither occurrence, and starts the part with its save
timer. What every load starts, whatever its checks say: the settling timer and the tach stop timer (R1, R15, R18), the
off time from 0 (R64), the supervision count (R162, R168), the slots USER and AUTO (R22, R24), and the request for the bus
where nPFW is low and HOLDACK is low (R158). The level of nPFW is an operand of the command by the model's choice
(notes/assumptions/28.md). -/
def Obligations.LoadTakesIntactImages : Prop :=
  (∀ (p : Bool) (s : State), s.phase = .loading → settingsCheck s → recordCheck s →
    ∃ t, exec (.loadComplete p) s = .next t ∧ t.memory = s.memory ∧ t.phase = .running
      ∧ t.path.page = loadPage s
      ∧ t.path.raw = readRun s.memory (loadPage s) 0x00 64 ∧ t.path.working = Settings.ofRaw t.path.raw
      ∧ t.filter.dose = leValue (readRun s.memory (loadPage s) 0xA0 3)
      ∧ t.filter.remainder = min 3599999 (leValue (readRun s.memory (loadPage s) 0xA3 3))
      ∧ t.filter.hours = leValue (readRun s.memory (loadPage s) 0xA6 2)
      ∧ t.filter.minutes = min 59 (s.memory.read (address (loadPage s) 0xA8#8).toNat).toNat
      ∧ t.filter.fanSeconds = 0
      ∧ t.filter.wear = min 100 (max (t.filter.dose / (t.path.working.dexh * 10))
          (max (t.air.q * 100 / t.path.working.qexh) (t.filter.hours * 100 / (t.path.working.hexh * 24))))
      ∧ (t.filter.wear = 100 ∨ 2 ≤ (s.memory.read (address (loadPage s) 0xA9#8).toNat).toNat →
          t.filter.stage = .exhausted)
      ∧ (t.filter.wear < 100 → s.memory.read (address (loadPage s) 0xA9#8).toNat = 1#8 → t.filter.stage = .worn)
      ∧ (t.filter.wear < 100 → s.memory.read (address (loadPage s) 0xA9#8).toNat = 0#8 →
          t.filter.stage = if t.path.working.wworn ≤ t.filter.wear then .worn else .good)
      ∧ hasFlag t.notice.conditions .filterExhausted = decide (t.filter.stage = .exhausted)
      ∧ t.lamps.stage = t.filter.stage
      ∧ t.dry.runMinutes = min 59 (s.memory.read (address (loadPage s) 0xAC#8).toNat).toNat
      ∧ t.dry.runSeconds = 0
      ∧ t.dry.tripTotal = (s.memory.read (address (loadPage s) 0xB3#8).toNat).toNat
      ∧ (∀ i, i < 8 → t.air.baseline.getD i none
          = if leValue (readRun s.memory (loadPage s) (0xB4 + 2 * i) 2) = 0 then none
            else some (leValue (readRun s.memory (loadPage s) (0xB4 + 2 * i) 2)))
      ∧ t.path.protectedImage = readRun s.memory (loadPage s) 0xA0 39
          ++ [s.memory.read (address (loadPage s) 0xFE#8).toNat]
      ∧ t.store.saveTimer = startTimer 900000
      ∧ t.dry.runHours = leValue (readRun s.memory (loadPage s) 0xAA 2)
      ∧ t.dry.starts = leValue (readRun s.memory (loadPage s) 0xAD 2)
      ∧ t.dry.defrosts = leValue (readRun s.memory (loadPage s) 0xAF 2)
      ∧ t.tank.cycles = leValue (readRun s.memory (loadPage s) 0xB1 2)
      ∧ t.air.q = (s.memory.read (address (loadPage s) 0xC5#8).toNat).toNat
      ∧ t.store.lastSeq = s.memory.read (address (loadPage s) 0xC4#8).toNat
      ∧ t.store.lastCheck = s.memory.read (address (loadPage s) 0xC6#8).toNat
      ∧ hasFlag t.notice.latched .settingsDefaulted = hasFlag s.notice.latched .settingsDefaulted
      ∧ hasFlag t.notice.latched .wearLost = hasFlag s.notice.latched .wearLost
      ∧ t.notice.held = false ∧ t.controllerResetPin = false ∧ t.store.resetCause = s.store.resetCause
      ∧ t.pins.npfwLow = p ∧ t.store.queue = (if p then [.wearSave] else []) ∧ t.pending = s.pending)
  ∧ (∀ (p : Bool) (s : State), s.phase = .loading →
    ∃ t, exec (.loadComplete p) s = .next t ∧ t.phase = .running ∧ t.pins = { s.pins with npfwLow := p }
      ∧ t.front.settling = startTimer (t.path.working.nat 0x28 * 10)
      ∧ (∀ sw, t.front.switch sw = { debounced := none, timer := none })
      ∧ (∀ ch, (t.front.channel ch).status = .unmeasured)
      ∧ t.front.tach = { timing := false, periods := [], rpm := 0, valid := false, stopTimer := startTimer 1000 }
      ∧ t.dry.comp = .offHold ∧ t.dry.offTime = 0 ∧ t.dry.offTimer = startTimer 1000 ∧ t.dry.extraHold = none
      ∧ t.cmd.mode = .normal ∧ t.cmd.status = .idle ∧ t.cmd.awaited = .none
      ∧ t.cmd.count = t.path.working.supervisionInterval
      ∧ t.cmd.counting = (if t.path.working.supervisionInterval = 0 then none else startTimer 1000)
      ∧ (t.path.working.mode = .off → t.air.user = none ∧ t.air.auto = none)
      ∧ (t.path.working.mode = .dry → t.air.auto = none
          ∧ t.air.user = if t.path.working.circulate then some (t.path.working.nat 0x07) else none)
      ∧ (t.path.working.mode = .clean ∨ t.path.working.mode = .cleanDry →
          (t.path.working.fanSpeed = 0 → t.air.user = none ∧ t.air.auto = some (t.path.working.nat 0x07))
          ∧ (1 ≤ t.path.working.fanSpeed → t.air.auto = none
              ∧ t.air.user = some (t.path.working.nat (0x06 + t.path.working.fanSpeed))))
      ∧ t.air.drying = none ∧ t.air.defrost = none ∧ t.air.protect = none ∧ t.air.standalone = none
      ∧ t.air.learn = none ∧ t.air.band = 0 ∧ t.fanPin = 0 ∧ t.compPin = false ∧ t.pumpPin = false
      ∧ t.store.saveTimer = startTimer 900000 ∧ t.store.refusals = 0 ∧ t.store.retryTimer = none
      ∧ t.store.queue = (if p then [.wearSave] else [])
      ∧ (p = true → s.pins.holdAck = false → t.store.hold = .requesting ∧ t.holdReqPin = true
          ∧ t.store.ackTimer = startTimer 20)
      ∧ (p = false ∨ s.pins.holdAck = true → t.store.hold = .idle ∧ t.holdReqPin = false
          ∧ t.store.ackTimer = none)
      ∧ t.pending = s.pending)

/-- R159, R125, R167, R176: 0x5A at the command cell of an armed part begins the restart. What the memory path holds in the
drain beside the page is the model's choice (notes/assumptions/25.md) and is not stated; what the air mover and drying
hold of the load's registers in their reset states is its choice too (notes/assumptions/6.md). -/
def Obligations.RestartBeginsDrain : Prop :=
  ∀ s : State, s.takesCycles = true → s.memory.wf = true → s.path.armed = true →
    ∃ t, exec .restart s = .next t ∧ t.phase = .draining ∧ t.controllerResetPin = true
      ∧ t.controllerDataLines = .released ∧ (∀ k, t.waitPin k = false)
      ∧ t.store.resetCause = .restart ∧ t.store.holdReq = false ∧ t.store.ackTimer = none ∧ t.store.retryTimer = none
      ∧ t.store.saveTimer = s.store.saveTimer ∧ t.store.changed = s.store.changed ∧ t.store.service = none
      ∧ t.store.queue = .wearSave :: (List.filter (· ≠ .wearSave)
          (if s.path.quietTimer.isSome ∧ s.store.movePending = false ∧ .crcUpdate ∉ s.store.queue
            then s.store.queue ++ [.crcUpdate] else s.store.queue))
      ∧ t.store.drain = some { record := recordBytes s s.store.lastSeq, raw := s.path.raw }
      ∧ t.store.lastSeq = s.store.lastSeq ∧ t.path.page = s.path.page ∧ t.path.quietTimer = none
      ∧ t.path.armed = false ∧ t.cmd = .atReset ∧ t.air = .atReset ∧ t.dry = .atReset ∧ t.filter = .atReset
      ∧ t.tank = .atReset ∧ t.notice = .atReset ∧ t.lamps = .atReset ∧ t.front = .atReset
      ∧ onlyByte s t (address s.path.page 0x40#8).toNat 0 ∧ t.pins = s.pins ∧ t.pending = s.pending

/-- R160, R153: a WEAR_SAVE at the head of the drain writes the record with the next sequence and its check byte, a
CRC_UPDATE the settings check byte, a WINDOW_MOVE both images with their check bytes at its target page, to which the page
switches, and no other byte, the anchor among those that stand; when the queue is empty the reload follows. -/
def Obligations.DrainWritesRecord : Prop :=
  (∀ (d : Drain) (rest : List Job) (s : State), s.phase = .draining → s.memory.wf = true → s.store.drain = some d →
    s.store.queue = .wearSave :: rest → d.record.length = 38 →
    ∃ t, exec .drainJobComplete s = .next t
      ∧ (∀ i, i < 38 → i ≠ 0x24 →
          t.memory.read (address s.path.page (BitVec.ofNat 8 (0xA0 + i))).toNat = d.record.getD i 0)
      ∧ t.memory.read (address s.path.page 0xC4#8).toNat = s.store.lastSeq + 1
      ∧ t.memory.read (address s.path.page 0xC6#8).toNat = crc8 (withSequence d.record (s.store.lastSeq + 1))
      ∧ (∀ a, (∀ i, 0xA0 ≤ i → i ≤ 0xC6 → a ≠ (address s.path.page (BitVec.ofNat 8 i)).toNat) →
          t.memory.read a = s.memory.read a)
      ∧ t.store.lastSeq = s.store.lastSeq + 1 ∧ t.store.queue = rest ∧ t.path.page = s.path.page
      ∧ t.phase = (if rest = [] then .loading else .draining) ∧ t.pending = s.pending)
  ∧ (∀ (d : Drain) (rest : List Job) (s : State), s.phase = .draining → s.memory.wf = true → s.store.drain = some d →
    s.store.queue = .crcUpdate :: rest →
    ∃ t, exec .drainJobComplete s = .next t ∧ onlyByte s t (address s.path.page 0xFE#8).toNat (crc8 d.raw)
      ∧ t.store.lastSeq = s.store.lastSeq ∧ t.store.lastCheck = s.store.lastCheck ∧ t.store.queue = rest
      ∧ t.path.page = s.path.page ∧ t.phase = (if rest = [] then .loading else .draining) ∧ t.pending = s.pending)
  ∧ (∀ (d : Drain) (rest : List Job) (s : State), s.phase = .draining → s.memory.wf = true → s.store.drain = some d →
    s.store.queue = .windowMove :: rest → d.record.length = 38 → d.raw.length = 64 →
    ∃ t, exec .drainJobComplete s = .next t ∧ t.path.page = s.store.target
      ∧ (∀ i, i < 64 → t.memory.read (address s.store.target (BitVec.ofNat 8 i)).toNat = d.raw.getD i 0)
      ∧ t.memory.read (address s.store.target 0xFE#8).toNat = crc8 d.raw
      ∧ (∀ i, i < 38 → i ≠ 0x24 →
          t.memory.read (address s.store.target (BitVec.ofNat 8 (0xA0 + i))).toNat = d.record.getD i 0)
      ∧ t.memory.read (address s.store.target 0xC4#8).toNat = s.store.lastSeq + 1
      ∧ t.memory.read (address s.store.target 0xC6#8).toNat = crc8 (withSequence d.record (s.store.lastSeq + 1))
      ∧ (∀ a, (∀ i, i < 0x40 ∨ (0xA0 ≤ i ∧ i ≤ 0xC6) ∨ i = 0xFE →
            a ≠ (address s.store.target (BitVec.ofNat 8 i)).toNat) →
          t.memory.read a = s.memory.read a)
      ∧ t.store.lastCheck = crc8 (withSequence d.record (s.store.lastSeq + 1))
      ∧ t.store.lastSeq = s.store.lastSeq + 1 ∧ t.store.queue = rest
      ∧ t.phase = (if rest = [] then .loading else .draining) ∧ t.pending = s.pending)

/-- R160: a restart whose drain completes reloads its own images and raises neither SETTINGS_DEFAULTED nor WEAR_LOST. Here
the restart finds a setting write not yet covered by the check byte, no move pending, the anchor naming the page, and
the memory holding the raw image (`rawInMemory`, which every step keeps). -/
def Obligations.RestartReloadsOwnImages : Prop :=
  ∀ (p : Bool) (s : State), s.takesCycles = true → s.memory.wf = true → s.path.armed = true →
    s.path.quietTimer.isSome = true → s.store.queue = [] → s.store.service = none →
    s.path.raw.length = 64 → s.rawInMemory → loadPage s = s.path.page →
    ∃ t1 t2 t3 t4, exec .restart s = .next t1 ∧ exec .drainJobComplete t1 = .next t2
      ∧ exec .drainJobComplete t2 = .next t3 ∧ exec (.loadComplete p) t3 = .next t4
      ∧ t4.phase = .running ∧ t4.path.page = s.path.page ∧ t4.path.raw = s.path.raw
      ∧ hasFlag t4.notice.latched .settingsDefaulted = false ∧ hasFlag t4.notice.latched .wearLost = false
      ∧ t4.store.lastSeq = s.store.lastSeq + 1 ∧ t4.store.resetCause = .restart
      ∧ t4.filter.hours = s.filter.hours % 65536 ∧ t4.tank.cycles = s.tank.cycles % 65536

/-! ### Measurement front end (R1 to R21) -/

/-- R3, R4, R5: one arrival at a converter channel, and the channels it does not disturb; the window mean and the scaling of
Table 5, with which the values are formed. -/
def Obligations.ArrivalStepsChannel : Prop :=
  (∀ (ch : Channel) (code : BitVec 10) (s : State), s.phase = .running →
    ∃ t, exec (.converterArrival ch code) s = .next t
      ∧ (9 ≤ code.toNat ∧ code.toNat ≤ 1014 →
          ((s.front.channel ch).status = .unmeasured → t.front.channel ch
              = { status := .valid, window := [code], count := 0, value := scaled s.path.working ch code.toNat })
          ∧ ((s.front.channel ch).status = .valid → t.front.channel ch
              = { status := .valid, window := joinNewest 4 (s.front.channel ch).window code, count := 0,
                  value := scaled s.path.working ch (windowMean (joinNewest 4 (s.front.channel ch).window code)) })
          ∧ ((s.front.channel ch).status = .faulted → (s.front.channel ch).window.length = 3 → t.front.channel ch
              = { status := .valid, window := (s.front.channel ch).window ++ [code],
                  count := (s.front.channel ch).count,
                  value := scaled s.path.working ch (windowMean ((s.front.channel ch).window ++ [code])) })
          ∧ ((s.front.channel ch).status = .faulted → (s.front.channel ch).window.length < 3 → t.front.channel ch
              = { s.front.channel ch with window := (s.front.channel ch).window ++ [code] }))
      ∧ (code.toNat ≤ 8 ∨ 1015 ≤ code.toNat →
          ((s.front.channel ch).status = .faulted → t.front.channel ch = { s.front.channel ch with window := [] })
          ∧ ((s.front.channel ch).status ≠ .faulted → (s.front.channel ch).count < 2 → t.front.channel ch
              = { s.front.channel ch with count := (s.front.channel ch).count + 1 })
          ∧ ((s.front.channel ch).status ≠ .faulted → (s.front.channel ch).count = 2 → t.front.channel ch
              = { s.front.channel ch with status := .faulted, window := [], count := 0 }))
      ∧ (∀ ch', ch' ≠ ch → t.front.channel ch' = s.front.channel ch')
      ∧ t.front.particle = s.front.particle ∧ t.front.tach = s.front.tach
      ∧ (∀ sw, t.front.switch sw = s.front.switch sw) ∧ t.front.settling = s.front.settling
      ∧ t.filter = s.filter ∧ t.tank = s.tank ∧ t.path = s.path ∧ t.store = s.store ∧ t.memory = s.memory
      ∧ t.pins = s.pins ∧ t.phase = s.phase ∧ t.pending = s.pending)
  ∧ (∀ (w : Settings) (m : Nat),
    scaled w .rh m = max 0 (min 1000 (((m * 1000 / 1023 : Nat) : Int) + (w.byte 0x2B).toInt))
    ∧ scaled w .troom m = (m : Int) - 400 + (w.byte 0x2C).toInt
    ∧ scaled w .tevap m = (m : Int) - 400 + (w.byte 0x2D).toInt
    ∧ scaled w .tcond m = (m : Int) - 400 + (w.byte 0x2E).toInt
    ∧ scaled w .supply m = ((m * 300 / 1023 : Nat) : Int))
  ∧ (∀ (codes : List (BitVec 10)) (code : BitVec 10), windowMean codes = (codes.map BitVec.toNat).sum / codes.length
    ∧ (codes.length < 4 → joinNewest 4 codes code = codes ++ [code])
    ∧ (codes.length = 4 → joinNewest 4 codes code = codes.tail ++ [code]))

/-- R8, R20: SENSOR_FAULT stands for the six channels after every arrival and every window end; and the supply-low
detector after an arrival of SUPPLY and after a write that changes its threshold, with its report to drying and the air
mover. -/
def Obligations.FrontEndJudgesArrivals : Prop :=
  (∀ (c : Instr) (s t : State), ((∃ ch code, c = .converterArrival ch code) ∨ c = .particleWindowEnd) →
    hasFlag s.notice.conditions .sensorFault = s.front.sensorFault → exec c s = .next t →
    (hasFlag t.notice.conditions .sensorFault = true ↔
      (∃ ch, (t.front.channel ch).status = .faulted) ∨ t.front.particle.status = .faulted))
  ∧ (∀ (code : BitVec 10) (s : State), s.phase = .running →
    ∃ t, exec (.converterArrival .supply code) s = .next t
      ∧ (t.front.supply.status ≠ .valid → t.front.supplyLow = false)
      ∧ (t.front.supply.status = .valid →
          (t.front.supply.value < (s.path.working.supplyLowThreshold : Int) → t.front.supplyLow = true)
          ∧ ((s.path.working.supplyLowThreshold : Int) + 5 ≤ t.front.supply.value → t.front.supplyLow = false)
          ∧ ((s.path.working.supplyLowThreshold : Int) ≤ t.front.supply.value →
              t.front.supply.value < (s.path.working.supplyLowThreshold : Int) + 5 →
              t.front.supplyLow = s.front.supplyLow))
      ∧ (s.front.supplyLow = false → t.front.supplyLow = true → hasFlag t.notice.latched .supplyLow = true)
      ∧ (t.front.supplyLow ≠ s.front.supplyLow →
          t.dry.supplyLow = t.front.supplyLow ∧ t.air.supplyLow = t.front.supplyLow))
  ∧ (∀ (v : Byte) (s : State), s.settingsWritable →
    ∃ t, exec (.settingWrite 0x2F#8 v) s = .next t ∧ t.front.supply = s.front.supply
      ∧ (t.path.working.supplyLowThreshold ≠ s.path.working.supplyLowThreshold →
          (s.front.supply.status ≠ .valid → t.front.supplyLow = false)
          ∧ (s.front.supply.status = .valid →
              (s.front.supply.value < (t.path.working.supplyLowThreshold : Int) → t.front.supplyLow = true)
              ∧ ((t.path.working.supplyLowThreshold : Int) + 5 ≤ s.front.supply.value → t.front.supplyLow = false)
              ∧ ((t.path.working.supplyLowThreshold : Int) ≤ s.front.supply.value →
                  s.front.supply.value < (t.path.working.supplyLowThreshold : Int) + 5 →
                  t.front.supplyLow = s.front.supplyLow)))
      ∧ (s.front.supplyLow = false → t.front.supplyLow = true → hasFlag t.notice.latched .supplyLow = true)
      ∧ (t.front.supplyLow ≠ s.front.supplyLow →
          t.dry.supplyLow = t.front.supplyLow ∧ t.air.supplyLow = t.front.supplyLow))

/-- R9 to R12, R25: one millisecond sample adds 1 at the active level, low under NORMAL and high under INVERTED; and a window
end, with the auto band that the particle value in use gives. -/
def Obligations.ParticleChannelMeasures : Prop :=
  (∀ (high : Bool) (s : State), s.phase = .running → s.front.particle.accumulator < 10000 →
    ∃ t, exec (.particleSample high) s = .next t ∧ onlyFront s t
      ∧ t.front = { s.front with particle := { s.front.particle with
          accumulator := s.front.particle.accumulator + if high = s.path.working.inverted 1 then 1 else 0 } })
  ∧ (∀ s : State, s.phase = .running →
    ∃ t, exec .particleWindowEnd s = .next t
      ∧ t.front.particle.occupancy = s.front.particle.accumulator ∧ t.front.particle.accumulator = 0
      ∧ (s.front.particle.status = .warmUp → t.front.particle.status = .awaiting
          ∧ t.front.particle.value = s.front.particle.value ∧ t.front.particle.saturated = s.front.particle.saturated)
      ∧ (s.front.particle.status ≠ .warmUp → s.front.particle.accumulator < 10000 →
          t.front.particle.status = .valid ∧ t.front.particle.saturated = 0
          ∧ t.front.particle.value = min 999 (s.front.particle.accumulator * s.path.working.kp / 256))
      ∧ (s.front.particle.status = .awaiting ∨ s.front.particle.status = .valid →
          10000 ≤ s.front.particle.accumulator → s.front.particle.saturated = 0 →
          t.front.particle.status = s.front.particle.status ∧ t.front.particle.saturated = 1
          ∧ t.front.particle.value = s.front.particle.value)
      ∧ (s.front.particle.status = .awaiting ∨ s.front.particle.status = .valid →
          10000 ≤ s.front.particle.accumulator → s.front.particle.saturated = 1 →
          t.front.particle.status = .faulted ∧ t.front.particle.saturated = 2
          ∧ t.front.particle.value = s.front.particle.value)
      ∧ (s.front.particle.status = .faulted → 10000 ≤ s.front.particle.accumulator →
          t.front.particle.status = .faulted ∧ t.front.particle.value = s.front.particle.value)
      ∧ t.front = { s.front with particle := t.front.particle }
      ∧ (∀ p implied lower : Nat,
          p = (if t.front.particle.status = .valid then t.front.particle.value else s.path.working.fallback) →
          implied = (if s.path.working.t3 ≤ p then 3 else if s.path.working.t2 ≤ p then 2
            else if s.path.working.t1 ≤ p then 1 else 0) →
          lower = (if s.air.band = 1 then s.path.working.t1 else if s.air.band = 2 then s.path.working.t2
            else s.path.working.t3) →
          t.air.band = (if s.air.band < implied then implied
            else if 0 < s.air.band ∧ p < 4 * lower / 5 then s.air.band - 1 else s.air.band))
      ∧ (∀ d, s.air.auto = some d → t.air.auto = some (s.path.working.nat (0x07 + t.air.band)))
      ∧ (s.air.auto = none → t.air.auto = none)
      ∧ t.filter = s.filter ∧ t.tank = s.tank ∧ t.path = s.path ∧ t.memory = s.memory ∧ t.pending = s.pending)

/-- R13 to R16: a counted edge of the tach, an edge of the other direction, which changes nothing, and the stopped
report. -/
def Obligations.TachTimesFan : Prop :=
  (∀ (e : Edge) (k : Nat) (s : State), s.phase = .running →
    ∃ t, exec (.tachEdge e k) s = .next t ∧ onlyFront s t ∧ t.front = { s.front with tach := t.front.tach }
      ∧ ((e = .falling ↔ s.path.working.inverted 0 = true) → t.front.tach = s.front.tach)
      ∧ ((e = .falling ↔ s.path.working.inverted 0 = false) →
          t.front.tach.timing = true ∧ t.front.tach.stopTimer = startTimer 1000
          ∧ (s.front.tach.timing = false → t.front.tach.periods = s.front.tach.periods
              ∧ t.front.tach.rpm = s.front.tach.rpm ∧ t.front.tach.valid = s.front.tach.valid)
          ∧ (s.front.tach.timing = true → s.front.tach.periods.length < 7 →
              t.front.tach.periods = s.front.tach.periods ++ [max 1 (min 1000000 k)]
              ∧ t.front.tach.rpm = s.front.tach.rpm ∧ t.front.tach.valid = s.front.tach.valid)
          ∧ (s.front.tach.timing = true → s.front.tach.periods.length = 7 ∨ s.front.tach.periods.length = 8 →
              t.front.tach.periods = (s.front.tach.periods ++ [max 1 (min 1000000 k)]).drop
                (s.front.tach.periods.length - 7)
              ∧ t.front.tach.valid = true
              ∧ t.front.tach.rpm
                  = min 8191 (480000000 / (t.front.tach.periods.sum * s.path.working.ppr)))))
  ∧ (∀ s : State, s.front.tach.stopTimer.isSome = true →
    ∃ t, exec .stoppedReport s = .next t ∧ onlyFront s t
      ∧ t.front = { s.front with tach :=
          { timing := false, periods := [], rpm := 0, valid := true, stopTimer := none } })

/-- R17: a changed raw state of a settled switch restarts its debounce timer, an unchanged one and one of an unsettled
switch leave it; so does a write of the polarity, by each switch's entry; at the expiry the debounced state becomes the
raw state, and an unchanged one is reported to no block. -/
def Obligations.SwitchesDebounce : Prop :=
  (∀ (sw : Switch) (high : Bool) (s : State), s.phase = .running →
    ∃ t, exec (.switchRawChange sw high) s = .next t ∧ t.pins.level sw = high
      ∧ (∀ sw', sw' ≠ sw → t.pins.level sw' = s.pins.level sw' ∧ t.front.switch sw' = s.front.switch sw')
      ∧ (t.front.switch sw).debounced = (s.front.switch sw).debounced
      ∧ (high ≠ s.pins.level sw → (s.front.switch sw).debounced.isSome = true →
          (t.front.switch sw).timer = startTimer s.path.working.debounceMs)
      ∧ (high = s.pins.level sw ∨ (s.front.switch sw).debounced = none →
          (t.front.switch sw).timer = (s.front.switch sw).timer)
      ∧ t = (s.setPins t.pins).setFront t.front)
  ∧ (∀ (sw : Switch) (s : State), (s.front.switch sw).timer.isSome = true →
    ∃ t, exec (.debounceExpiry sw) s = .next t
      ∧ t.front.switch sw = { debounced := some (rawState s.pins s.path.working sw), timer := none }
      ∧ (∀ sw', sw' ≠ sw → t.front.switch sw' = s.front.switch sw')
      ∧ ((s.front.switch sw).debounced = some (rawState s.pins s.path.working sw) → onlyFront s t)
      ∧ ((s.front.switch sw).debounced ≠ some (rawState s.pins s.path.working sw) →
          (sw = .door → t.air.doorClosed = !(rawState s.pins s.path.working .door)
            ∧ (rawState s.pins s.path.working .door = true → t.fanPin = 0 ∧ t.compPin = false))
          ∧ (sw = .highFloat → t.tank.highFloat = some (rawState s.pins s.path.working sw))
          ∧ (sw = .fullFloat → t.tank.fullFloat = some (rawState s.pins s.path.working sw))
          ∧ (sw = .tankPresent → t.tank.present = some (rawState s.pins s.path.working sw)))
      ∧ t.pins = s.pins ∧ t.path = s.path ∧ t.memory = s.memory ∧ t.phase = s.phase ∧ t.pending = s.pending)
  ∧ (∀ (v : Byte) (s : State), s.settingsWritable →
    ∃ t, exec (.settingWrite 0x29#8 v) s = .next t ∧ ∀ sw,
      (t.front.switch sw).debounced = (s.front.switch sw).debounced
      ∧ (t.path.working.inverted (polarityBit sw) ≠ s.path.working.inverted (polarityBit sw) →
          (s.front.switch sw).debounced.isSome = true →
          (t.front.switch sw).timer = startTimer s.path.working.debounceMs)
      ∧ (t.path.working.inverted (polarityBit sw) = s.path.working.inverted (polarityBit sw)
            ∨ (s.front.switch sw).debounced = none →
          (t.front.switch sw).timer = (s.front.switch sw).timer))

/-- R18: the settling expiry gives every switch its raw state and makes the first reports. -/
def Obligations.SettlingReportsSwitches : Prop :=
  ∀ s : State, s.front.settling.isSome = true →
    ∃ t, exec .switchSettlingExpiry s = .next t ∧ t.front.settling = none
      ∧ (∀ sw, t.front.switch sw = { debounced := some (rawState s.pins s.path.working sw), timer := none })
      ∧ t.tank.highFloat = some (rawState s.pins s.path.working .highFloat)
      ∧ t.tank.fullFloat = some (rawState s.pins s.path.working .fullFloat)
      ∧ t.tank.present = some (rawState s.pins s.path.working .tankPresent)
      ∧ t.air.doorClosed = !(rawState s.pins s.path.working .door)
      ∧ t.filter.door = (if rawState s.pins s.path.working .door then .opened else .closed)
      ∧ t.dry.door = t.filter.door ∧ t.lamps.door = t.filter.door ∧ t.dry.tank = some t.tank.level
      ∧ hasFlag t.notice.conditions .filterDoor = rawState s.pins s.path.working .door
      ∧ t.path = s.path ∧ t.memory = s.memory ∧ t.pins = s.pins ∧ t.pending = s.pending

/-- R19, R148, R150: an asserting edge of nPFW puts a WEAR_SAVE at the head of the queue, ahead of a pending move, and an
idle unit with HOLDACK low asks for the bus. -/
def Obligations.PowerFailQueuesUrgentSave : Prop :=
  ∀ s : State, s.phase = .running →
    ∃ t, exec .npfwAssert s = .next t
      ∧ t.store.queue = .wearSave :: s.store.queue.filter (· ≠ .wearSave)
      ∧ (s.store.hold = .idle → s.pins.holdAck = false → t.store.hold = .requesting ∧ t.store.holdReq = true
          ∧ t.store.ackTimer = startTimer 20)
      ∧ (s.store.hold ≠ .idle ∨ s.pins.holdAck = true → t.store.hold = s.store.hold
          ∧ t.store.holdReq = s.store.holdReq)
      ∧ t.store.changed = s.store.changed ∧ t.store.service = s.store.service ∧ t.store.refusals = s.store.refusals
      ∧ t = (s.setPins { s.pins with npfwLow := true }).setStore t.store

/-! ### Air mover (R22 to R47) -/

/-- R28, R29, R31: one ramp step by the table of the rule; the monitor disarmed at 0, the arming timer started by the first
drive from 0 with the supply not low, the settled timer started at the target; and nothing outside the air mover. -/
def Obligations.RampStepMovesDuty : Prop :=
  ∀ s : State, s.air.rampTimer.isSome = true →
    ∃ t, exec .rampStep s = .next t ∧ onlyAir s t
      ∧ (s.air.effective = 0 → 31 ≤ s.air.target → t.air.effective = 31)
      ∧ (0 < s.air.effective → s.air.effective < s.air.target →
          t.air.effective = min s.air.target (s.air.effective + s.path.working.riseRate))
      ∧ (s.air.target < s.air.effective → 31 ≤ s.air.target →
          t.air.effective = max s.air.target (s.air.effective - s.path.working.fallRate))
      ∧ (s.air.target < s.air.effective → s.air.target = 0 →
          t.air.effective = if s.path.working.fallRate + 31 ≤ s.air.effective
            then s.air.effective - s.path.working.fallRate else 0)
      ∧ (t.air.effective = s.air.target → t.air.rampTimer = none)
      ∧ (t.air.effective ≠ s.air.target → t.air.rampTimer = startTimer 100)
      ∧ (t.air.effective = 0 → t.air.armed = false ∧ t.air.armingTimer = none ∧ t.air.zeroRun = 0)
      ∧ (s.air.effective = 0 → 31 ≤ s.air.target → s.air.supplyLow = false →
          t.air.armingTimer = startTimer 2000 ∧ t.air.armed = s.air.armed)
      ∧ (0 < t.air.effective → 0 < s.air.effective ∨ s.air.supplyLow = true →
          t.air.armed = s.air.armed ∧ t.air.armingTimer = s.air.armingTimer ∧ t.air.zeroRun = s.air.zeroRun)
      ∧ (t.air.effective = s.air.target → 31 ≤ s.air.target → t.air.settledTimer = startTimer 3000)
      ∧ (t.air.effective = s.air.target → s.air.target = 0 → t.air.settledTimer = none)
      ∧ (t.air.effective ≠ s.air.target → t.air.settledTimer = s.air.settledTimer)
      ∧ t.air.settled = s.air.settled
      ∧ t.air.target = s.air.target ∧ t.air.fan = s.air.fan ∧ t.air.sweep = s.air.sweep
      ∧ t.air.retries = s.air.retries ∧ t.air.q = s.air.q ∧ t.air.baseline = s.air.baseline

/-- R29, R31, R33: the settled timer, the arming timer and the stall-wait timer. -/
def Obligations.FanTimersExpire : Prop :=
  (∀ s : State, s.air.settledTimer.isSome = true → ∃ t, exec .settledTimerExpiry s = .next t ∧ onlyAir s t
      ∧ t.air.settled = true ∧ t.air.settledTimer = none
      ∧ (∀ i, s.air.sweep = .measuring i .settling →
          t.air.sweep = .measuring i .hold ∧ t.air.learnTimer = startTimer 5000)
      ∧ ((∀ i, s.air.sweep ≠ .measuring i .settling) →
          t.air = { s.air with settled := true, settledTimer := none }))
  ∧ (∀ s : State, s.air.armingTimer.isSome = true → ∃ t, exec .armingTimerExpiry s = .next t ∧ onlyAir s t
      ∧ t.air = { s.air with armed := true, armingTimer := none })
  ∧ (∀ s : State, s.air.stallWait.isSome = true → ∃ t, exec .stallWaitExpiry s = .next t ∧ onlyAir s t
      ∧ (31 ≤ s.air.target → t.air.fan = .run) ∧ (s.air.target = 0 → t.air.fan = .stopped)
      ∧ t.air.effective = s.air.effective ∧ t.air.retries = s.air.retries ∧ t.air.stallWait = none
      ∧ (31 ≤ s.air.target → s.air.effective = 0 → s.air.doorClosed = true → s.air.allStop = false →
          t.air.rampTimer.isSome = true))

/-- R31, R32, R34: the thirty-first check of a zero run declares a stall; the checks that declare none and complete no
clean run count their runs, and nothing else moves; the 601st check of a clean run ends the stall episode. That a run of
3 s completes at its thirty-first check and one of 60 s at its 601st is the model's inference
(notes/assumptions/12.md). -/
def Obligations.StallCheckSupervisesFan : Prop :=
  (∀ s : State, s.phase = .running → s.air.armed = true → s.front.tach.rpm = 0 → s.air.zeroRun = 30 →
    ∃ t, exec .stallCheck s = .next t ∧ t.air.retries = s.air.retries + 1
      ∧ t.air.fan = (if 3 ≤ s.air.retries + 1 then .stallLockout else .stallWait)
      ∧ (s.air.retries + 1 < 3 → t.air.stallWait = startTimer 30000)
      ∧ t.air.effective = 0 ∧ t.air.rampTimer = none ∧ t.air.settled = false ∧ t.air.armed = false
      ∧ t.air.zeroRun = 0 ∧ t.air.cleanRun = 0 ∧ t.air.sweep = .none
      ∧ hasFlag t.notice.conditions .fanStall = true ∧ t.compPin = false
      ∧ t.front = s.front ∧ t.filter = s.filter ∧ t.tank = s.tank ∧ t.path = s.path ∧ t.store = s.store
      ∧ t.memory = s.memory ∧ t.pending = s.pending)
  ∧ (∀ s : State, s.phase = .running → s.air.zeroRun < 30 →
    (s.air.cleanRun < 600 ∨ s.air.fan ≠ .run ∨ s.air.effective < 31 ∨ s.front.tach.rpm = 0
      ∨ (s.air.retries = 0 ∧ hasFlag s.notice.conditions .fanStall = false)) →
    ∃ t, exec .stallCheck s = .next t ∧ onlyAir s t
      ∧ (s.air.armed = true → s.front.tach.rpm = 0 → t.air.zeroRun = s.air.zeroRun + 1)
      ∧ (s.air.armed = false ∨ 0 < s.front.tach.rpm → t.air.zeroRun = 0)
      ∧ (0 < s.air.retries ∨ hasFlag s.notice.conditions .fanStall = true → s.air.fan = .run →
          31 ≤ s.air.effective → 0 < s.front.tach.rpm → t.air.cleanRun = s.air.cleanRun + 1)
      ∧ (s.air.fan ≠ .run ∨ s.air.effective < 31 ∨ s.front.tach.rpm = 0
            ∨ (s.air.retries = 0 ∧ hasFlag s.notice.conditions .fanStall = false) → t.air.cleanRun = 0)
      ∧ t.air.effective = s.air.effective ∧ t.air.target = s.air.target ∧ t.air.retries = s.air.retries
      ∧ t.air.fan = s.air.fan)
  ∧ (∀ s : State, s.phase = .running → s.air.cleanRun = 600 → s.air.fan = .run → 31 ≤ s.air.effective →
    0 < s.front.tach.rpm → 0 < s.air.retries ∨ hasFlag s.notice.conditions .fanStall = true →
    ∃ t, exec .stallCheck s = .next t ∧ t.air.retries = 0 ∧ t.air.cleanRun = 0 ∧ t.air.zeroRun = 0
      ∧ hasFlag t.notice.conditions .fanStall = false ∧ t.notice.latched = s.notice.latched
      ∧ t.dry.fanStall = false ∧ t.filter = s.filter ∧ t.tank = s.tank ∧ t.store = s.store ∧ onlyBlocks s t)

/-- R36 to R39: the restriction and the airflow of a period, with the base of R37 spelled out: B[7] at 255, a point of the
line between two entries below it, and undefined where an entry used is absent; and a Q that changes is evaluated by filter
accounting in the same expiry (R40, R55). -/
def Obligations.AirflowPeriodFormsQAndF : Prop :=
  ∀ s : State, s.phase = .running →
    ∃ t, exec .airflowPeriod s = .next t
      ∧ (∀ b : Int, baseAt s.air.baseline s.air.effective = some b → 1 ≤ b → s.air.settled = true →
          s.front.tach.valid = true → t.air.confirmed = true
          ∧ ((s.front.tach.rpm : Int) ≤ b → t.air.q = 0)
          ∧ (b < (s.front.tach.rpm : Int) →
              (t.air.q : Int) = min 255 (((s.front.tach.rpm : Int) - b) * 1024 / b)))
      ∧ (s.air.settled = false ∨ s.front.tach.valid = false ∨ baseAt s.air.baseline s.air.effective = none
            ∨ (∃ b : Int, baseAt s.air.baseline s.air.effective = some b ∧ b < 1) →
          t.air.q = s.air.q ∧ t.air.confirmed = false)
      ∧ (s.air.effective < 31 → baseAt s.air.baseline s.air.effective = none)
      ∧ (31 ≤ s.air.effective → ∀ i, i = (s.air.effective - 31) / 32 →
          (i = 7 → baseAt s.air.baseline s.air.effective = (s.air.baseline.getD 7 none).map fun v => (v : Int))
          ∧ (i < 7 → (s.air.baseline.getD i none = none ∨ s.air.baseline.getD (i + 1) none = none →
              baseAt s.air.baseline s.air.effective = none)
            ∧ (∀ lo hi : Nat, s.air.baseline.getD i none = some lo → s.air.baseline.getD (i + 1) none = some hi →
                baseAt s.air.baseline s.air.effective
                  = some ((lo : Int) + ((hi : Int) - lo) * ((s.air.effective : Int) - (32 * i + 31)) / 32))))
      ∧ t.air.airflow
          = s.air.effective * (s.path.working.nat 0x12 * 4) / 255 * (256 - t.air.q) / 256
      ∧ (s.air.effective = 0 → t.air.airflow = 0)
      ∧ (t.air.q ≠ s.air.q → t.store.changed = true)
      ∧ (t.air.q = s.air.q → t.filter = s.filter)
      ∧ (t.air.q ≠ s.air.q →
          t.filter = { s.filter with wear := t.filter.wear, stage := t.filter.stage }
          ∧ t.filter.wear = min 100 (max (s.filter.dose / (s.path.working.dexh * 10))
              (max (t.air.q * 100 / s.path.working.qexh) (s.filter.hours * 100 / (s.path.working.hexh * 24))))
          ∧ (t.filter.wear = 100 → t.filter.stage = .exhausted)
          ∧ (t.filter.wear < 100 → s.path.working.wworn ≤ t.filter.wear → s.filter.stage ≠ .exhausted →
              t.filter.stage = .worn)
          ∧ (t.filter.wear < 100 → t.filter.wear < s.path.working.wworn ∨ s.filter.stage = .exhausted →
              t.filter.stage = s.filter.stage))
      ∧ t.front = s.front ∧ t.tank = s.tank ∧ t.path = s.path ∧ t.memory = s.memory ∧ t.pending = s.pending

/-- R44, R45, R46: the hold's expiry and the readings of a sweep point, its result, its completion and its abandonment. -/
def Obligations.SweepTakesReadings : Prop :=
  (∀ (i : Nat) (s : State), s.air.sweep = .measuring i .hold → s.air.learnTimer.isSome = true →
    ∃ t, exec .learnHoldExpiry s = .next t ∧ onlyAir s t ∧ t.air.learnTimer = startTimer 500
      ∧ t.air.sweep = .measuring i (.readings [s.front.tach.rpm]))
  ∧ (∀ (i : Nat) (taken : List Nat) (s : State), s.air.sweep = .measuring i (.readings taken) →
    s.air.learnTimer.isSome = true →
    ∃ t, exec .learnReading s = .next t
      ∧ (taken.length < 3 → onlyAir s t ∧ t.air.learnTimer = startTimer 500
          ∧ t.air.sweep = .measuring i (.readings (taken ++ [s.front.tach.rpm])))
      ∧ (taken.length = 3 → 4 ≤ taken.sum + s.front.tach.rpm → i < 7 →
          t.air.scratch = s.air.scratch ++ [(taken.sum + s.front.tach.rpm) / 4]
          ∧ t.air.learn = some (32 * (i + 1) + 31) ∧ t.cmd.progress = i + 3 ∧ t.lamps.progress = i + 3)
      ∧ (taken.length = 3 → 4 ≤ taken.sum + s.front.tach.rpm → i = 7 →
          t.air.baseline = (s.air.scratch ++ [(taken.sum + s.front.tach.rpm) / 4]).map some
          ∧ t.air.q = 0 ∧ t.air.sweep = .none ∧ t.air.scratch = [] ∧ t.air.learn = none
          ∧ t.cmd.progress = 10 ∧ t.dry.learnPending = false
          ∧ (s.store.movePending = false → .wearSave ∈ t.store.queue))
      ∧ (taken.length = 3 → taken.sum + s.front.tach.rpm < 4 →
          t.air.baseline = s.air.baseline ∧ t.air.sweep = .none ∧ t.air.scratch = [] ∧ t.air.learn = none
          ∧ t.cmd.progress = 11 ∧ t.dry.learnPending = false
          ∧ hasFlag t.notice.latched .learnAborted = true)
      ∧ t.tank = s.tank ∧ onlyBlocks s t)

/-- R23, R27, R28: through every step the demand slots, the target and the effective duty stay legal, the target is the
one arbitration chooses, and an open door or all-stop holds the fan at 0. -/
def Obligations.FanStaysSafe : Prop :=
  ∀ s t : State, s.fanSafe → step s = .next t → t.fanSafe

/-! ### Filter accounting (R48 to R63) -/

/-- R50, R51, R53: one dose period as conservation: the dose in units of its remainder grows by the product, below
saturation, and the filter time grows by one second while the fan is driven; and W after it and after a write of Dexh,
Qexh or Wworn (R54, R55). -/
def Obligations.DosePeriodAccumulates : Prop :=
  (∀ s : State, s.phase = .running → s.filter.remainder < 3600000 → s.filter.fanSeconds < 60 → s.filter.minutes < 60 →
    s.filter.dose ≤ 16777215 → particleInUse s.front s.path.working * s.air.airflow ≤ 1018980 →
    ∃ t, exec .dosePeriod s = .next t
      ∧ (s.filter.dose < 16777215 →
          t.filter.dose * 3600000 + t.filter.remainder
            = s.filter.dose * 3600000 + s.filter.remainder + particleInUse s.front s.path.working * s.air.airflow)
      ∧ (s.filter.dose = 16777215 → t.filter.dose = s.filter.dose ∧ t.filter.remainder = s.filter.remainder)
      ∧ t.filter.remainder < 3600000 ∧ t.filter.dose ≤ 16777215
      ∧ (s.filter.hours < 65535 →
          t.filter.hours * 3600 + t.filter.minutes * 60 + t.filter.fanSeconds
            = s.filter.hours * 3600 + s.filter.minutes * 60 + s.filter.fanSeconds
              + if 0 < s.air.effective then 1 else 0)
      ∧ t.filter.fanSeconds < 60 ∧ t.filter.minutes < 60
      ∧ t.filter.wear = min 100 (max (t.filter.dose / (s.path.working.dexh * 10))
          (max (s.air.q * 100 / s.path.working.qexh) (t.filter.hours * 100 / (s.path.working.hexh * 24))))
      ∧ (t.filter.wear = 100 → t.filter.stage = .exhausted)
      ∧ (t.filter.wear < 100 → s.path.working.wworn ≤ t.filter.wear → s.filter.stage ≠ .exhausted →
          t.filter.stage = .worn)
      ∧ (t.filter.wear < 100 → t.filter.wear < s.path.working.wworn ∨ s.filter.stage = .exhausted →
          t.filter.stage = s.filter.stage)
      ∧ (s.filter.stage ≠ .worn → t.filter.stage = .worn → hasFlag t.notice.latched .filterWorn = true)
      ∧ (s.filter.stage ≠ .exhausted → t.filter.stage = .exhausted →
          hasFlag t.notice.conditions .filterExhausted = true)
      ∧ t.filter.door = s.filter.door ∧ t.front = s.front ∧ t.tank = s.tank ∧ t.path = s.path
      ∧ t.memory = s.memory ∧ t.pending = s.pending)
  ∧ (∀ (off v : Byte) (s : State), s.settingsWritable → off = 0x16#8 ∨ off = 0x17#8 ∨ off = 0x1A#8 →
    ∃ t, exec (.settingWrite off v) s = .next t
      ∧ t.filter.wear = min 100 (max (s.filter.dose / (t.path.working.dexh * 10))
          (max (s.air.q * 100 / t.path.working.qexh) (s.filter.hours * 100 / (t.path.working.hexh * 24))))
      ∧ (t.filter.wear = 100 → t.filter.stage = .exhausted)
      ∧ (t.filter.wear < 100 → t.path.working.wworn ≤ t.filter.wear → s.filter.stage = .good → t.filter.stage = .worn)
      ∧ t.filter.dose = s.filter.dose ∧ t.filter.hours = s.filter.hours)

/-- R56: while the part runs, the filter dose and the filter stage never decrease, except at FILTER_RESET. -/
def Obligations.FilterNeverRenewsItself : Prop :=
  ∀ (c : Instr) (s t : State), c.wellFormed = true → c ≠ .filterReset → s.phase = .running → exec c s = .next t →
    t.phase = .running → s.filter.dose ≤ t.filter.dose ∧ s.filter.stage.code ≤ t.filter.stage.code

/-- R61, R41, R42, R163, R164: FILTER_RESET, with the status it takes and the sweep it may start. That Q is 0 before W is
evaluated is the model's inference (notes/assumptions/27.md). -/
def Obligations.FilterResetRenewsFilter : Prop :=
  ∀ s : State, s.takesCycles = true → s.memory.wf = true → 1 ≤ s.path.working.wworn →
    ∃ t, exec .filterReset s = .next t ∧ commandTaken 0x11#8 s t ∧ supervisionRestarted s t
      ∧ t.filter = { s.filter with dose := 0, remainder := 0, fanSeconds := 0, minutes := 0, hours := 0, wear := 0,
                                   stage := .good }
      ∧ t.air.q = 0 ∧ t.air.baseline = s.air.baseline ∧ hasFlag t.notice.conditions .filterExhausted = false
      ∧ t.lamps.stage = .good ∧ t.tank = s.tank ∧ (s.store.movePending = false → .wearSave ∈ t.store.queue)
      ∧ (s.path.working.learnOnReset = true ∧ s.air.sweep = .none ∧ s.cmd.mode = .normal
            ∧ s.air.fan ≠ .stallLockout →
          t.cmd.status = .inProgress ∧ t.cmd.awaited = .sweep ∧ t.air.sweep ≠ .none ∧ t.dry.learnPending = true)
      ∧ (s.path.working.learnOnReset = false ∨ s.air.sweep ≠ .none ∨ s.cmd.mode = .standalone
            ∨ s.air.fan = .stallLockout →
          t.cmd.status = .accepted ∧ t.cmd.awaited = .save)

/-! ### Drying (R64 to R93) -/

/-- R67, R87, R88: a drying check that finds the condenser at its trip value trips a running compressor, and does not also
enter DEFROST; every check judges the condenser warning, and the PROTECT slot follows it; a check that finds TCOND
recovered ends TRIPPED (R89). -/
def Obligations.CheckProtectsCondenser : Prop :=
  (∀ s : State, s.phase = .running → s.dry.comp = .running → s.front.tcond.status = .valid →
    (s.path.working.trip : Int) * 10 ≤ s.front.tcond.value →
    ∃ t, exec .dryingCheck s = .next t
      ∧ t.dry.trips = s.dry.trips.filter (fun m => s.dry.uptime ≤ m + 60) ++ [s.dry.uptime]
      ∧ (3 ≤ t.dry.trips.length → t.dry.comp = .lockedOut ∧ hasFlag t.notice.conditions .compLockout = true)
      ∧ (t.dry.trips.length < 3 → t.dry.comp = .tripped ∧ hasFlag t.notice.conditions .compTrip = true)
      ∧ t.compPin = false ∧ t.air.drying = none ∧ t.dry.offTime = 0 ∧ t.dry.offTimer = startTimer 1000
      ∧ t.dry.frostRun = 0 ∧ t.dry.runTimer = none ∧ t.dry.tripTotal = min 255 (s.dry.tripTotal + 1)
      ∧ t.dry.defrosts = s.dry.defrosts ∧ t.dry.starts = s.dry.starts
      ∧ (s.store.movePending = false → .wearSave ∈ t.store.queue)
      ∧ t.filter = s.filter ∧ t.tank = s.tank ∧ onlyBlocks s t)
  ∧ (∀ s : State, s.phase = .running →
    ∃ t, exec .dryingCheck s = .next t
      ∧ (s.front.tcond.status ≠ .valid → t.dry.warning = s.dry.warning)
      ∧ (s.front.tcond.status = .valid → s.dry.warning = false →
          (t.dry.warning = true ↔ (s.path.working.warn : Int) * 10 ≤ s.front.tcond.value))
      ∧ (s.front.tcond.status = .valid → s.dry.warning = true →
          (t.dry.warning = false ↔ s.front.tcond.value < ((s.path.working.warn : Int) - 3) * 10))
      ∧ (s.dry.warning = false → t.dry.warning = true →
          t.air.protect = some 255 ∧ hasFlag t.notice.latched .condHotWarn = true)
      ∧ (s.dry.warning = true → t.dry.warning = false → t.air.protect = none)
      ∧ (t.dry.warning = s.dry.warning → t.air.protect = s.air.protect)
      ∧ t.filter = s.filter ∧ t.tank = s.tank ∧ onlyBlocks s t)
  ∧ (∀ s : State, s.phase = .running → s.dry.comp = .tripped →
    ∃ t, exec .dryingCheck s = .next t ∧ t.compPin = false ∧ t.dry.offTime = s.dry.offTime ∧ t.dry.trips = s.dry.trips
      ∧ (s.front.tcond.status = .valid → s.front.tcond.value ≤ ((s.path.working.trip : Int) - 10) * 10 →
          hasFlag t.notice.conditions .compTrip = false
          ∧ (t.dry.comp = .offHold ↔ s.dry.offTime < s.path.working.minOffSeconds ∨ s.dry.extraHold.isSome = true)
          ∧ (t.dry.comp = .offHold ∨ t.dry.comp = .offReady ∨ t.dry.comp = .preRun))
      ∧ (s.front.tcond.status ≠ .valid ∨ ((s.path.working.trip : Int) - 10) * 10 < s.front.tcond.value →
          t.dry.comp = .tripped
          ∧ hasFlag t.notice.conditions .compTrip = hasFlag s.notice.conditions .compTrip)
      ∧ t.filter = s.filter ∧ t.tank = s.tank ∧ onlyBlocks s t)

/-- R68, R69, R70, R71: a drying check evaluates the humidity demand between the thresholds of the setpoint in use, and so
does a write of that setpoint or of a band; with the demand on and every permission of R74, OFF_READY passes to PRE_RUN,
and without them PRE_RUN returns (R75). -/
def Obligations.CheckEvaluatesDemand : Prop :=
  (∀ (setpoint : Nat) (s : State), s.phase = .running →
    setpoint = (if s.dry.mode = .standalone then s.path.working.standaloneRhSetpoint else s.path.working.rhSetpoint) →
    ∃ t, exec .dryingCheck s = .next t
      ∧ (s.dry.mode = .normal → s.path.working.mode = .off ∨ s.path.working.mode = .clean →
          t.dry.demand = .satisfied ∧ t.dry.timedTimer = none)
      ∧ (s.dry.mode = .standalone ∨ s.path.working.mode = .dry ∨ s.path.working.mode = .cleanDry →
          (s.front.rh.status = .unmeasured → t.dry.demand = s.dry.demand ∧ t.dry.timedTimer = s.dry.timedTimer)
          ∧ (s.front.rh.status = .faulted → (s.dry.demand = .satisfied ∨ s.dry.demand = .demand →
                t.dry.demand = .timed true ∧ t.dry.timedTimer = startTimer 3600000)
              ∧ (∀ on, s.dry.demand = .timed on → t.dry.demand = .timed on ∧ t.dry.timedTimer = s.dry.timedTimer))
          ∧ (s.front.rh.status = .valid → t.dry.timedTimer = none
              ∧ (((setpoint : Int) + s.path.working.bandOn) * 10 ≤ s.front.rh.value → t.dry.demand = .demand)
              ∧ (s.front.rh.value < ((setpoint : Int) + s.path.working.bandOn) * 10 →
                  s.front.rh.value ≤ ((setpoint : Int) - s.path.working.bandOff) * 10 → t.dry.demand = .satisfied)
              ∧ (s.front.rh.value < ((setpoint : Int) + s.path.working.bandOn) * 10 →
                  ((setpoint : Int) - s.path.working.bandOff) * 10 < s.front.rh.value →
                  t.dry.demand = if s.dry.demand = .demand ∨ s.dry.demand = .timed true then .demand
                    else .satisfied)))
      ∧ t.filter = s.filter ∧ t.tank = s.tank ∧ onlyBlocks s t)
  ∧ (∀ s : State, s.phase = .running → s.path.working.minOffSeconds ≤ s.dry.offTime →
    s.dry.comp = .offReady ∨ s.dry.comp = .preRun →
    ∃ t, exec .dryingCheck s = .next t
      ∧ (t.dry.demandOn ∧ s.startPermitted → t.dry.comp = .preRun
          ∧ (s.dry.comp = .offReady → t.dry.confirmTimer = startTimer 30000
              ∧ t.air.drying = some s.path.working.dryDuty)
          ∧ (s.dry.comp = .preRun → t.dry.confirmTimer = s.dry.confirmTimer ∧ t.air.drying = s.air.drying))
      ∧ (¬ (t.dry.demandOn ∧ s.startPermitted) → t.dry.comp = .offReady
          ∧ (s.dry.comp = .preRun → t.dry.confirmTimer = none ∧ t.air.drying = none))
      ∧ t.compPin = false ∧ t.dry.offTime = s.dry.offTime ∧ onlyBlocks s t)
  ∧ (∀ (off v : Byte) (s : State), s.settingsWritable → s.front.rh.status = .valid →
    s.dry.mode = .standalone ∨ s.path.working.mode = .dry ∨ s.path.working.mode = .cleanDry →
    off = 0x03#8 ∨ off = 0x3C#8 ∨ off = 0x04#8 ∨ off = 0x05#8 →
    ∃ t, exec (.settingWrite off v) s = .next t
      ∧ ((off = 0x03#8 ∧ s.dry.mode = .standalone) ∨ (off = 0x3C#8 ∧ s.dry.mode = .normal) →
          t.dry.demand = s.dry.demand)
      ∧ (¬ ((off = 0x03#8 ∧ s.dry.mode = .standalone) ∨ (off = 0x3C#8 ∧ s.dry.mode = .normal)) →
          ∀ setpoint : Nat, setpoint = (if s.dry.mode = .standalone then t.path.working.standaloneRhSetpoint
              else t.path.working.rhSetpoint) →
            t.dry.demand = if ((setpoint : Int) + t.path.working.bandOn) * 10 ≤ s.front.rh.value then .demand
              else if s.front.rh.value ≤ ((setpoint : Int) - t.path.working.bandOff) * 10 then .satisfied
              else if s.dry.demand = .demand ∨ s.dry.demand = .timed true then .demand else .satisfied))

/-- R82 to R85, R163: the check that completes a frost run, or finds TEVAP FAULTED after 30 min, enters DEFROST; the check
that completes a defend run ends it; DEFROST_NOW on a running compressor enters it. That the runs complete at their
checks 121 and 31 is the model's inference (notes/assumptions/12.md). -/
def Obligations.DefrostBeginsAndEnds : Prop :=
  (∀ s : State, s.phase = .running → s.dry.comp = .running →
    (s.front.tcond.status ≠ .valid ∨ s.front.tcond.value < (s.path.working.trip : Int) * 10) →
    (s.front.tevap.status = .valid ∧ s.front.tevap.value ≤ s.path.working.tfrostTenths ∧ s.dry.frostRun = 120
      ∨ s.front.tevap.status = .faulted ∧ s.dry.runSinceDefrost = 1800) →
    ∃ t, exec .dryingCheck s = .next t ∧ t.dry.comp = .defrost ∧ t.compPin = false ∧ t.dry.offTime = 0
      ∧ t.dry.offTimer = startTimer 1000 ∧ t.dry.frostRun = 0 ∧ t.dry.runTimer = none ∧ t.dry.runSinceDefrost = 0
      ∧ t.dry.defrosts = min 65535 (s.dry.defrosts + 1)
      ∧ t.dry.defrostTimer = startTimer (s.path.working.nat 0x20 * 60 * 1000)
      ∧ t.air.drying = none ∧ t.air.defrost = some s.path.working.defrostDuty ∧ t.dry.starts = s.dry.starts
      ∧ onlyBlocks s t)
  ∧ (∀ s : State, s.phase = .running → s.dry.comp = .defrost → s.front.tevap.status = .valid →
    s.path.working.tdefendTenths ≤ s.front.tevap.value → s.dry.defendRun = 30 →
    ∃ t, exec .dryingCheck s = .next t
      ∧ (t.dry.comp = .offHold ∨ t.dry.comp = .offReady ∨ t.dry.comp = .preRun) ∧ t.dry.defrostTimer = none
      ∧ t.air.defrost = none ∧ t.dry.offTime = s.dry.offTime
      ∧ (t.dry.comp = .offHold ↔
          s.dry.offTime < s.path.working.minOffSeconds ∨ s.dry.extraHold.isSome = true)
      ∧ onlyBlocks s t)
  ∧ (∀ s : State, s.takesCycles = true → s.memory.wf = true → s.dry.comp = .running →
    ∃ t, exec .defrostNow s = .next t ∧ commandTaken 0x21#8 s t ∧ supervisionRestarted s t ∧ t.cmd.status = .done
      ∧ t.cmd.awaited = .none ∧ t.dry.comp = .defrost ∧ t.compPin = false ∧ t.dry.offTime = 0
      ∧ t.dry.runSinceDefrost = 0 ∧ t.dry.defrosts = min 65535 (s.dry.defrosts + 1)
      ∧ t.dry.defrostTimer = startTimer (s.path.working.nat 0x20 * 60 * 1000) ∧ t.dry.runTimer = none
      ∧ t.air.drying = none ∧ t.air.defrost = some s.path.working.defrostDuty
      ∧ t.notice = s.notice ∧ t.filter = s.filter ∧ t.tank = s.tank ∧ t.store.queue = s.store.queue)

/-- R70, R73, R77, R85, R92: what the off-time timer, the confirmation timer, the extra hold, the defrost-max timer and
the timed cycle do at their expiry, the uptime, and a write of min off. That an off-time expiry outside OFF_HOLD judges
no start and no permission is the model's inference (notes/assumptions/26.md), not R75's words. -/
def Obligations.DryingTimersExpire : Prop :=
  (∀ s : State, s.dry.offTimer.isSome = true → s.dry.offTime ≤ 600 → ∃ t, exec .offTimeExpiry s = .next t
      ∧ t.dry.offTime = min 600 (s.dry.offTime + 1) ∧ t.dry.offTimer = startTimer 1000
      ∧ (s.dry.comp ≠ .offHold → t.dry.comp = s.dry.comp ∧ t.air = s.air)
      ∧ (s.dry.comp = .offHold →
          (t.dry.comp = .offHold ↔ t.dry.offTime < s.path.working.minOffSeconds ∨ s.dry.extraHold.isSome = true)
          ∧ (t.dry.comp = .offHold ∨ t.dry.comp = .offReady ∨ t.dry.comp = .preRun))
      ∧ t.dry.starts = s.dry.starts ∧ t.dry.demand = s.dry.demand ∧ onlyBlocks s t)
  ∧ (∀ s : State, s.dry.comp = .preRun → s.dry.confirmTimer.isSome = true →
      ∃ t, exec .confirmationTimerExpiry s = .next t ∧ t.dry.comp = .offHold ∧ t.dry.confirmTimer = none
      ∧ t.dry.extraHold = startTimer 60000 ∧ t.air.drying = none ∧ t.dry.offTime = s.dry.offTime
      ∧ hasFlag t.notice.conditions .airflowLow = true ∧ t.dry.starts = s.dry.starts ∧ onlyBlocks s t)
  ∧ (∀ s : State, s.dry.extraHold.isSome = true → ∃ t, exec .extraHoldExpiry s = .next t ∧ t.dry.extraHold = none
      ∧ (s.dry.comp = .offHold → (t.dry.comp = .offHold ↔ s.dry.offTime < s.path.working.minOffSeconds))
      ∧ t.dry.offTime = s.dry.offTime ∧ onlyBlocks s t)
  ∧ (∀ s : State, s.dry.comp = .defrost → s.dry.defrostTimer.isSome = true →
      ∃ t, exec .defrostMaxExpiry s = .next t ∧ t.dry.defrostTimer = none ∧ t.air.defrost = none
      ∧ hasFlag t.notice.latched .defrostLong = true ∧ t.dry.offTime = s.dry.offTime
      ∧ (t.dry.comp = .offHold ↔ s.dry.offTime < s.path.working.minOffSeconds ∨ s.dry.extraHold.isSome = true)
      ∧ onlyBlocks s t)
  ∧ (∀ s : State, s.dry.timedTimer.isSome = true → ∃ t, exec .timedCycleExpiry s = .next t
      ∧ (s.dry.demand = .timed true → t.dry.demand = .timed false ∧ t.dry.timedTimer = s.dry.timedTimer)
      ∧ (s.dry.demand = .timed false → t.dry.demand = .timed true ∧ t.dry.timedTimer = startTimer 3600000)
      ∧ onlyBlocks s t)
  ∧ (∀ s : State, s.phase = .running → ∃ t, exec .uptimeMinute s = .next t
      ∧ t = s.setDry { s.dry with uptime := min 16777215 (s.dry.uptime + 1) })
  ∧ (∀ (v : Byte) (s : State), s.settingsWritable →
    s.dry.comp = .offHold ∨ s.dry.comp = .offReady ∨ s.dry.comp = .preRun →
    ∃ t, exec (.settingWrite 0x1C#8 v) s = .next t ∧ t.dry.offTime = s.dry.offTime
      ∧ (s.dry.comp = .offHold →
          (t.dry.comp = .offHold ↔ s.dry.offTime < t.path.working.minOffSeconds ∨ s.dry.extraHold.isSome = true))
      ∧ (s.dry.comp ≠ .offHold → (t.dry.comp = .offHold ↔ s.dry.offTime < t.path.working.minOffSeconds))
      ∧ (s.dry.comp ≠ .offHold → t.dry.comp = .offHold → t.air.drying = none))

/-- R81: a run-second, and the run-minute that carries it into the run hours and the condensate estimate; the deferred stop
that it makes due, or a write of min run (R80); and the run-minute of the instant in which a removal of the tank has
stopped the compressor (R107). That a run-second expiry may still be taken in the instant of a stop is the model's
inference (notes/assumptions/33.md). -/
def Obligations.RunSecondCounts : Prop :=
  (∀ s : State, s.dry.runTimer.isSome = true ∨ s.dry.runSecondDue = true → s.dry.runSeconds < 60 →
    s.dry.runMinutes < 60 →
    ∃ t, exec .runSecondExpiry s = .next t
      ∧ t.dry.runTime = min 600 (s.dry.runTime + 1)
      ∧ t.dry.runSinceDefrost = min 1800 (s.dry.runSinceDefrost + 1)
      ∧ (s.dry.runSeconds < 59 → t.dry.runSeconds = s.dry.runSeconds + 1 ∧ t.dry.runMinutes = s.dry.runMinutes
          ∧ t.dry.runHours = s.dry.runHours ∧ t.tank = s.tank ∧ t.store = s.store)
      ∧ (s.dry.runSeconds = 59 → t.dry.runSeconds = 0 ∧ t.dry.runMinutes < 60
          ∧ (s.dry.runHours < 65535 →
              t.dry.runHours * 60 + t.dry.runMinutes = s.dry.runHours * 60 + s.dry.runMinutes + 1)
          ∧ t.tank.estimate = min 65535 (s.tank.estimate + s.path.working.condensateRate)
          ∧ t.store.changed = true)
      ∧ t.dry.runSecondDue = (decide (s.dry.comp = .running ∧ t.dry.comp ≠ .running) && s.dry.runTimer.isSome)
      ∧ (s.dry.runTimer = none → t.dry.runTimer = none)
      ∧ t.filter = s.filter ∧ onlyBlocks s t)
  ∧ (∀ s : State, s.dry.comp = .running → s.dry.runTimer.isSome = true → s.dry.runSeconds < 59 →
    ∃ t, exec .runSecondExpiry s = .next t
      ∧ (s.path.working.minRunSeconds ≤ t.dry.runTime →
          ¬ s.dry.demandOn ∨ s.dry.learnPending = true ∨ s.front.tcond.status ≠ .valid →
          t.compPin = false ∧ t.dry.offTime = 0 ∧ t.dry.offTimer = startTimer 1000 ∧ t.air.drying = none
          ∧ t.dry.frostRun = 0 ∧ t.dry.runTimer = none)
      ∧ (t.dry.runTime < s.path.working.minRunSeconds
            ∨ (s.dry.demandOn ∧ s.dry.learnPending = false ∧ s.front.tcond.status = .valid) →
          t.dry.comp = .running ∧ t.dry.runTimer = startTimer 1000))
  ∧ (∀ (v : Byte) (s : State), s.settingsWritable → s.dry.comp = .running →
    ∃ t, exec (.settingWrite 0x1D#8 v) s = .next t
      ∧ (t.path.working.minRunSeconds ≤ s.dry.runTime →
          ¬ s.dry.demandOn ∨ s.dry.learnPending = true ∨ s.front.tcond.status ≠ .valid →
          t.compPin = false ∧ t.dry.offTime = 0 ∧ t.air.drying = none)
      ∧ (s.dry.runTime < t.path.working.minRunSeconds
            ∨ (s.dry.demandOn ∧ s.dry.learnPending = false ∧ s.front.tcond.status = .valid) →
          t.dry = s.dry))
  ∧ (∀ s : State, s.dry.comp = .running → s.dry.runTimer.isSome = true → s.dry.runSeconds = 59 →
    s.tank.present = some true → s.tank.level ≠ .absent →
    (tankEvent (.present false) s).compPin = false
    ∧ ∃ t, exec .runSecondExpiry (tankEvent (.present false) s) = .next t
      ∧ t.tank.estimate = min 65535 (s.tank.estimate + s.path.working.condensateRate)
      ∧ t.tank.level = .absent ∧ t.compPin = false ∧ t.dry.runSeconds = 0
      ∧ (s.dry.runHours < 65535 → s.dry.runMinutes < 60 →
          t.dry.runHours * 60 + t.dry.runMinutes = s.dry.runHours * 60 + s.dry.runMinutes + 1))

/-- R76, R78, R79: only an airflow report in PRE_RUN starts the compressor, with the fan settled at its target and at
least at the dry duty, and the airflow confirmed and sufficient or, without a base, the fan turning; the report that
confirms starts it, and the report that fails stops it, unless all-stop begins in the same event (R171). -/
def Obligations.CompressorStartsOnlyOnAirflow : Prop :=
  (∀ (c : Instr) (s t : State), exec c s = .next t → s.dry.comp ≠ .running → t.dry.comp = .running →
    c = .airflowPeriod ∧ s.dry.comp = .preRun ∧ s.air.settled = true ∧ s.air.effective = s.air.target
      ∧ s.path.working.dryDuty ≤ s.air.effective
      ∧ (t.air.confirmed = true ∧ s.path.working.fminDryM3h ≤ t.air.airflow
          ∨ baseAt s.air.baseline s.air.effective = none ∧ 0 < s.front.tach.rpm))
  ∧ (∀ s : State, s.phase = .running → s.air.settled = true → s.air.effective = s.air.target →
    ∃ t, exec .airflowPeriod s = .next t
      ∧ (s.cmd.mode = .normal ∨ s.path.working.stopAll = false → t.cmd.allStop = s.cmd.allStop)
      ∧ (t.cmd.allStop ≠ s.cmd.allStop → t.compPin = false)
      ∧ (s.dry.comp = .preRun → s.path.working.dryDuty ≤ s.air.effective →
          (t.air.confirmed = true ∧ s.path.working.fminDryM3h ≤ t.air.airflow
            ∨ baseAt s.air.baseline s.air.effective = none ∧ 0 < s.front.tach.rpm) →
          t.cmd.allStop = s.cmd.allStop →
          t.dry.comp = .running ∧ t.compPin = true ∧ t.dry.starts = min 65535 (s.dry.starts + 1)
          ∧ t.dry.runTime = 0 ∧ t.dry.offTimer = none ∧ t.dry.confirmTimer = none
          ∧ t.dry.runTimer = startTimer 1000 ∧ t.air.drying = some s.path.working.dryDuty
          ∧ hasFlag t.notice.conditions .airflowLow = false)
      ∧ (s.dry.comp = .running → t.air.confirmed = true → t.air.airflow < s.path.working.fminDryM3h →
          t.cmd.allStop = s.cmd.allStop →
          t.compPin = false ∧ t.dry.offTime = 0 ∧ t.dry.offTimer = startTimer 1000 ∧ t.air.drying = none
          ∧ t.dry.frostRun = 0 ∧ t.dry.runTimer = none ∧ t.dry.runSeconds = s.dry.runSeconds
          ∧ t.dry.extraHold = s.dry.extraHold ∧ hasFlag t.notice.conditions .airflowLow = true)
      ∧ t.tank = s.tank ∧ onlyBlocks s t)

/-- R73: between a stop and the next start the compressor rests for its min-off time: the states from which it may start
keep the off time at least min off, through every step, and no step starts it earlier. -/
def Obligations.CompressorRestsMinOff : Prop :=
  ∀ s t : State, s.path.settingsFormed → s.compressorRested → step s = .next t →
    t.path.settingsFormed ∧ t.compressorRested
      ∧ (s.dry.comp ≠ .running → t.dry.comp = .running → s.path.working.minOffSeconds ≤ s.dry.offTime)

/-- R74, R75, R78: whatever the step, a compressor in PRE_RUN or RUNNING has its tank neither FULL nor ABSENT nor
unreported, its door closed, and no all-stop in force. -/
def Obligations.CompressorInterlockHolds : Prop :=
  ∀ s t : State, s.compressorInterlocked → step s = .next t → t.compressorInterlocked

/-! ### Tank and pump (R94 to R108) -/

/-- R96, R97: the tank state after every event of the tank block, and its report to drying when it changes; the two
thresholds of the estimate at a run-minute that changes it and at a write of the capacity, with the pump start that the
estimated-full mark makes (R105); and FLOAT_CHECK at a crossing of the first threshold and where the float pair becomes
inconsistent (R98). A tank event is what reaches the tank block: `tankEvent`. -/
def Obligations.TankStateFollowsTable : Prop :=
  ∀ (e : TankEvent) (s : State),
    ((tankEvent e s).tank.present ≠ some true → (tankEvent e s).tank.level = .absent)
    ∧ ((tankEvent e s).tank.present = some true →
        ((tankEvent e s).tank.fullFloat = some true ∨ (tankEvent e s).tank.pump = .failed
            ∨ (tankEvent e s).tank.estFull = true → (tankEvent e s).tank.level = .full)
        ∧ ((tankEvent e s).tank.fullFloat ≠ some true → (tankEvent e s).tank.pump ≠ .failed →
            (tankEvent e s).tank.estFull = false →
            (tankEvent e s).tank.level = if (tankEvent e s).tank.highFloat = some true then .high else .normal))
    ∧ (s.tank.present.isSome = true → (tankEvent e s).tank.level ≠ s.tank.level →
        (tankEvent e s).dry.tank = some (tankEvent e s).tank.level)
    ∧ (tankEvent e s).filter = s.filter ∧ onlyBlocks s (tankEvent e s)
    ∧ (s.tank.present.isSome = true →
        (e = .runMinute →
          (tankEvent e s).tank.estimate = min 65535 (s.tank.estimate + s.path.working.condensateRate))
        ∧ (e = .setting 0x24 → (tankEvent e s).tank.estimate = s.tank.estimate)
        ∧ ((e = .runMinute ∧ s.path.working.condensateRate ≠ 0 ∧ s.tank.estimate < 65535) ∨ e = .setting 0x24 →
          ((tankEvent e s).tank.oncePerFill = true ↔ s.tank.oncePerFill = true
            ∨ s.path.working.capacity * 150 ≤ (tankEvent e s).tank.estimate)
          ∧ ((tankEvent e s).tank.estFull = true ↔ s.tank.estFull = true
            ∨ s.path.working.capacity * 200 ≤ (tankEvent e s).tank.estimate)
          ∧ (s.tank.estFull = false → (tankEvent e s).tank.estFull = true → s.tank.pump = .idle →
              s.path.working.pumpFitted = true → s.tank.present = some true →
              (tankEvent e s).tank.pump = .running ∧ (tankEvent e s).tank.onTime = some 0)
          ∧ hasFlag (tankEvent e s).notice.latched .floatCheck
            = (hasFlag s.notice.latched .floatCheck
                || (!s.tank.oncePerFill && (tankEvent e s).tank.oncePerFill && !(s.tank.highFloat == some true))))
        ∧ (∀ up : Bool, e = .highFloat up → s.tank.highFloat = some (!up) →
            hasFlag (tankEvent e s).notice.latched .floatCheck
              = (hasFlag s.notice.latched .floatCheck || (!up && s.tank.fullFloat == some true)))
        ∧ (∀ up : Bool, e = .fullFloat up → s.tank.fullFloat = some (!up) →
            hasFlag (tankEvent e s).notice.latched .floatCheck
              = (hasFlag s.notice.latched .floatCheck || (up && !(s.tank.highFloat == some true)))))
    ∧ (∀ high full present : Bool, e = .settle high full present →
        hasFlag (tankEvent e s).notice.latched .floatCheck
          = (hasFlag s.notice.latched .floatCheck || (full && !high)))

/-- R99 to R102: the end of the on-time fails a running pump and completes an after-run; the after-run's end completes it;
a removal ends every pump state, a re-insertion clears the estimate and may start the pump; a raised float starts an idle
pump that is fitted, with the tank present, and no other float report starts one; the floats move a running pump to its
after-run and back, or complete it at once under an after-run setting of 0; and writes of pump fitted, capacity, max run
and after-run (R103, R105) act against what has been reached. The reports of the switches reach the block as
`tankEvent`. -/
def Obligations.PumpFollowsFloatsAndTimers : Prop :=
  (∀ s : State, s.tank.onTime.isSome = true → s.tank.present = some true → 1 ≤ s.path.working.capacity →
    ∃ t, exec .onTimeEnd s = .next t
      ∧ (s.tank.pump = .running → t.tank.pump = .failed ∧ t.pumpPin = false ∧ t.tank.onTime = none
          ∧ t.tank.level = .full ∧ hasFlag t.notice.conditions .pumpFail = true
          ∧ t.tank.cycles = s.tank.cycles ∧ t.tank.estimate = s.tank.estimate)
      ∧ (s.tank.pump = .afterRun → t.tank.cycles = min 65535 (s.tank.cycles + 1) ∧ t.tank.estimate = 0
          ∧ t.tank.oncePerFill = false ∧ t.tank.estFull = false)
      ∧ t.filter = s.filter ∧ onlyBlocks s t)
  ∧ (∀ s : State, s.tank.pump = .afterRun → s.tank.afterRun.isSome = true → 1 ≤ s.path.working.capacity →
    s.tank.highFloat ≠ some true → s.tank.fullFloat ≠ some true →
    ∃ t, exec .afterRunExpiry s = .next t ∧ t.tank.pump = .idle ∧ t.pumpPin = false ∧ t.tank.onTime = none
      ∧ t.tank.afterRun = none ∧ t.tank.cycles = min 65535 (s.tank.cycles + 1) ∧ t.tank.estimate = 0
      ∧ t.tank.oncePerFill = false ∧ t.tank.estFull = false ∧ t.filter = s.filter ∧ onlyBlocks s t)
  ∧ (∀ s : State, s.tank.present.isSome = true →
      (tankEvent (.present false) s).tank.pump = .idle ∧ (tankEvent (.present false) s).pumpPin = false
      ∧ (tankEvent (.present false) s).tank.onTime = none ∧ (tankEvent (.present false) s).tank.afterRun = none
      ∧ (tankEvent (.present false) s).tank.cycles = s.tank.cycles
      ∧ (tankEvent (.present false) s).tank.estimate = s.tank.estimate
      ∧ (tankEvent (.present false) s).tank.level = .absent
      ∧ hasFlag (tankEvent (.present false) s).notice.conditions .pumpFail = false
      ∧ hasFlag (tankEvent (.present false) s).notice.conditions .tankAbsent = true
      ∧ (s.tank.level ≠ .absent → (tankEvent (.present false) s).compPin = false))
  ∧ (∀ s : State, s.tank.present = some false → 1 ≤ s.path.working.capacity → s.tank.pump = .idle →
      (tankEvent (.present true) s).tank.estimate = 0 ∧ (tankEvent (.present true) s).tank.estFull = false
      ∧ (tankEvent (.present true) s).tank.oncePerFill = false
      ∧ (s.path.working.pumpFitted = true → s.tank.highFloat = some true ∨ s.tank.fullFloat = some true →
          (tankEvent (.present true) s).tank.pump = .running
          ∧ (tankEvent (.present true) s).tank.onTime = some 0 ∧ (tankEvent (.present true) s).pumpPin = true)
      ∧ (s.path.working.pumpFitted = false ∨ s.tank.highFloat ≠ some true ∧ s.tank.fullFloat ≠ some true →
          (tankEvent (.present true) s).tank.pump = .idle))
  ∧ (∀ s : State, s.tank.fullFloat ≠ some true →
      (s.tank.pump = .running → 1 ≤ s.path.working.pumpAfterRun →
          (tankEvent (.highFloat false) s).tank.pump = .afterRun
          ∧ (tankEvent (.highFloat false) s).tank.afterRun = some 0
          ∧ (tankEvent (.highFloat false) s).tank.onTime = s.tank.onTime
          ∧ (tankEvent (.highFloat false) s).pumpPin = true)
      ∧ (s.tank.pump = .afterRun → (tankEvent (.highFloat true) s).tank.pump = .running
          ∧ (tankEvent (.highFloat true) s).tank.afterRun = none
          ∧ (tankEvent (.highFloat true) s).tank.onTime = s.tank.onTime
          ∧ (tankEvent (.highFloat true) s).tank.cycles = s.tank.cycles))
  ∧ (∀ s : State, s.tank.pump = .idle →
      (s.path.working.pumpFitted = true → s.tank.present = some true →
        (tankEvent (.highFloat true) s).tank.pump = .running ∧ (tankEvent (.highFloat true) s).tank.onTime = some 0
        ∧ (tankEvent (.highFloat true) s).pumpPin = true
        ∧ (tankEvent (.fullFloat true) s).tank.pump = .running ∧ (tankEvent (.fullFloat true) s).tank.onTime = some 0
        ∧ (tankEvent (.fullFloat true) s).pumpPin = true)
      ∧ (∀ up : Bool, s.path.working.pumpFitted = false ∨ s.tank.present ≠ some true →
        (tankEvent (.highFloat up) s).tank.pump = .idle ∧ (tankEvent (.fullFloat up) s).tank.pump = .idle)
      ∧ (s.tank.estFull = false →
        (s.tank.fullFloat ≠ some true → (tankEvent (.highFloat false) s).tank.pump = .idle)
        ∧ (s.tank.highFloat ≠ some true → (tankEvent (.fullFloat false) s).tank.pump = .idle)))
  ∧ (∀ s : State, s.tank.highFloat ≠ some true →
      (s.tank.pump = .running → 1 ≤ s.path.working.pumpAfterRun →
          (tankEvent (.fullFloat false) s).tank.pump = .afterRun
          ∧ (tankEvent (.fullFloat false) s).tank.afterRun = some 0
          ∧ (tankEvent (.fullFloat false) s).tank.onTime = s.tank.onTime
          ∧ (tankEvent (.fullFloat false) s).pumpPin = true)
      ∧ (s.tank.pump = .afterRun → (tankEvent (.fullFloat true) s).tank.pump = .running
          ∧ (tankEvent (.fullFloat true) s).tank.afterRun = none
          ∧ (tankEvent (.fullFloat true) s).tank.onTime = s.tank.onTime
          ∧ (tankEvent (.fullFloat true) s).tank.cycles = s.tank.cycles))
  ∧ (∀ (e : TankEvent) (s : State), s.tank.pump = .running → s.path.working.pumpAfterRun = 0 →
      1 ≤ s.path.working.capacity →
      (e = .highFloat false ∧ s.tank.fullFloat ≠ some true ∨ e = .fullFloat false ∧ s.tank.highFloat ≠ some true) →
      (tankEvent e s).tank.pump = .idle ∧ (tankEvent e s).pumpPin = false ∧ (tankEvent e s).tank.onTime = none
      ∧ (tankEvent e s).tank.afterRun = none ∧ (tankEvent e s).tank.cycles = min 65535 (s.tank.cycles + 1)
      ∧ (tankEvent e s).tank.estimate = 0 ∧ (tankEvent e s).tank.oncePerFill = false
      ∧ (tankEvent e s).tank.estFull = false)
  ∧ (∀ (v : Byte) (s : State), s.settingsWritable →
    ∃ t, exec (.settingWrite 0x24#8 v) s = .next t ∧ t.tank.estimate = s.tank.estimate
      ∧ (t.path.working.capacity = s.path.working.capacity → t.tank = s.tank)
      ∧ (t.path.working.capacity ≠ s.path.working.capacity →
          (t.tank.oncePerFill = true ↔ s.tank.oncePerFill = true ∨ t.path.working.capacity * 150 ≤ s.tank.estimate)
          ∧ (t.tank.estFull = true ↔ s.tank.estFull = true ∨ t.path.working.capacity * 200 ≤ s.tank.estimate)))
  ∧ (∀ (v : Byte) (s : State), s.settingsWritable → s.tank.pump = .running →
    ∃ t, exec (.settingWrite 0x26#8 v) s = .next t
      ∧ (∀ ms, s.tank.onTime = some ms → t.path.working.pumpMaxRun ≠ s.path.working.pumpMaxRun →
          (t.path.working.pumpMaxRun * 1000 ≤ ms → t.tank.pump = .failed ∧ t.tank.onTime = none ∧ t.pumpPin = false)
          ∧ (ms < t.path.working.pumpMaxRun * 1000 → t.tank.pump = .running ∧ t.tank.onTime = some ms))
      ∧ (t.path.working.pumpMaxRun = s.path.working.pumpMaxRun → t.tank = s.tank))
  ∧ (∀ (v : Byte) (s : State), s.settingsWritable → s.tank.pump = .afterRun → s.tank.highFloat ≠ some true →
    s.tank.fullFloat ≠ some true → 1 ≤ s.path.working.capacity →
    (∃ t, exec (.settingWrite 0x26#8 v) s = .next t
      ∧ (∀ ms, s.tank.onTime = some ms → t.path.working.pumpMaxRun ≠ s.path.working.pumpMaxRun →
          (t.path.working.pumpMaxRun * 1000 ≤ ms → t.tank.pump = .idle
              ∧ t.tank.cycles = min 65535 (s.tank.cycles + 1) ∧ t.tank.estimate = 0)
          ∧ (ms < t.path.working.pumpMaxRun * 1000 → t.tank.pump = .afterRun ∧ t.tank.cycles = s.tank.cycles))
      ∧ (t.path.working.pumpMaxRun = s.path.working.pumpMaxRun → t.tank = s.tank))
    ∧ (∃ t, exec (.settingWrite 0x27#8 v) s = .next t
      ∧ (∀ ms, s.tank.afterRun = some ms → t.path.working.pumpAfterRun ≠ s.path.working.pumpAfterRun →
          (t.path.working.pumpAfterRun * 1000 ≤ ms → t.tank.pump = .idle ∧ t.tank.afterRun = none
              ∧ t.tank.cycles = min 65535 (s.tank.cycles + 1) ∧ t.tank.estimate = 0)
          ∧ (ms < t.path.working.pumpAfterRun * 1000 → t.tank.pump = .afterRun ∧ t.tank.afterRun = some ms
              ∧ t.tank.cycles = s.tank.cycles))
      ∧ (t.path.working.pumpAfterRun = s.path.working.pumpAfterRun → t.tank = s.tank)))
  ∧ (∀ (v : Byte) (s : State), s.settingsWritable → s.tank.present.isSome = true →
    ∃ t, exec (.settingWrite 0x23#8 v) s = .next t
      ∧ (s.path.working.pumpFitted = true → v = 0#8 → t.tank.pump = .idle ∧ t.pumpPin = false
          ∧ t.tank.cycles = s.tank.cycles ∧ t.tank.estimate = s.tank.estimate
          ∧ hasFlag t.notice.conditions .pumpFail = false
          ∧ hasFlag t.notice.conditions .tankHigh = decide (t.tank.level = .high))
      ∧ (s.path.working.nat 0x23 = 0 → v ≠ 0#8 → hasFlag t.notice.conditions .tankHigh = false
          ∧ (s.tank.present = some true → s.tank.pump = .idle →
              s.tank.highFloat = some true ∨ s.tank.fullFloat = some true ∨ s.tank.estFull = true →
              t.tank.pump = .running ∧ t.tank.onTime = some 0 ∧ t.pumpPin = true)))

/-- R99, R102: through every step the pump output is on only while the tank is present. -/
def Obligations.PumpRunsOnlyWithTank : Prop :=
  ∀ s t : State, s.pumpSafe → step s = .next t → t.pumpSafe

/-! ### Notices and lamps (R109 to R124) -/

/-- R113, R116, R117, R131: a latched write clears each flag it names but a level-class flag whose condition is present,
forms the level term of the line again, and moves nothing else but the memory's byte 0x00 beneath the cell; a summary read answers the lowest-numbered flag
that is latched and unmasked, and under auto-clear clears that flag alone, if it is of the pulse class, and leaves the
line; a mask write
moves the masks of its eight flags and with them the line, and no flag (R112, R114). -/
def Obligations.ControllerClearsFlags : Prop :=
  (∀ (k : Nat) (v : Byte) (s : State), s.takesCycles = true → s.memory.wf = true → k < 3 →
    ∃ t, exec (.latchedWrite (BitVec.ofNat 8 (0x4B + k)) v) s = .next t
      ∧ (∀ i, i < 24 → t.notice.latched.getLsbD i
          = (s.notice.latched.getLsbD i
              && !(decide (i / 8 = k) && v.getLsbD (i % 8)
                    && (decide (i < 12) || !s.notice.conditions.getLsbD i))))
      ∧ t.notice.conditions = s.notice.conditions ∧ t.notice.pulseTimer = s.notice.pulseTimer
      ∧ t.notice.held = s.notice.held
      ∧ (t.noticePin = true ↔ s.notice.held = false
          ∧ (s.notice.pulseTimer.isSome = true
            ∨ ∃ i, 12 ≤ i ∧ i < 24 ∧ t.notice.latched.getLsbD i = true ∧ s.path.working.masks.getLsbD i = false))
      ∧ onlyByte s t (address s.path.page (BitVec.ofNat 8 (0x4B + k))).toNat 0
      ∧ t = ((s.setNotice t.notice).setMemory t.memory).setBus t.bus)
  ∧ (∀ s : State, s.takesCycles = true →
    ∃ (t : State) (n : Nat), exec .summaryRead s = .next t ∧ t.bus.toController = some (BitVec.ofNat 8 n)
      ∧ (n = 0 → s.notice.latched &&& ~~~s.path.working.masks = 0 ∧ t.notice = s.notice)
      ∧ (0 < n → n ≤ 24 ∧ s.notice.latched.getLsbD (n - 1) = true
          ∧ s.path.working.masks.getLsbD (n - 1) = false
          ∧ (∀ i, i < n - 1 → s.notice.latched.getLsbD i = false ∨ s.path.working.masks.getLsbD i = true)
          ∧ (∀ i, i < 24 → t.notice.latched.getLsbD i
              = (s.notice.latched.getLsbD i
                  && !(s.path.working.autoClear && decide (n ≤ 12) && decide (i = n - 1)))))
      ∧ t.noticePin = s.noticePin
      ∧ t = (s.setNotice { s.notice with latched := t.notice.latched }).setBus t.bus)
  ∧ (∀ (k : Nat) (v : Byte) (s : State), s.settingsWritable → k < 3 →
    ∃ t, exec (.settingWrite (BitVec.ofNat 8 (0x30 + k)) v) s = .next t ∧ t.notice = s.notice
      ∧ (∀ i, i < 24 → t.path.working.masks.getLsbD i
          = if i / 8 = k then v.getLsbD (i % 8) else s.path.working.masks.getLsbD i)
      ∧ (t.noticePin = true ↔ s.notice.held = false
          ∧ (s.notice.pulseTimer.isSome = true
            ∨ ∃ i, 12 ≤ i ∧ i < 24 ∧ s.notice.latched.getLsbD i = true ∧ t.path.working.masks.getLsbD i = false)))

/-- R110, R111, R113, R117: through every step only level-class flags have a condition, and a flag whose condition is
present is latched. -/
def Obligations.PresentConditionsStayLatched : Prop :=
  ∀ s t : State, s.notice.latchesPresent → step s = .next t → t.notice.latchesPresent

/-- R119 to R123: one expiry of a lamp's phase timer, by the table of phases, the other lamp left as it is; while the part
runs, each lamp has the pattern that its source selects, through every step; the automatic patterns by their tables; a
lamp whose pattern a command changes stands in the first phase of the new one, and one whose selection yields the pattern
it has goes on undisturbed; a write of the lamp level; and the drive output of each lamp under LINEAR and PERCEPTUAL, with
a write of the curve (R124). -/
def Obligations.LampsFollowPatterns : Prop :=
  (∀ (lamp : Lamp) (s : State) (l : LampState), l = (match lamp with | .filter => s.lamps.filter | .tank => s.lamps.tank) →
    l.timer.isSome = true →
    ∃ (t : State) (l' : LampState), exec (.lampPhaseTimer lamp) s = .next t
      ∧ t = s.setLamps (match lamp with
          | .filter => { s.lamps with filter := l' }
          | .tank => { s.lamps with tank := l' })
      ∧ l'.pattern = l.pattern ∧ l'.timer = startTimer 10
      ∧ (∀ row ∈ ([(.blink, .on, 500, .off), (.blink, .off, 500, .on), (.fastBlink, .on, 200, .off),
            (.fastBlink, .off, 200, .on), (.breathe, .rise, 1000, .high), (.breathe, .high, 500, .fall),
            (.breathe, .fall, 1000, .low), (.breathe, .low, 500, .rise)] : List (Pattern × LampPhase × Nat × LampPhase)),
          row.1 = l.pattern → row.2.1 = l.phase →
            (l.elapsed + 10 < row.2.2.1 → l'.phase = l.phase ∧ l'.elapsed = l.elapsed + 10)
            ∧ (row.2.2.1 ≤ l.elapsed + 10 → l'.phase = row.2.2.2 ∧ l'.elapsed = 0))
      ∧ (l'.phase = .on ∨ l'.phase = .high → l'.intensity = s.path.working.lampLevel)
      ∧ (l'.phase = .off ∨ l'.phase = .low → l'.intensity = 0)
      ∧ (l'.phase = .rise → l'.intensity = s.path.working.lampLevel * l'.elapsed / 1000)
      ∧ (l'.phase = .fall → l'.intensity = s.path.working.lampLevel * (1000 - l'.elapsed) / 1000))
  ∧ (∀ s t : State, s.lampsSelected → step s = .next t → t.lampsSelected)
  ∧ (∀ (e : LampEngine) (w : Settings),
    (w.flag 0x34 = false → e.selected w .filter = if e.door = .opened then .on
      else if e.stage = .exhausted then .fastBlink else if e.stage = .worn then .breathe
      else if 1 ≤ e.progress ∧ e.progress ≤ 9 then .blink else .off)
    ∧ (w.flag 0x35 = false → e.selected w .tank = if e.tankCopy = some .absent then .on
      else if e.tankCopy = some .full then .fastBlink else if e.tankHigh = true then .blink
      else if e.pump = .running then .breathe else .off)
    ∧ (w.flag 0x34 = true → e.selected w .filter = patternOf (w.nat 0x36))
    ∧ (w.flag 0x35 = true → e.selected w .tank = patternOf (w.nat 0x37)))
  ∧ (∀ (c : Instr) (s t : State), s.phase = .running → exec c s = .next t → t.phase = .running →
    ∀ l l' : LampState, (l = s.lamps.filter ∧ l' = t.lamps.filter) ∨ (l = s.lamps.tank ∧ l' = t.lamps.tank) →
      l'.pattern ≠ l.pattern →
        l'.elapsed = 0
        ∧ (l'.pattern = .off → l'.phase = .off ∧ l'.intensity = 0 ∧ l'.timer = none)
        ∧ (l'.pattern = .on → l'.phase = .on ∧ l'.intensity = t.path.working.lampLevel ∧ l'.timer = none)
        ∧ (l'.pattern = .blink ∨ l'.pattern = .fastBlink →
            l'.phase = .on ∧ l'.intensity = t.path.working.lampLevel ∧ l'.timer = startTimer 10)
        ∧ (l'.pattern = .breathe → l'.phase = .rise ∧ l'.intensity = 0 ∧ l'.timer = startTimer 10))
  ∧ (∀ (l : LampState) (level : Nat), l.apply level l.pattern = l)
  ∧ (∀ (v : Byte) (s : State), s.settingsWritable →
    ∃ t, exec (.settingWrite 0x38#8 v) s = .next t
      ∧ ∀ l l' : LampState, (l = s.lamps.filter ∧ l' = t.lamps.filter) ∨ (l = s.lamps.tank ∧ l' = t.lamps.tank) →
        l' = { l with intensity := if l.phase = .on ∨ l.phase = .high then t.path.working.lampLevel else l.intensity })
  ∧ (∀ (lamp : Lamp) (s : State) (l : LampState), l = (match lamp with | .filter => s.lamps.filter | .tank => s.lamps.tank) →
    (s.path.working.nat 0x39 = 0 → s.lampPin lamp = l.intensity)
    ∧ (s.path.working.nat 0x39 ≠ 0 → s.lampPin lamp = l.intensity * l.intensity / 255))
  ∧ (∀ (v : Byte) (s : State), s.settingsWritable →
    ∃ t, exec (.settingWrite 0x39#8 v) s = .next t ∧ t.lamps = s.lamps
      ∧ (v = 0#8 → t.lampPin .filter = s.lamps.filter.intensity ∧ t.lampPin .tank = s.lamps.tank.intensity)
      ∧ (v ≠ 0#8 → t.lampPin .filter = s.lamps.filter.intensity * s.lamps.filter.intensity / 255
          ∧ t.lampPin .tank = s.lamps.tank.intensity * s.lamps.tank.intensity / 255))

/-- R115, R139, R149, R161: the pulse timer, the quiet timer, the save timer and the supervision pulse end. The save
timer's request reaches the queue as R148 gives. In a restart's drain and reload (R160) it is the model's choice
(notes/assumptions/36.md) that the request is merged with a WEAR_SAVE which is being written at the head, and that it asks
for no bus. -/
def Obligations.ShortTimersEnd : Prop :=
  (∀ s : State, s.notice.pulseTimer.isSome = true → ∃ t, exec .pulseTimerExpiry s = .next t
      ∧ t = s.setNotice { s.notice with pulseTimer := none }
      ∧ (t.noticePin = true ↔ s.notice.held = false
          ∧ ∃ i, 12 ≤ i ∧ i < 24 ∧ s.notice.latched.getLsbD i = true ∧ s.path.working.masks.getLsbD i = false))
  ∧ (∀ s : State, s.path.quietTimer.isSome = true → ∃ t, exec .quietTimerExpiry s = .next t
      ∧ t.store.queue = (if s.store.movePending = true ∨ .crcUpdate ∈ s.store.queue then s.store.queue
          else s.store.queue ++ [.crcUpdate])
      ∧ t = (s.setPath { s.path with quietTimer := none }).setStore t.store)
  ∧ (∀ s : State, s.store.saveTimer.isSome = true → ∃ t, exec .saveTimerExpiry s = .next t
      ∧ t.store.saveTimer = startTimer 900000
      ∧ (s.store.changed = false → t.store = { s.store with saveTimer := startTimer 900000 })
      ∧ (s.store.changed = true → t.store.queue = (if s.store.movePending = true ∨ .wearSave ∈ s.store.queue
          then s.store.queue else s.store.queue ++ [.wearSave]))
      ∧ (s.phase ≠ .running → t.store.holdReq = s.store.holdReq ∧ t.store.hold = s.store.hold)
      ∧ t = s.setStore t.store)
  ∧ (∀ s : State, s.phase = .running → s.store.pulse.isSome = true → ∃ t, exec .supervisionPulseEnd s = .next t
      ∧ t = s.setStore { s.store with pulse := none } ∧ s.controllerResetPin = true ∧ t.controllerResetPin = false)

/-! ### Memory path (R125 to R146) -/

/-- R128, Table 24: a controller write reaches memory at a setting cell, the anchor, a hole or outside the window; at
every other window cell the memory receives the protected byte, whatever the controller wrote; and the reads of Table
24. Cycles of any address are `controllerWrite` and `controllerRead`, since the table has no row for some
(notes/assumptions/23.md); a cycle with both strobes active is taken as a write of its place, and one without the memory
select is none (R127). The wait count of each cycle is W of R134, for which nWAIT is asserted. What an overlay read presents
stands with the encodings of Tables 32 and 33 in O45. -/
def Obligations.WritesReachMemoryByPlace : Prop :=
  (∀ (m : BitVec 15) (v : Byte) (s : State), s.memory.wf = true →
    ((m.toNat / 256 ≠ s.path.page.toNat ∨ m = 0x7FFF#15 ∨ m.toNat % 256 < 0x40
        ∨ (0x7B ≤ m.toNat % 256 ∧ m.toNat % 256 ≤ 0x9F) ∨ (0xC7 ≤ m.toNat % 256 ∧ m.toNat % 256 ≤ 0xFD)
        ∨ m.toNat % 256 = 0xFF) → onlyByte s (controllerWrite m v s) m.toNat v)
    ∧ (m.toNat / 256 = s.path.page.toNat → 0x40 ≤ m.toNat % 256 → m.toNat % 256 ≤ 0x7A →
        onlyByte s (controllerWrite m v s) m.toNat 0)
    ∧ (m.toNat / 256 = s.path.page.toNat → 0xA0 ≤ m.toNat % 256 → m.toNat % 256 ≤ 0xC6 →
        onlyByte s (controllerWrite m v s) m.toNat (s.path.protectedImage.getD (m.toNat % 256 - 0xA0) 0))
    ∧ (m.toNat / 256 = s.path.page.toNat → m.toNat % 256 = 0xFE →
        onlyByte s (controllerWrite m v s) m.toNat (s.path.protectedImage.getD 39 0)))
  ∧ (∀ (m : BitVec 15) (v : Byte) (s : State),
    (m ≠ 0x7FFF#15 → (m.toNat / 256 ≠ s.path.page.toNat ∨ (0x7B ≤ m.toNat % 256 ∧ m.toNat % 256 ≤ 0x9F)
        ∨ (0xC7 ≤ m.toNat % 256 ∧ m.toNat % 256 ≤ 0xFD) ∨ m.toNat % 256 = 0xFF) →
      controllerWrite m v s = (s.setMemory (s.memory.write m.toNat v)).setBus
        { toController := none, toMemory := some v, waits := s.path.working.nat 0x3F % 16 })
    ∧ ((m = 0x7FFF#15 ∨ (m.toNat / 256 = s.path.page.toNat ∧ (m.toNat % 256 ≤ 0x7A
        ∨ (0xA0 ≤ m.toNat % 256 ∧ m.toNat % 256 ≤ 0xC6) ∨ m.toNat % 256 = 0xFE))) →
      (controllerWrite m v s).bus.toController = none
      ∧ (controllerWrite m v s).bus.waits = max (s.path.working.nat 0x3F % 16) (s.path.working.nat 0x3F / 16)))
  ∧ (∀ (m : BitVec 15) (s : State),
    (m.toNat / 256 = s.path.page.toNat ∧ (0x40 ≤ m.toNat % 256 ∧ m.toNat % 256 ≤ 0x7A
        ∨ 0xA0 ≤ m.toNat % 256 ∧ m.toNat % 256 ≤ 0xC6) →
      (controllerRead m s).bus.toController = some (overlayByte s (BitVec.ofNat 8 (m.toNat % 256)))
      ∧ (controllerRead m s).bus.waits = s.path.working.nat 0x3F / 16
      ∧ controllerRead m s = ((s.setPath { s.path with holders := (controllerRead m s).path.holders }).setNotice
          (controllerRead m s).notice).setBus (controllerRead m s).bus
      ∧ (m.toNat % 256 ≠ 0x4E → (controllerRead m s).notice = s.notice)
      ∧ ((∀ h ∈ holderTable, m.toNat % 256 ≠ h.1) → (controllerRead m s).path.holders = s.path.holders))
    ∧ (¬ (m.toNat / 256 = s.path.page.toNat ∧ (0x40 ≤ m.toNat % 256 ∧ m.toNat % 256 ≤ 0x7A
        ∨ 0xA0 ≤ m.toNat % 256 ∧ m.toNat % 256 ≤ 0xC6)) →
      controllerRead m s = s.setBus
        { toController := some (s.memory.read m.toNat), toMemory := none, waits := s.path.working.nat 0x3F % 16 })
    ∧ (s.takesCycles = true → ∀ k,
        (controllerRead m s).waitPin k = decide (k < (controllerRead m s).bus.waits)))
  ∧ (∀ (x : Strobes) (m : BitVec 15) (v : Byte) (s : State),
    (x.select = true → x.write = true → memoryCycle x m v s = controllerWrite m v s)
    ∧ (x.select = true → x.read = true → x.write = false → memoryCycle x m v s = controllerRead m s)
    ∧ (x.select = false ∨ (x.read = false ∧ x.write = false) → memoryCycle x m v s = s))

/-- R134, R135, R138, R139, R167, R168: a setting write: the memory, the raw image and the group's working values take the
byte, a clamp of the setting written or of another member of its group is recorded, and the quiet timer and supervision
restart; and the delivery to the air mover's slots (R23, R24), the dry duty among them, and to the fault policy (R171). The
deliveries to the other blocks stand with their statements: O11, O14, O23, O27, O29, O30, O35, O37 and O39. -/
def Obligations.SettingWriteTakesByte : Prop :=
  (∀ (off v : Byte) (s : State), s.takesCycles = true → s.memory.wf = true → off.toNat < 0x40 → off ≠ 0x18#8 →
    off ≠ 0x19#8 → s.path.raw.length = 64 → s.path.working.bytes.length = 64 →
    ∃ t, exec (.settingWrite off v) s = .next t ∧ onlyByte s t (address s.path.page off).toNat v
      ∧ t.path.raw = s.path.raw.set off.toNat v
      ∧ (∀ m ∈ settingGroup off.toNat, t.path.working.byte m = workingByte (s.path.raw.set off.toNat v) m)
      ∧ (∀ m, m ∉ settingGroup off.toNat → t.path.working.byte m = s.path.working.byte m)
      ∧ t.path.working.hexh = s.path.working.hexh ∧ t.path.hexhStage = s.path.hexhStage
      ∧ (t.path.working.byte off.toNat ≠ v → t.path.lastClamped = off
          ∧ hasFlag t.notice.latched .settingClamped = true)
      ∧ (t.path.working.byte off.toNat = v → ∀ m ∈ settingGroup off.toNat, m ≠ off.toNat →
          t.path.working.byte m ≠ s.path.working.byte m → t.path.working.byte m ≠ t.path.raw.getD m 0 →
          (∀ m' ∈ settingGroup off.toNat, m' ≠ off.toNat → m' < m →
            t.path.working.byte m' = s.path.working.byte m' ∨ t.path.working.byte m' = t.path.raw.getD m' 0) →
          t.path.lastClamped = BitVec.ofNat 8 m ∧ hasFlag t.notice.latched .settingClamped = true)
      ∧ (t.path.working.byte off.toNat = v → (∀ m ∈ settingGroup off.toNat, m ≠ off.toNat →
            t.path.working.byte m = s.path.working.byte m ∨ t.path.working.byte m = t.path.raw.getD m 0) →
          t.path.lastClamped = s.path.lastClamped
          ∧ hasFlag t.notice.latched .settingClamped = hasFlag s.notice.latched .settingClamped)
      ∧ t.path.quietTimer = startTimer 200 ∧ t.path.armed = false
      ∧ (s.path.armed = true → t.cmd.status = .idle) ∧ supervisionRestarted s t
      ∧ t.bus.waits = max (s.path.working.nat 0x3F % 16) (s.path.working.nat 0x3F / 16)
      ∧ t.path.page = s.path.page ∧ t.path.holders = s.path.holders ∧ t.path.lastStray = s.path.lastStray
      ∧ t.path.protectedImage = s.path.protectedImage ∧ t.pins = s.pins ∧ t.phase = s.phase ∧ t.pending = s.pending)
  ∧ (∀ (off v : Byte) (s : State), s.settingsWritable → off.toNat ≤ 0x02 ∨ (0x07 ≤ off.toNat ∧ off.toNat ≤ 0x0A) →
    ∃ t, exec (.settingWrite off v) s = .next t ∧ t.air.band = s.air.band
      ∧ (s.cmd.mode = .standalone ∨ t.path.working.mode = .off → t.air.user = none ∧ t.air.auto = none)
      ∧ (s.cmd.mode = .normal → t.path.working.mode = .dry →
          t.air.user = (if t.path.working.circulate then some (t.path.working.nat 0x07) else none)
          ∧ t.air.auto = none)
      ∧ (s.cmd.mode = .normal → t.path.working.mode = .clean ∨ t.path.working.mode = .cleanDry →
          (t.path.working.fanSpeed = 0 → t.air.user = none
              ∧ t.air.auto = some (t.path.working.nat (0x07 + s.air.band)))
          ∧ (1 ≤ t.path.working.fanSpeed → t.air.auto = none
              ∧ t.air.user = some (t.path.working.nat (0x06 + t.path.working.fanSpeed)))))
  ∧ (∀ (v : Byte) (s : State), s.settingsWritable →
    (∃ t, exec (.settingWrite 0x0E#8 v) s = .next t
      ∧ (t.dry.comp = s.dry.comp → t.air.drying = s.air.drying.map fun _ => t.path.working.nat 0x0E)
      ∧ (t.dry.comp ≠ s.dry.comp →
          t.air.drying = if t.dry.comp = .preRun then some (t.path.working.nat 0x0E) else none))
    ∧ (∃ t, exec (.settingWrite 0x0F#8 v) s = .next t
      ∧ t.air.defrost = s.air.defrost.map fun _ => t.path.working.nat 0x0F)
    ∧ (∃ t, exec (.settingWrite 0x3B#8 v) s = .next t
      ∧ t.air.standalone = s.air.standalone.map fun _ => t.path.working.nat 0x3B)
    ∧ (∃ t, exec (.settingWrite 0x3D#8 v) s = .next t
      ∧ (s.cmd.mode = .standalone → v ≠ 0#8 → s.notice.conditions &&& allStopConditions ≠ 0 →
          t.cmd.allStop = true)
      ∧ (s.cmd.mode = .normal ∨ v = 0#8 ∨ s.notice.conditions &&& allStopConditions = 0 →
          t.cmd.allStop = s.cmd.allStop)))

/-- R140, R141, R138: the two writes of Hexh. -/
def Obligations.HexhTakesBothBytes : Prop :=
  (∀ (v : Byte) (s : State), s.takesCycles = true → s.memory.wf = true →
    ∃ t, exec (.hexhLowWrite v) s = .next t ∧ onlyByte s t (address s.path.page 0x18#8).toNat v
      ∧ t.path = { s.path with raw := s.path.raw.set 0x18 v, hexhStage := some v, armed := false,
                               quietTimer := startTimer 200 }
      ∧ supervisionRestarted s t ∧ t.filter = s.filter ∧ t.air = s.air ∧ t.dry = s.dry ∧ t.tank = s.tank
      ∧ t.notice = s.notice ∧ t.lamps = s.lamps ∧ t.store = s.store ∧ t.front = s.front ∧ t.pending = s.pending)
  ∧ (∀ (v : Byte) (s : State), s.takesCycles = true → s.memory.wf = true →
    ∃ t, exec (.hexhHighWrite v) s = .next t ∧ onlyByte s t (address s.path.page 0x19#8).toNat v
      ∧ t.path.raw = s.path.raw.set 0x19 v ∧ t.path.hexhStage = none
      ∧ (∀ low, s.path.hexhStage = some low →
          t.path.working.hexh = max 1 (min 730 (low.toNat + 256 * v.toNat)))
      ∧ (s.path.hexhStage = none →
          t.path.working.hexh = max 1 (min 730 (s.path.working.hexh % 256 + 256 * v.toNat)))
      ∧ (∀ pair, pair = (s.path.hexhStage.map BitVec.toNat).getD (s.path.working.hexh % 256) + 256 * v.toNat →
          (pair < 1 ∨ 730 < pair →
            t.path.lastClamped = 0x19#8 ∧ hasFlag t.notice.latched .settingClamped = true)
          ∧ (1 ≤ pair → pair ≤ 730 → t.path.lastClamped = s.path.lastClamped
            ∧ hasFlag t.notice.latched .settingClamped = hasFlag s.notice.latched .settingClamped))
      ∧ t.filter.wear = wearIndex t.path.working s.filter s.air.q
      ∧ t.path.working.bytes = s.path.working.bytes ∧ t.path.quietTimer = startTimer 200 ∧ t.path.armed = false
      ∧ supervisionRestarted s t ∧ t.tank = s.tank ∧ t.front = s.front ∧ t.pending = s.pending)

/-- R136, R137: the working settings of any raw image lie in their ranges, the thresholds rise, and trip stands at least 2
above warn. -/
def Obligations.WorkingSettingsInRange : Prop :=
  ∀ raw : List Byte,
    (∀ off lo hi, off < 64 → settingKind off = .unsigned lo hi →
      lo ≤ (Settings.ofRaw raw).nat off ∧ (Settings.ofRaw raw).nat off ≤ hi)
    ∧ (∀ off lo hi, off < 64 → settingKind off = .signed lo hi →
      lo ≤ (Settings.ofRaw raw).int off ∧ (Settings.ofRaw raw).int off ≤ hi)
    ∧ (∀ off last, off < 64 → settingKind off = .choice last → (Settings.ofRaw raw).nat off ≤ last)
    ∧ (Settings.ofRaw raw).t1 = max 1 (min 248 (rawNat raw 0x0B))
    ∧ (Settings.ofRaw raw).t2 = max ((Settings.ofRaw raw).t1 + 1) (min 249 (rawNat raw 0x0C))
    ∧ (Settings.ofRaw raw).t3 = max ((Settings.ofRaw raw).t2 + 1) (min 250 (rawNat raw 0x0D))
    ∧ (Settings.ofRaw raw).t1 < (Settings.ofRaw raw).t2 ∧ (Settings.ofRaw raw).t2 < (Settings.ofRaw raw).t3
    ∧ (Settings.ofRaw raw).t3 ≤ 250
    ∧ (Settings.ofRaw raw).warn = max 40 (min 60 (rawNat raw 0x21))
    ∧ (Settings.ofRaw raw).warn + 2 ≤ (Settings.ofRaw raw).trip ∧ 55 ≤ (Settings.ofRaw raw).trip
    ∧ (Settings.ofRaw raw).trip ≤ 70
    ∧ (Settings.ofRaw raw).supervisionInterval ≠ 1 ∧ (Settings.ofRaw raw).supervisionInterval ≤ 60
    ∧ (Settings.ofRaw raw).waitMemory ≤ 7 ∧ (Settings.ofRaw raw).waitCell ≤ 7
    ∧ 1 ≤ (Settings.ofRaw raw).hexh ∧ (Settings.ofRaw raw).hexh ≤ 730

/-- R142, R143: a read of a lowest byte loads its holder and presents its byte; from then on the higher bytes answer from
that value, whatever else the state becomes, until the holder is loaded again. R21, R130, R174, Tables 32 and 33: the byte
of every overlay cell, the one-byte cells by the codes of the tables and the values of two or three bytes least significant
byte first, a higher byte from its holder where that is loaded and from the live value where it is empty. The whole seconds
left on a timer (Table 17) are formed as notes/assumptions/13.md says. -/
def Obligations.SnapshotHoldsOneValue : Prop :=
  (∀ (i low size : Nat) (s : State), s.takesCycles = true → s.path.holders.length = 26 →
    holderTable[i]? = some (low, size) →
    ∃ t, exec (.snapshotLoadRead (BitVec.ofNat 8 low)) s = .next t
      ∧ t.bus.toController = some (leByte (liveValue s low) 0)
      ∧ t.bus.waits = s.path.working.nat 0x3F / 16
      ∧ t = (s.setPath { s.path with holders := s.path.holders.set i (some (liveValue s low)) }).setBus t.bus
      ∧ ∀ (u : State) (k : Nat), u.path.holders[i]? = t.path.holders[i]? → 0 < k → k < size →
          overlayByte u (BitVec.ofNat 8 (low + k)) = leByte (liveValue s low) k)
  ∧ (∀ s : State, overlayByte s 0x40#8 = s.cmd.lastCode
    ∧ overlayByte s 0x41#8 = (match s.cmd.status with
        | .idle => 0#8 | .accepted => 1#8 | .inProgress => 2#8 | .done => 3#8 | .refusedState => 4#8
        | .refusedBusy => 5#8 | .refusedUnknown => 6#8 | .armed => 7#8 | .aborted => 8#8)
    ∧ overlayByte s 0x42#8 = BitVec.ofNat 8 s.cmd.progress
    ∧ overlayByte s 0x43#8 = (match s.store.resetCause with
        | .powerOn => 0#8 | .resetLine => 1#8 | .restart => 2#8 | .supervision => 3#8)
    ∧ overlayByte s 0x44#8 = s.path.lastClamped ∧ overlayByte s 0x45#8 = s.path.lastStray
    ∧ overlayByte s 0x46#8 = BitVec.ofNat 8 s.path.page.toNat
    ∧ overlayByte s 0x47#8 = BitVec.ofNat 8 s.cmd.count
    ∧ (∀ k, k < 3 → ∀ i, i < 8 →
        (overlayByte s (BitVec.ofNat 8 (0x48 + k))).getLsbD i = s.notice.conditions.getLsbD (8 * k + i)
        ∧ (overlayByte s (BitVec.ofNat 8 (0x4B + k))).getLsbD i = s.notice.latched.getLsbD (8 * k + i))
    ∧ ((∀ i, i < 24 → s.notice.latched.getLsbD i = false ∨ s.path.working.masks.getLsbD i = true) →
        overlayByte s 0x4E#8 = 0#8)
    ∧ (∀ i, i < 24 → s.notice.latched.getLsbD i = true → s.path.working.masks.getLsbD i = false →
        (∀ j, j < i → s.notice.latched.getLsbD j = false ∨ s.path.working.masks.getLsbD j = true) →
        overlayByte s 0x4E#8 = BitVec.ofNat 8 (i + 1))
    ∧ overlayByte s 0x4F#8 = (match s.cmd.mode with
        | .normal => 0#8 | .standalone => if s.cmd.allStop then 2#8 else 1#8))
  ∧ (∀ s : State, (overlayByte s 0x60#8).getLsbD 0 = decide (s.front.rh.status = .valid)
    ∧ (overlayByte s 0x60#8).getLsbD 1 = decide (s.front.troom.status = .valid)
    ∧ (overlayByte s 0x60#8).getLsbD 2 = decide (s.front.tevap.status = .valid)
    ∧ (overlayByte s 0x60#8).getLsbD 3 = decide (s.front.tcond.status = .valid)
    ∧ (overlayByte s 0x60#8).getLsbD 4 = decide (s.front.supply.status = .valid)
    ∧ (overlayByte s 0x60#8).getLsbD 5 = decide (s.front.particle.status = .valid)
    ∧ (overlayByte s 0x60#8).getLsbD 6 = s.front.tach.valid ∧ (overlayByte s 0x60#8).getLsbD 7 = false
    ∧ overlayByte s 0x61#8 = BitVec.ofNat 8 s.air.effective ∧ overlayByte s 0x62#8 = BitVec.ofNat 8 s.air.target
    ∧ overlayByte s 0x65#8 = BitVec.ofNat 8 s.air.q
    ∧ overlayByte s 0x66#8 = BitVec.ofNat 8 (s.air.user.getD 0)
    ∧ overlayByte s 0x67#8 = BitVec.ofNat 8 (s.air.auto.getD 0)
    ∧ overlayByte s 0x68#8 = BitVec.ofNat 8 (s.air.drying.getD 0)
    ∧ overlayByte s 0x69#8 = BitVec.ofNat 8 (s.air.defrost.getD 0)
    ∧ overlayByte s 0x6A#8 = BitVec.ofNat 8 (s.air.protect.getD 0)
    ∧ overlayByte s 0x6B#8 = BitVec.ofNat 8 (s.air.standalone.getD 0)
    ∧ overlayByte s 0x6C#8 = BitVec.ofNat 8 (s.air.learn.getD 0)
    ∧ overlayByte s 0x6D#8 = BitVec.ofNat 8 s.air.band
    ∧ overlayByte s 0x6E#8 = (match s.air.fan with
        | .stopped => 0#8 | .run => 1#8 | .stallWait => 2#8 | .stallLockout => 3#8)
    ∧ overlayByte s 0x6F#8 = BitVec.ofNat 8 s.air.retries
    ∧ overlayByte s 0x70#8 = (match s.dry.demand with
        | .satisfied => 0#8 | .demand => 1#8 | .timed false => 2#8 | .timed true => 3#8)
    ∧ overlayByte s 0x71#8 = (match s.dry.comp with
        | .offHold => 0#8 | .offReady => 1#8 | .preRun => 2#8 | .running => 3#8 | .defrost => 4#8
        | .tripped => 5#8 | .lockedOut => 6#8)
    ∧ overlayByte s 0x74#8 = (match s.tank.level with
        | .absent => 0#8 | .normal => 1#8 | .high => 2#8 | .full => 3#8)
    ∧ overlayByte s 0x75#8 = (match s.tank.pump with
        | .idle => 0#8 | .running => 1#8 | .afterRun => 2#8 | .failed => 3#8))
  ∧ (∀ s : State, overlayByte s 0x78#8 = BitVec.ofNat 8 s.filter.wear
    ∧ (∀ field : Option Job → Nat,
        field none = 0 → field (some .crcUpdate) = 1 → field (some .wearSave) = 2 → field (some .windowMove) = 3 →
        overlayByte s 0x79#8
          = BitVec.ofNat 8 (field s.store.queue[0]? + 4 * field s.store.queue[1]? + 16 * field s.store.queue[2]?))
    ∧ overlayByte s 0x7A#8 = (match s.store.hold with
        | .idle => 0#8 | .requesting => 1#8 | .burst => 2#8 | .retryWait => 3#8)
    ∧ overlayByte s 0xA8#8 = BitVec.ofNat 8 s.filter.minutes
    ∧ overlayByte s 0xA9#8 = (match s.filter.stage with | .good => 0#8 | .worn => 1#8 | .exhausted => 2#8)
    ∧ overlayByte s 0xAC#8 = BitVec.ofNat 8 s.dry.runMinutes
    ∧ overlayByte s 0xB3#8 = BitVec.ofNat 8 s.dry.tripTotal ∧ overlayByte s 0xC4#8 = s.store.lastSeq
    ∧ overlayByte s 0xC5#8 = BitVec.ofNat 8 s.air.q ∧ overlayByte s 0xC6#8 = s.store.lastCheck)
  ∧ (∀ s : State, ∀ c ∈ [(0, 0x50, 2, s.front.rh.value.toNat), (1, 0x52, 2, (s.front.troom.value % 65536).toNat),
      (2, 0x54, 2, (s.front.tevap.value % 65536).toNat), (3, 0x56, 2, (s.front.tcond.value % 65536).toNat),
      (4, 0x58, 2, s.front.supply.value.toNat),
      (5, 0x5A, 2, if s.front.particle.status = .valid then s.front.particle.value else s.path.working.nat 0x15),
      (6, 0x5C, 2, s.front.particle.occupancy), (7, 0x5E, 2, s.front.tach.rpm), (8, 0x63, 2, s.air.airflow),
      (9, 0x72, 2, match s.dry.comp with
        | .offHold => max (s.path.working.nat 0x1C * 10 - s.dry.offTime) (secondsLeft s.dry.extraHold)
        | .preRun => secondsLeft s.dry.confirmTimer
        | .running => s.path.working.nat 0x1D * 10 - s.dry.runTime
        | .defrost => secondsLeft s.dry.defrostTimer
        | .offReady => 0 | .tripped => 0 | .lockedOut => 0),
      (10, 0x76, 2, s.tank.estimate), (11, 0xA0, 3, s.filter.dose), (12, 0xA3, 3, s.filter.remainder),
      (13, 0xA6, 2, s.filter.hours), (14, 0xAA, 2, s.dry.runHours), (15, 0xAD, 2, s.dry.starts),
      (16, 0xAF, 2, s.dry.defrosts), (17, 0xB1, 2, s.tank.cycles),
      (18, 0xB4, 2, (s.air.baseline.getD 0 none).getD 0), (19, 0xB6, 2, (s.air.baseline.getD 1 none).getD 0),
      (20, 0xB8, 2, (s.air.baseline.getD 2 none).getD 0), (21, 0xBA, 2, (s.air.baseline.getD 3 none).getD 0),
      (22, 0xBC, 2, (s.air.baseline.getD 4 none).getD 0), (23, 0xBE, 2, (s.air.baseline.getD 5 none).getD 0),
      (24, 0xC0, 2, (s.air.baseline.getD 6 none).getD 0), (25, 0xC2, 2, (s.air.baseline.getD 7 none).getD 0)],
    overlayByte s (BitVec.ofNat 8 c.2.1) = BitVec.ofNat 8 c.2.2.2
    ∧ ∀ k, k < c.2.2.1 → 0 < k →
        overlayByte s (BitVec.ofNat 8 (c.2.1 + k))
          = BitVec.ofNat 8 ((s.path.holders.getD c.1 none).getD c.2.2.2 / 256 ^ k))

/-- R131, R133: a stray write is dropped: the memory receives the protected byte, STRAY_WRITE is latched, its offset is
recorded, and supervision and the restart arming stand. Unmasked, with the level term false and the line not held, the
occurrence starts the 20 ms pulse timer; masked, held, or with the level term true, it starts none (R115). -/
def Obligations.StrayWriteIsDropped : Prop :=
  ∀ (off v : Byte) (s : State), s.takesCycles = true → s.memory.wf = true → (windowPlace off).stray = true →
    ∃ t, exec (.strayWrite off v) s = .next t
      ∧ onlyByte s t (address s.path.page off).toNat (protectedByte s.path.protectedImage off)
      ∧ hasFlag t.notice.latched .strayWrite = true ∧ t.notice.conditions = s.notice.conditions
      ∧ (∀ i, i < 24 → i ≠ 9 → t.notice.latched.getLsbD i = s.notice.latched.getLsbD i)
      ∧ t.notice.held = s.notice.held
      ∧ (s.path.working.masks.getLsbD 9 = true ∨ s.notice.held = true → t.notice.pulseTimer = s.notice.pulseTimer)
      ∧ ((∃ i, 12 ≤ i ∧ i < 24 ∧ s.notice.latched.getLsbD i = true ∧ s.path.working.masks.getLsbD i = false) →
          s.notice.pulseTimer = none → t.notice.pulseTimer = none)
      ∧ (s.path.working.masks.getLsbD 9 = false → s.notice.held = false →
          (∀ i, 12 ≤ i → i < 24 → s.notice.latched.getLsbD i = false ∨ s.path.working.masks.getLsbD i = true) →
          t.notice.pulseTimer = startTimer 20)
      ∧ t = (((s.setNotice t.notice).setPath { s.path with lastStray := off }).setMemory t.memory).setBus t.bus

/-- R144: the three cases of an anchor write. -/
def Obligations.AnchorWriteRequestsMove : Prop :=
  ∀ (v : Byte) (s : State), s.takesCycles = true → s.memory.wf = true →
    ∃ t, exec (.anchorWrite v) s = .next t ∧ onlyByte s t 0x7FFF v
      ∧ (controllerRead 0x7FFF#15 t).bus.toController = some v
      ∧ overlayByte t 0x46#8 = BitVec.ofNat 8 s.path.page.toNat
      ∧ (s.store.movePending = false → v.toNat % 128 = s.path.page.toNat → t.store = s.store)
      ∧ (.windowMove ∈ s.store.queue → t.store.queue = s.store.queue ∧ t.store.target.toNat = v.toNat % 128)
      ∧ (.windowMove ∉ s.store.queue → (s.store.movePending = true ∨ v.toNat % 128 ≠ s.path.page.toNat) →
          t.store.queue = [.windowMove] ∧ t.store.target.toNat = v.toNat % 128)
      ∧ t = ((s.setStore t.store).setMemory t.memory).setBus t.bus

/-- Table 3, R135, R152, R157: while the part runs, the memory at the window page holds the raw image and a record in
service has 38 bytes, through every step; and every step keeps the memory canonical. R131, R145: the memory holds the
protected image as well, through every step but the cut of a move to the page the window occupies, whose bytes the memory
keeps and the protected image does not take (R154). -/
def Obligations.RawImageMatchesMemory : Prop :=
  (∀ s t : State, s.memory.wf = true → s.rawMatches → step s = .next t → t.memory.wf = true ∧ t.rawMatches)
  ∧ (∀ s t : State, s.memory.wf = true → s.rawMatches → s.protectedMatches →
      (∀ n rest, s.pending = .holdackFall n :: rest → ¬ s.movesInPlace) → step s = .next t → t.protectedMatches)

/-! ### Stored images and bus hold (R147 to R155) -/

/-- R155: the check byte: the register starts at 0xFF, takes each byte by exclusive-or, and shifts eight times, combined
with 0x07 at each dropped 1; no final inversion; a single byte 0x00 gives 0xF3; and what the two check bytes cover. -/
def Obligations.CheckByteIsCrc8 : Prop :=
  crc8 [] = 0xFF#8 ∧ crc8 [0x00#8] = 0xF3#8
  ∧ (∀ (bytes : List Byte) (b : Byte), crc8 (bytes ++ [b])
      = Nat.iterate (fun r => if r.msb then (r <<< 1) ^^^ 0x07#8 else r <<< 1) 8 (crc8 bytes ^^^ b))
  ∧ (∀ s : State, snapshot s .crcUpdate = .crcUpdate (crc8 s.path.raw))
  ∧ (∀ (s : State) (seq : Byte), (recordBytes s seq).length = 38 ∧ (recordBytes s seq).getD 0x24 0 = seq)
  ∧ (∀ (page : BitVec 7) (record : List Byte),
      (saveWrites page record).getLast? = some (address page 0xC6#8, crc8 record))

/-- R148, R150 to R154: through every step the queue holds each kind at most once, and nothing behind a WINDOW_MOVE;
HOLDREQ is high in REQUESTING and BURST alone, a job is in service in BURST alone, and a job waits in REQUESTING and
RETRY_WAIT. -/
def Obligations.StoredUnitStaysConsistent : Prop :=
  (∀ s t : State, queueOrdered s.store.queue → step s = .next t → queueOrdered t.store.queue)
  ∧ (∀ s t : State, s.holdSafe → step s = .next t → t.holdSafe)

/-- R150, R151, R152: a rise of HOLDACK in REQUESTING takes the head into service with its snapshots, elsewhere it is
ignored; a refused request, its third in a row, and the retry. -/
def Obligations.HoldRequestIsAnswered : Prop :=
  (∀ s : State, s.phase = .running →
    ∃ t, exec .holdackRise s = .next t ∧ t = (s.setPins { s.pins with holdAck := true }).setStore t.store
      ∧ (s.store.hold ≠ .requesting → t.store = s.store)
      ∧ (∀ j rest, s.store.hold = .requesting → s.store.queue = j :: rest →
          t.store.hold = .burst ∧ t.store.queue = rest ∧ t.store.ackTimer = none
          ∧ (∀ c, t.addressLines c = .driven ∧ t.memoryDataLines c = .driven) ∧ t.controllerDataLines = .released
          ∧ t.store.holdReq = s.store.holdReq ∧ t.store.lastSeq = s.store.lastSeq
          ∧ (j = .crcUpdate → t.store.service = some (.crcUpdate (crc8 s.path.raw))
              ∧ t.store.changed = s.store.changed)
          ∧ (j = .wearSave → t.store.service = some (.wearSave (recordBytes s (s.store.lastSeq + 1)))
              ∧ t.store.changed = false)
          ∧ (j = .windowMove → t.store.changed = false
              ∧ t.store.service
                = some (.windowMove s.path.raw (recordBytes s (s.store.lastSeq + 1)) s.store.target))))
  ∧ (∀ s : State, s.store.hold = .requesting → s.store.ackTimer.isSome = true → s.store.refusals ≤ 2 →
    ∃ t, exec .ackTimerExpiry s = .next t ∧ t.store.hold = .retryWait ∧ t.store.holdReq = false
      ∧ t.store.ackTimer = none ∧ t.store.retryTimer = startTimer 1000 ∧ t.store.queue = s.store.queue
      ∧ (s.store.refusals < 2 → t.store.refusals = s.store.refusals + 1 ∧ t.notice = s.notice)
      ∧ (s.store.refusals = 2 → t.store.refusals = 0 ∧ hasFlag t.notice.latched .holdRefused = true)
      ∧ t = (s.setStore t.store).setNotice t.notice)
  ∧ (∀ s : State, s.store.hold = .retryWait → s.store.retryTimer.isSome = true →
    ∃ t, exec .retryTimerExpiry s = .next t
      ∧ (s.pins.holdAck = false → t.store.hold = .requesting ∧ t.store.holdReq = true
          ∧ t.store.ackTimer = startTimer 20 ∧ t.store.retryTimer = none)
      ∧ (s.pins.holdAck = true → t.store = { s.store with retryTimer := none })
      ∧ t = s.setStore t.store)

/-- R153, R131, R145, R165: a completed WEAR_SAVE, a completed WINDOW_MOVE and a completed CRC_UPDATE, each with the
protected image it leaves. -/
def Obligations.BurstCompletesSave : Prop :=
  (∀ (record : List Byte) (s : State), s.phase = .running → s.memory.wf = true → s.store.hold = .burst →
    s.store.service = some (.wearSave record) → record.length = 38 → s.pins.holdAck = true →
    s.path.protectedImage.length = 40 →
    ∃ t, exec .burstComplete s = .next t
      ∧ t.path.protectedImage = record ++ [crc8 record, s.path.protectedImage.getD 39 0]
      ∧ (∀ i, i < 38 →
          t.memory.read (address s.path.page (BitVec.ofNat 8 (0xA0 + i))).toNat = record.getD i 0)
      ∧ t.memory.read (address s.path.page 0xC6#8).toNat = crc8 record
      ∧ (∀ a, (∀ i, 0xA0 ≤ i → i ≤ 0xC6 → a ≠ (address s.path.page (BitVec.ofNat 8 i)).toNat) →
          t.memory.read a = s.memory.read a)
      ∧ t.store.hold = .idle ∧ t.store.holdReq = false ∧ t.store.service = none ∧ t.store.refusals = 0
      ∧ t.store.lastSeq = record.getD 0x24 0 ∧ t.store.lastCheck = crc8 record ∧ t.store.queue = s.store.queue
      ∧ t.store.changed = s.store.changed ∧ t.path.page = s.path.page ∧ t.path.raw = s.path.raw
      ∧ t.cmd = (if s.cmd.awaited = .save then { s.cmd with status := .done, awaited := .none } else s.cmd)
      ∧ t = (((s.setMemory t.memory).setPath t.path).setStore t.store).setCmd t.cmd)
  ∧ (∀ (raw record : List Byte) (page : BitVec 7) (s : State), s.phase = .running → s.memory.wf = true →
    s.store.hold = .burst → s.store.service = some (.windowMove raw record page) → raw.length = 64 →
    record.length = 38 → s.pins.holdAck = true → s.path.protectedImage.length = 40 →
    ∃ t, exec .burstComplete s = .next t ∧ t.path.page = page
      ∧ t.path.protectedImage = record ++ [crc8 record, crc8 raw]
      ∧ (∀ i, i < 64 → t.memory.read (address page (BitVec.ofNat 8 i)).toNat = raw.getD i 0)
      ∧ (∀ i, i < 38 → t.memory.read (address page (BitVec.ofNat 8 (0xA0 + i))).toNat = record.getD i 0)
      ∧ t.memory.read (address page 0xFE#8).toNat = crc8 raw
      ∧ t.memory.read (address page 0xC6#8).toNat = crc8 record
      ∧ (∀ a, (∀ i, i < 0x40 ∨ (0xA0 ≤ i ∧ i ≤ 0xC6) ∨ i = 0xFE →
            a ≠ (address page (BitVec.ofNat 8 i)).toNat) →
          t.memory.read a = s.memory.read a)
      ∧ t.store = { s.store with
          service := none, hold := .idle, holdReq := false, refusals := 0, lastSeq := record.getD 0x24 0,
          lastCheck := crc8 record }
      ∧ t.cmd = (if s.cmd.awaited = .save then { s.cmd with status := .done, awaited := .none } else s.cmd)
      ∧ t.path.raw = s.path.raw ∧ t.path.working = s.path.working ∧ t.path.holders = s.path.holders
      ∧ t.path.hexhStage = s.path.hexhStage ∧ t.path.quietTimer = s.path.quietTimer
      ∧ t = (((s.setMemory t.memory).setPath t.path).setStore t.store).setCmd t.cmd)
  ∧ (∀ (check : Byte) (s : State), s.phase = .running → s.memory.wf = true → s.store.hold = .burst →
    s.store.service = some (.crcUpdate check) → s.pins.holdAck = true → s.path.protectedImage.length = 40 →
    ∃ t, exec .burstComplete s = .next t ∧ onlyByte s t (address s.path.page 0xFE#8).toNat check
      ∧ t.path = { s.path with protectedImage := s.path.protectedImage.set 39 check }
      ∧ t.store = { s.store with service := none, hold := .idle, holdReq := false, refusals := 0 }
      ∧ t = ((s.setMemory t.memory).setPath t.path).setStore t.store)

/-- R154, R150, R151: a fall of HOLDACK cuts a burst of each kind, lets an idle unit ask, ends a wait whose timer has run
out, and does nothing in REQUESTING. How many bytes the cut burst has written is an operand by the model's choice
(notes/assumptions/7.md). -/
def Obligations.HoldackFallCutsBurst : Prop :=
  (∀ (n : Nat) (record : List Byte) (s : State), s.phase = .running → s.store.hold = .burst →
    s.store.service = some (.wearSave record) → .windowMove ∉ s.store.queue →
    ∃ t, exec (.holdackFall n) s = .next t
      ∧ t.memory = s.memory.writeAll ((saveWrites s.path.page record).take n)
      ∧ t.store.hold = .retryWait ∧ t.store.holdReq = false ∧ t.store.retryTimer = startTimer 1000
      ∧ t.store.service = none ∧ t.store.queue = .wearSave :: s.store.queue.filter (· ≠ .wearSave)
      ∧ t.store.changed = true ∧ t.store.refusals = s.store.refusals ∧ t.store.lastSeq = s.store.lastSeq
      ∧ t.store.lastCheck = s.store.lastCheck ∧ t.path.page = s.path.page ∧ t.notice = s.notice
      ∧ t.pins = { s.pins with holdAck := false } ∧ t.cmd = s.cmd)
  ∧ (∀ (n : Nat) (s : State), s.phase = .running → s.store.hold = .idle →
    ∃ t, exec (.holdackFall n) s = .next t
      ∧ (s.store.queue = [] → t.store = s.store)
      ∧ (s.store.queue ≠ [] → t.store.hold = .requesting ∧ t.store.holdReq = true
          ∧ t.store.ackTimer = startTimer 20 ∧ t.store.queue = s.store.queue)
      ∧ t = (s.setPins { s.pins with holdAck := false }).setStore t.store)
  ∧ (∀ (n : Nat) (s : State), s.phase = .running → s.store.hold = .retryWait →
    ∃ t, exec (.holdackFall n) s = .next t
      ∧ (s.store.retryTimer = none → t.store.hold = .requesting ∧ t.store.holdReq = true
          ∧ t.store.ackTimer = startTimer 20)
      ∧ (s.store.retryTimer.isSome = true → t.store = s.store)
      ∧ t = (s.setPins { s.pins with holdAck := false }).setStore t.store)
  ∧ (∀ (n : Nat) (s : State), s.phase = .running → s.store.hold = .requesting →
    ∃ t, exec (.holdackFall n) s = .next t ∧ t = s.setPins { s.pins with holdAck := false })
  ∧ (∀ (n : Nat) (check : Byte) (s : State), s.phase = .running → s.store.hold = .burst →
    s.store.service = some (.crcUpdate check) → .windowMove ∉ s.store.queue →
    ∃ t, exec (.holdackFall n) s = .next t
      ∧ (n = 0 → t.memory = s.memory ∧ t.path = s.path)
      ∧ (1 ≤ n → t.memory = s.memory.write (address s.path.page 0xFE#8).toNat check
          ∧ t.path = { s.path with protectedImage := s.path.protectedImage.set 39 check })
      ∧ t.store = { s.store with
          hold := .retryWait, holdReq := false, ackTimer := none, retryTimer := startTimer 1000, service := none,
          queue := .crcUpdate :: s.store.queue.filter (· ≠ .crcUpdate) }
      ∧ t = (((s.setPins { s.pins with holdAck := false }).setMemory t.memory).setPath t.path).setStore t.store)
  ∧ (∀ (n : Nat) (raw record : List Byte) (page : BitVec 7) (s : State), s.phase = .running → s.store.hold = .burst →
    s.store.service = some (.windowMove raw record page) → .windowMove ∉ s.store.queue →
    ∃ t, exec (.holdackFall n) s = .next t
      ∧ t.memory = s.memory.writeAll ((moveWrites page raw record).take n)
      ∧ t.store = { s.store with
          hold := .retryWait, holdReq := false, ackTimer := none, retryTimer := startTimer 1000, service := none,
          queue := [.windowMove], target := page, changed := true }
      ∧ t = ((s.setPins { s.pins with holdAck := false }).setMemory t.memory).setStore t.store)

/-! ### Commands and supervision (R162 to R172) -/

/-- Table 30, R163, R164: each command in a state that refuses it, and a code that names none. -/
def Obligations.CommandsAreRefused : Prop :=
  ∀ s : State, s.takesCycles = true → s.memory.wf = true →
    (s.air.sweep ≠ .none → ∃ t, exec .learnBaseline s = .next t ∧ commandTaken 0x12#8 s t
        ∧ commandRefused .refusedBusy s t)
    ∧ (s.air.sweep = .none → s.cmd.mode = .standalone ∨ s.air.fan = .stallLockout →
        ∃ t, exec .learnBaseline s = .next t ∧ commandTaken 0x12#8 s t ∧ commandRefused .refusedState s t)
    ∧ (s.air.sweep = .none → ∃ t, exec .abortLearn s = .next t ∧ commandTaken 0x13#8 s t
        ∧ commandRefused .refusedState s t)
    ∧ (s.dry.comp ≠ .running → ∃ t, exec .defrostNow s = .next t ∧ commandTaken 0x21#8 s t
        ∧ commandRefused .refusedState s t)
    ∧ (s.dry.comp ≠ .lockedOut → s.air.fan ≠ .stallLockout → ∃ t, exec .clearLockout s = .next t
        ∧ commandTaken 0x22#8 s t ∧ commandRefused .refusedState s t)
    ∧ (s.cmd.mode = .normal → ∃ t, exec .resume s = .next t ∧ commandTaken 0x31#8 s t
        ∧ commandRefused .refusedState s t)
    ∧ (s.path.armed = false → ∃ t, exec .restart s = .next t ∧ commandTaken 0x5A#8 s t
        ∧ commandRefused .refusedUnknown s t)
    ∧ (∀ code : Byte, (Instr.unknownCommand code).wellFormed = true → (code ≠ 0x5A#8 ∨ s.path.armed = false) →
        ∃ t, exec (.unknownCommand code) s = .next t ∧ commandTaken code s t ∧ supervisionRestarted s t
          ∧ commandRefused .refusedUnknown s t)

/-- R42, R46, R47, R163, R166: LEARN_BASELINE starts a sweep, and ABORT_LEARN ends one with the baseline unchanged. -/
def Obligations.LearnCommandsDriveSweep : Prop :=
  (∀ s : State, s.takesCycles = true → s.memory.wf = true → s.air.sweep = .none → s.cmd.mode = .normal →
    s.air.fan ≠ .stallLockout →
    ∃ t, exec .learnBaseline s = .next t ∧ commandTaken 0x12#8 s t ∧ supervisionRestarted s t
      ∧ t.cmd.status = .inProgress ∧ t.cmd.awaited = .sweep ∧ t.dry.learnPending = true ∧ t.air.scratch = []
      ∧ (s.air.compressor = .running ∨ s.air.compressor = .defrost ∨ s.air.doorClosed = false →
          s.dry.comp = s.air.compressor → s.dry.runTime < s.path.working.minRunSeconds →
          t.air.sweep = .waiting ∧ t.cmd.progress = 1 ∧ t.air.learn = s.air.learn)
      ∧ (s.dry.comp = .offHold → s.air.compressor = .offHold → s.air.doorClosed = true →
          t.cmd.progress = 2 ∧ t.air.learn = some 31)
      ∧ t.air.baseline = s.air.baseline ∧ t.air.q = s.air.q ∧ t.filter = s.filter ∧ t.tank = s.tank
      ∧ t.notice = s.notice ∧ t.store = s.store)
  ∧ (∀ s : State, s.takesCycles = true → s.memory.wf = true → s.air.sweep ≠ .none →
    ∃ t, exec .abortLearn s = .next t ∧ commandTaken 0x13#8 s t ∧ supervisionRestarted s t
      ∧ t.cmd.status = .done ∧ t.cmd.awaited = .none ∧ t.cmd.progress = 11 ∧ t.lamps.progress = 11
      ∧ t.air.sweep = .none ∧ t.air.scratch = [] ∧ t.air.learn = none ∧ t.dry.learnPending = false
      ∧ hasFlag t.notice.latched .learnAborted = true ∧ t.air.baseline = s.air.baseline ∧ t.air.q = s.air.q
      ∧ t.filter = s.filter ∧ t.tank = s.tank ∧ t.store = s.store)

/-- R35, R90, R149: CLEAR_LOCKOUT at the fan and at the compressor. -/
def Obligations.ClearLockoutFreesBoth : Prop :=
  ∀ s : State, s.takesCycles = true → s.memory.wf = true → s.dry.comp = .lockedOut ∨ s.air.fan = .stallLockout →
    ∃ t, exec .clearLockout s = .next t ∧ commandTaken 0x22#8 s t ∧ supervisionRestarted s t
      ∧ t.cmd.status = .accepted ∧ t.cmd.awaited = .save
      ∧ (s.dry.comp = .lockedOut → t.dry.trips = [] ∧ hasFlag t.notice.conditions .compLockout = false
          ∧ (t.dry.comp = .offHold ↔ s.dry.offTime < s.path.working.minOffSeconds ∨ s.dry.extraHold.isSome = true)
          ∧ t.compPin = false ∧ t.dry.offTime = s.dry.offTime)
      ∧ (s.dry.comp ≠ .lockedOut → t.dry = s.dry)
      ∧ (s.air.fan = .stallLockout → t.air.retries = 0 ∧ t.air.fan ≠ .stallLockout ∧ t.air.fan ≠ .stallWait)
      ∧ (s.air.fan ≠ .stallLockout → t.air.retries = s.air.retries)
      ∧ hasFlag t.notice.conditions .fanStall = hasFlag s.notice.conditions .fanStall
      ∧ (s.store.movePending = false → .wearSave ∈ t.store.queue) ∧ t.filter = s.filter ∧ t.tank = s.tank

/-- R24, R68, R168, R171, R172: RESUME. -/
def Obligations.ResumeReturnsToNormal : Prop :=
  ∀ s : State, s.takesCycles = true → s.memory.wf = true → s.cmd.mode = .standalone →
    ∃ t, exec .resume s = .next t ∧ commandTaken 0x31#8 s t ∧ t.cmd.mode = .normal ∧ t.cmd.status = .done
      ∧ t.cmd.awaited = .none ∧ t.cmd.allStop = false ∧ t.dry.mode = .normal
      ∧ (s.cmd.allStop = true → t.air.allStop = false ∧ t.dry.allStop = false)
      ∧ t.air.standalone = none ∧ hasFlag t.notice.conditions .standalone = false
      ∧ t.cmd.count = s.path.working.supervisionInterval
      ∧ t.cmd.counting = (if s.path.working.supervisionInterval = 0 then none else startTimer 1000)
      ∧ (s.path.working.mode = .off → t.air.user = none ∧ t.air.auto = none)
      ∧ (s.path.working.mode = .cleanDry → 1 ≤ s.path.working.fanSpeed →
          t.air.user = some (s.path.working.speedDuty s.path.working.fanSpeed) ∧ t.air.auto = none)
      ∧ t.notice.latched = s.notice.latched ∧ t.filter = s.filter ∧ t.tank = s.tank ∧ t.store = s.store

/-- R148, R163, R164, R167: SAVE_NOW and the first half of a restart. -/
def Obligations.SaveNowAndRestartArm : Prop :=
  (∀ s : State, s.takesCycles = true → s.memory.wf = true →
    ∃ t, exec .saveNow s = .next t ∧ commandTaken 0x32#8 s t ∧ supervisionRestarted s t
      ∧ t.cmd.status = .accepted ∧ t.cmd.awaited = .save
      ∧ t.store.queue = (if s.store.movePending = true ∨ .wearSave ∈ s.store.queue then s.store.queue
          else s.store.queue ++ [.wearSave])
      ∧ t.air = s.air ∧ t.filter = s.filter ∧ t.dry = s.dry ∧ t.tank = s.tank ∧ t.notice = s.notice
      ∧ t.lamps = s.lamps)
  ∧ (∀ s : State, s.takesCycles = true → s.memory.wf = true →
    ∃ t, exec .restartArm s = .next t ∧ commandTaken 0xA5#8 s t ∧ supervisionRestarted s t ∧ t.path.armed = true
      ∧ t.cmd.status = .armed ∧ t.cmd.awaited = .none ∧ t.air = s.air ∧ t.filter = s.filter ∧ t.dry = s.dry
      ∧ t.tank = s.tank ∧ t.notice = s.notice ∧ t.lamps = s.lamps ∧ t.store = s.store)

/-- R161, R168, R169: the supervision count, and the entry into STANDALONE at its end, after which a setting write or a
RESUME of that same instant is taken in STANDALONE, the pulse on nCRST begun or not. The pulse leaves nWAIT, HOLDREQ and the
lines of both buses under their own rules (R134, R176), so a write of its instant has its W periods. That an idle step ends
that instant is the model's inference (notes/assumptions/35.md). -/
def Obligations.SupervisionEntersStandalone : Prop :=
  (∀ s : State, s.cmd.counting.isSome = true → 2 ≤ s.cmd.count →
    ∃ t, exec .supervisionCount s = .next t
      ∧ t = s.setCmd { s.cmd with count := s.cmd.count - 1, counting := startTimer 1000 })
  ∧ (∀ s : State, s.cmd.counting.isSome = true → s.cmd.count = 1 →
    ∃ t, exec .supervisionCount s = .next t ∧ t.cmd.mode = .standalone ∧ t.cmd.count = 0 ∧ t.cmd.counting = none
      ∧ hasFlag t.notice.conditions .standalone = true ∧ t.dry.mode = .standalone
      ∧ t.air.user = none ∧ t.air.auto = none ∧ t.air.standalone = some s.path.working.standaloneDuty
      ∧ t.air.sweep = .none ∧ (s.air.sweep ≠ .none → t.cmd.progress = 11
          ∧ hasFlag t.notice.latched .learnAborted = true ∧ (s.cmd.awaited = .sweep → t.cmd.status = .aborted))
      ∧ (s.air.sweep = .none → t.cmd.status = s.cmd.status ∧ t.cmd.progress = s.cmd.progress)
      ∧ (s.path.working.stopAll = true → s.notice.conditions &&& allStopConditions ≠ 0 → t.cmd.allStop = true)
      ∧ (s.path.working.stopAll = false → t.cmd.allStop = s.cmd.allStop)
      ∧ (s.path.working.controllerResetEnable = true →
          t.store.pulse = startTimer 10 ∧ t.store.resetCause = .supervision)
      ∧ (s.path.working.controllerResetEnable = false → t.store = s.store)
      ∧ t.store.queue = s.store.queue ∧ t.filter = s.filter ∧ t.tank = s.tank ∧ onlyBlocks s t
      ∧ (∀ k, t.waitPin k = s.waitPin k) ∧ t.holdReqPin = s.holdReqPin
      ∧ (∀ c, t.addressLines c = s.addressLines c ∧ t.memoryDataLines c = s.memoryDataLines c)
      ∧ t.controllerDataLines = s.controllerDataLines)
  ∧ (∀ s : State, s.cmd.counting.isSome = true → s.cmd.count = 1 → s.takesCycles = true → s.memory.wf = true →
    ∃ t, exec .supervisionCount s = .next t ∧ t.takesCycles = true
      ∧ (s.path.working.controllerResetEnable = true → t.controllerResetPin = true)
      ∧ (∃ u, exec .resume t = .next u ∧ commandTaken 0x31#8 t u ∧ u.cmd.mode = .normal ∧ u.cmd.status = .done
        ∧ u.controllerResetPin = t.controllerResetPin)
      ∧ (∀ (off v : Byte), s.settingsWritable → off.toNat < 0x40 → off ≠ 0x18#8 → off ≠ 0x19#8 →
        ∃ u, exec (.settingWrite off v) t = .next u ∧ onlyByte t u (address t.path.page off).toNat v
          ∧ u.path.raw = t.path.raw.set off.toNat v ∧ u.cmd.mode = .standalone ∧ u.cmd.count = 0
          ∧ u.cmd.counting = none
          ∧ ∀ k, u.waitPin k
              = decide (k < max (s.path.working.nat 0x3F % 16) (s.path.working.nat 0x3F / 16))))
  ∧ (∀ s : State, s.pending = [] → s.store.pulse.isSome = true →
    ∃ t, step s = .next t ∧ t.takesCycles = false ∧ t.controllerResetPin = true)

/-- The reset state has every property that the statements above say each step keeps. It rests on the model's choices for
reset (notes/assumptions/1.md, 5.md and 6.md). -/
def Obligations.ResetStateIsSafe : Prop :=
  State.reset.fanSafe ∧ State.reset.compressorRested ∧ State.reset.compressorInterlocked ∧ State.reset.pumpSafe
    ∧ State.reset.notice.latchesPresent ∧ queueOrdered State.reset.store.queue ∧ State.reset.holdSafe
    ∧ State.reset.rawMatches ∧ State.reset.protectedMatches ∧ State.reset.memory.wf = true ∧ State.reset.lampsSelected
end

