-- ==== Sys2Proof/Laws/State.lean ====
section
/-! SUPPORT. One lemma per field per update of State. -/

namespace Sys2Proof.Machine

variable (s : State)

/-! ### setPhase -/

@[simp] theorem State.setPhase_phase (p : Phase) : (s.setPhase p).phase = p := rfl
@[simp] theorem State.setPhase_loadDelay (p : Phase) : (s.setPhase p).loadDelay = s.loadDelay := rfl
@[simp] theorem State.setPhase_pins (p : Phase) : (s.setPhase p).pins = s.pins := rfl
@[simp] theorem State.setPhase_front (p : Phase) : (s.setPhase p).front = s.front := rfl
@[simp] theorem State.setPhase_air (p : Phase) : (s.setPhase p).air = s.air := rfl
@[simp] theorem State.setPhase_filter (p : Phase) : (s.setPhase p).filter = s.filter := rfl
@[simp] theorem State.setPhase_dry (p : Phase) : (s.setPhase p).dry = s.dry := rfl
@[simp] theorem State.setPhase_tank (p : Phase) : (s.setPhase p).tank = s.tank := rfl
@[simp] theorem State.setPhase_notice (p : Phase) : (s.setPhase p).notice = s.notice := rfl
@[simp] theorem State.setPhase_lamps (p : Phase) : (s.setPhase p).lamps = s.lamps := rfl
@[simp] theorem State.setPhase_path (p : Phase) : (s.setPhase p).path = s.path := rfl
@[simp] theorem State.setPhase_store (p : Phase) : (s.setPhase p).store = s.store := rfl
@[simp] theorem State.setPhase_cmd (p : Phase) : (s.setPhase p).cmd = s.cmd := rfl
@[simp] theorem State.setPhase_bus (p : Phase) : (s.setPhase p).bus = s.bus := rfl
@[simp] theorem State.setPhase_memory (p : Phase) : (s.setPhase p).memory = s.memory := rfl
@[simp] theorem State.setPhase_pending (p : Phase) : (s.setPhase p).pending = s.pending := rfl
@[simp] theorem State.setPhase_setPhase (p p' : Phase) : (s.setPhase p).setPhase p' = s.setPhase p' := rfl
@[simp] theorem State.setPhase_self : s.setPhase s.phase = s := rfl

/-! ### setLoadDelay -/

@[simp] theorem State.setLoadDelay_phase (t : Timer) : (s.setLoadDelay t).phase = s.phase := rfl
@[simp] theorem State.setLoadDelay_loadDelay (t : Timer) : (s.setLoadDelay t).loadDelay = t := rfl
@[simp] theorem State.setLoadDelay_pins (t : Timer) : (s.setLoadDelay t).pins = s.pins := rfl
@[simp] theorem State.setLoadDelay_front (t : Timer) : (s.setLoadDelay t).front = s.front := rfl
@[simp] theorem State.setLoadDelay_air (t : Timer) : (s.setLoadDelay t).air = s.air := rfl
@[simp] theorem State.setLoadDelay_filter (t : Timer) : (s.setLoadDelay t).filter = s.filter := rfl
@[simp] theorem State.setLoadDelay_dry (t : Timer) : (s.setLoadDelay t).dry = s.dry := rfl
@[simp] theorem State.setLoadDelay_tank (t : Timer) : (s.setLoadDelay t).tank = s.tank := rfl
@[simp] theorem State.setLoadDelay_notice (t : Timer) : (s.setLoadDelay t).notice = s.notice := rfl
@[simp] theorem State.setLoadDelay_lamps (t : Timer) : (s.setLoadDelay t).lamps = s.lamps := rfl
@[simp] theorem State.setLoadDelay_path (t : Timer) : (s.setLoadDelay t).path = s.path := rfl
@[simp] theorem State.setLoadDelay_store (t : Timer) : (s.setLoadDelay t).store = s.store := rfl
@[simp] theorem State.setLoadDelay_cmd (t : Timer) : (s.setLoadDelay t).cmd = s.cmd := rfl
@[simp] theorem State.setLoadDelay_bus (t : Timer) : (s.setLoadDelay t).bus = s.bus := rfl
@[simp] theorem State.setLoadDelay_memory (t : Timer) : (s.setLoadDelay t).memory = s.memory := rfl
@[simp] theorem State.setLoadDelay_pending (t : Timer) : (s.setLoadDelay t).pending = s.pending := rfl
@[simp] theorem State.setLoadDelay_setLoadDelay (t t' : Timer) : (s.setLoadDelay t).setLoadDelay t' = s.setLoadDelay t' := rfl
@[simp] theorem State.setLoadDelay_self : s.setLoadDelay s.loadDelay = s := rfl

/-! ### setPins -/

@[simp] theorem State.setPins_phase (p : Pins) : (s.setPins p).phase = s.phase := rfl
@[simp] theorem State.setPins_loadDelay (p : Pins) : (s.setPins p).loadDelay = s.loadDelay := rfl
@[simp] theorem State.setPins_pins (p : Pins) : (s.setPins p).pins = p := rfl
@[simp] theorem State.setPins_front (p : Pins) : (s.setPins p).front = s.front := rfl
@[simp] theorem State.setPins_air (p : Pins) : (s.setPins p).air = s.air := rfl
@[simp] theorem State.setPins_filter (p : Pins) : (s.setPins p).filter = s.filter := rfl
@[simp] theorem State.setPins_dry (p : Pins) : (s.setPins p).dry = s.dry := rfl
@[simp] theorem State.setPins_tank (p : Pins) : (s.setPins p).tank = s.tank := rfl
@[simp] theorem State.setPins_notice (p : Pins) : (s.setPins p).notice = s.notice := rfl
@[simp] theorem State.setPins_lamps (p : Pins) : (s.setPins p).lamps = s.lamps := rfl
@[simp] theorem State.setPins_path (p : Pins) : (s.setPins p).path = s.path := rfl
@[simp] theorem State.setPins_store (p : Pins) : (s.setPins p).store = s.store := rfl
@[simp] theorem State.setPins_cmd (p : Pins) : (s.setPins p).cmd = s.cmd := rfl
@[simp] theorem State.setPins_bus (p : Pins) : (s.setPins p).bus = s.bus := rfl
@[simp] theorem State.setPins_memory (p : Pins) : (s.setPins p).memory = s.memory := rfl
@[simp] theorem State.setPins_pending (p : Pins) : (s.setPins p).pending = s.pending := rfl
@[simp] theorem State.setPins_setPins (p p' : Pins) : (s.setPins p).setPins p' = s.setPins p' := rfl
@[simp] theorem State.setPins_self : s.setPins s.pins = s := rfl

/-! ### setFront -/

@[simp] theorem State.setFront_phase (f : FrontEnd) : (s.setFront f).phase = s.phase := rfl
@[simp] theorem State.setFront_loadDelay (f : FrontEnd) : (s.setFront f).loadDelay = s.loadDelay := rfl
@[simp] theorem State.setFront_pins (f : FrontEnd) : (s.setFront f).pins = s.pins := rfl
@[simp] theorem State.setFront_front (f : FrontEnd) : (s.setFront f).front = f := rfl
@[simp] theorem State.setFront_air (f : FrontEnd) : (s.setFront f).air = s.air := rfl
@[simp] theorem State.setFront_filter (f : FrontEnd) : (s.setFront f).filter = s.filter := rfl
@[simp] theorem State.setFront_dry (f : FrontEnd) : (s.setFront f).dry = s.dry := rfl
@[simp] theorem State.setFront_tank (f : FrontEnd) : (s.setFront f).tank = s.tank := rfl
@[simp] theorem State.setFront_notice (f : FrontEnd) : (s.setFront f).notice = s.notice := rfl
@[simp] theorem State.setFront_lamps (f : FrontEnd) : (s.setFront f).lamps = s.lamps := rfl
@[simp] theorem State.setFront_path (f : FrontEnd) : (s.setFront f).path = s.path := rfl
@[simp] theorem State.setFront_store (f : FrontEnd) : (s.setFront f).store = s.store := rfl
@[simp] theorem State.setFront_cmd (f : FrontEnd) : (s.setFront f).cmd = s.cmd := rfl
@[simp] theorem State.setFront_bus (f : FrontEnd) : (s.setFront f).bus = s.bus := rfl
@[simp] theorem State.setFront_memory (f : FrontEnd) : (s.setFront f).memory = s.memory := rfl
@[simp] theorem State.setFront_pending (f : FrontEnd) : (s.setFront f).pending = s.pending := rfl
@[simp] theorem State.setFront_setFront (f f' : FrontEnd) : (s.setFront f).setFront f' = s.setFront f' := rfl
@[simp] theorem State.setFront_self : s.setFront s.front = s := rfl

/-! ### setAir -/

@[simp] theorem State.setAir_phase (a : AirMover) : (s.setAir a).phase = s.phase := rfl
@[simp] theorem State.setAir_loadDelay (a : AirMover) : (s.setAir a).loadDelay = s.loadDelay := rfl
@[simp] theorem State.setAir_pins (a : AirMover) : (s.setAir a).pins = s.pins := rfl
@[simp] theorem State.setAir_front (a : AirMover) : (s.setAir a).front = s.front := rfl
@[simp] theorem State.setAir_air (a : AirMover) : (s.setAir a).air = a := rfl
@[simp] theorem State.setAir_filter (a : AirMover) : (s.setAir a).filter = s.filter := rfl
@[simp] theorem State.setAir_dry (a : AirMover) : (s.setAir a).dry = s.dry := rfl
@[simp] theorem State.setAir_tank (a : AirMover) : (s.setAir a).tank = s.tank := rfl
@[simp] theorem State.setAir_notice (a : AirMover) : (s.setAir a).notice = s.notice := rfl
@[simp] theorem State.setAir_lamps (a : AirMover) : (s.setAir a).lamps = s.lamps := rfl
@[simp] theorem State.setAir_path (a : AirMover) : (s.setAir a).path = s.path := rfl
@[simp] theorem State.setAir_store (a : AirMover) : (s.setAir a).store = s.store := rfl
@[simp] theorem State.setAir_cmd (a : AirMover) : (s.setAir a).cmd = s.cmd := rfl
@[simp] theorem State.setAir_bus (a : AirMover) : (s.setAir a).bus = s.bus := rfl
@[simp] theorem State.setAir_memory (a : AirMover) : (s.setAir a).memory = s.memory := rfl
@[simp] theorem State.setAir_pending (a : AirMover) : (s.setAir a).pending = s.pending := rfl
@[simp] theorem State.setAir_setAir (a a' : AirMover) : (s.setAir a).setAir a' = s.setAir a' := rfl
@[simp] theorem State.setAir_self : s.setAir s.air = s := rfl

/-! ### setFilter -/

@[simp] theorem State.setFilter_phase (f : FilterState) : (s.setFilter f).phase = s.phase := rfl
@[simp] theorem State.setFilter_loadDelay (f : FilterState) : (s.setFilter f).loadDelay = s.loadDelay := rfl
@[simp] theorem State.setFilter_pins (f : FilterState) : (s.setFilter f).pins = s.pins := rfl
@[simp] theorem State.setFilter_front (f : FilterState) : (s.setFilter f).front = s.front := rfl
@[simp] theorem State.setFilter_air (f : FilterState) : (s.setFilter f).air = s.air := rfl
@[simp] theorem State.setFilter_filter (f : FilterState) : (s.setFilter f).filter = f := rfl
@[simp] theorem State.setFilter_dry (f : FilterState) : (s.setFilter f).dry = s.dry := rfl
@[simp] theorem State.setFilter_tank (f : FilterState) : (s.setFilter f).tank = s.tank := rfl
@[simp] theorem State.setFilter_notice (f : FilterState) : (s.setFilter f).notice = s.notice := rfl
@[simp] theorem State.setFilter_lamps (f : FilterState) : (s.setFilter f).lamps = s.lamps := rfl
@[simp] theorem State.setFilter_path (f : FilterState) : (s.setFilter f).path = s.path := rfl
@[simp] theorem State.setFilter_store (f : FilterState) : (s.setFilter f).store = s.store := rfl
@[simp] theorem State.setFilter_cmd (f : FilterState) : (s.setFilter f).cmd = s.cmd := rfl
@[simp] theorem State.setFilter_bus (f : FilterState) : (s.setFilter f).bus = s.bus := rfl
@[simp] theorem State.setFilter_memory (f : FilterState) : (s.setFilter f).memory = s.memory := rfl
@[simp] theorem State.setFilter_pending (f : FilterState) : (s.setFilter f).pending = s.pending := rfl
@[simp] theorem State.setFilter_setFilter (f f' : FilterState) : (s.setFilter f).setFilter f' = s.setFilter f' := rfl
@[simp] theorem State.setFilter_self : s.setFilter s.filter = s := rfl

/-! ### setDry -/

@[simp] theorem State.setDry_phase (d : Drying) : (s.setDry d).phase = s.phase := rfl
@[simp] theorem State.setDry_loadDelay (d : Drying) : (s.setDry d).loadDelay = s.loadDelay := rfl
@[simp] theorem State.setDry_pins (d : Drying) : (s.setDry d).pins = s.pins := rfl
@[simp] theorem State.setDry_front (d : Drying) : (s.setDry d).front = s.front := rfl
@[simp] theorem State.setDry_air (d : Drying) : (s.setDry d).air = s.air := rfl
@[simp] theorem State.setDry_filter (d : Drying) : (s.setDry d).filter = s.filter := rfl
@[simp] theorem State.setDry_dry (d : Drying) : (s.setDry d).dry = d := rfl
@[simp] theorem State.setDry_tank (d : Drying) : (s.setDry d).tank = s.tank := rfl
@[simp] theorem State.setDry_notice (d : Drying) : (s.setDry d).notice = s.notice := rfl
@[simp] theorem State.setDry_lamps (d : Drying) : (s.setDry d).lamps = s.lamps := rfl
@[simp] theorem State.setDry_path (d : Drying) : (s.setDry d).path = s.path := rfl
@[simp] theorem State.setDry_store (d : Drying) : (s.setDry d).store = s.store := rfl
@[simp] theorem State.setDry_cmd (d : Drying) : (s.setDry d).cmd = s.cmd := rfl
@[simp] theorem State.setDry_bus (d : Drying) : (s.setDry d).bus = s.bus := rfl
@[simp] theorem State.setDry_memory (d : Drying) : (s.setDry d).memory = s.memory := rfl
@[simp] theorem State.setDry_pending (d : Drying) : (s.setDry d).pending = s.pending := rfl
@[simp] theorem State.setDry_setDry (d d' : Drying) : (s.setDry d).setDry d' = s.setDry d' := rfl
@[simp] theorem State.setDry_self : s.setDry s.dry = s := rfl

/-! ### setTank -/

@[simp] theorem State.setTank_phase (t : TankBlock) : (s.setTank t).phase = s.phase := rfl
@[simp] theorem State.setTank_loadDelay (t : TankBlock) : (s.setTank t).loadDelay = s.loadDelay := rfl
@[simp] theorem State.setTank_pins (t : TankBlock) : (s.setTank t).pins = s.pins := rfl
@[simp] theorem State.setTank_front (t : TankBlock) : (s.setTank t).front = s.front := rfl
@[simp] theorem State.setTank_air (t : TankBlock) : (s.setTank t).air = s.air := rfl
@[simp] theorem State.setTank_filter (t : TankBlock) : (s.setTank t).filter = s.filter := rfl
@[simp] theorem State.setTank_dry (t : TankBlock) : (s.setTank t).dry = s.dry := rfl
@[simp] theorem State.setTank_tank (t : TankBlock) : (s.setTank t).tank = t := rfl
@[simp] theorem State.setTank_notice (t : TankBlock) : (s.setTank t).notice = s.notice := rfl
@[simp] theorem State.setTank_lamps (t : TankBlock) : (s.setTank t).lamps = s.lamps := rfl
@[simp] theorem State.setTank_path (t : TankBlock) : (s.setTank t).path = s.path := rfl
@[simp] theorem State.setTank_store (t : TankBlock) : (s.setTank t).store = s.store := rfl
@[simp] theorem State.setTank_cmd (t : TankBlock) : (s.setTank t).cmd = s.cmd := rfl
@[simp] theorem State.setTank_bus (t : TankBlock) : (s.setTank t).bus = s.bus := rfl
@[simp] theorem State.setTank_memory (t : TankBlock) : (s.setTank t).memory = s.memory := rfl
@[simp] theorem State.setTank_pending (t : TankBlock) : (s.setTank t).pending = s.pending := rfl
@[simp] theorem State.setTank_setTank (t t' : TankBlock) : (s.setTank t).setTank t' = s.setTank t' := rfl
@[simp] theorem State.setTank_self : s.setTank s.tank = s := rfl

/-! ### setNotice -/

@[simp] theorem State.setNotice_phase (n : NoticeUnit) : (s.setNotice n).phase = s.phase := rfl
@[simp] theorem State.setNotice_loadDelay (n : NoticeUnit) : (s.setNotice n).loadDelay = s.loadDelay := rfl
@[simp] theorem State.setNotice_pins (n : NoticeUnit) : (s.setNotice n).pins = s.pins := rfl
@[simp] theorem State.setNotice_front (n : NoticeUnit) : (s.setNotice n).front = s.front := rfl
@[simp] theorem State.setNotice_air (n : NoticeUnit) : (s.setNotice n).air = s.air := rfl
@[simp] theorem State.setNotice_filter (n : NoticeUnit) : (s.setNotice n).filter = s.filter := rfl
@[simp] theorem State.setNotice_dry (n : NoticeUnit) : (s.setNotice n).dry = s.dry := rfl
@[simp] theorem State.setNotice_tank (n : NoticeUnit) : (s.setNotice n).tank = s.tank := rfl
@[simp] theorem State.setNotice_notice (n : NoticeUnit) : (s.setNotice n).notice = n := rfl
@[simp] theorem State.setNotice_lamps (n : NoticeUnit) : (s.setNotice n).lamps = s.lamps := rfl
@[simp] theorem State.setNotice_path (n : NoticeUnit) : (s.setNotice n).path = s.path := rfl
@[simp] theorem State.setNotice_store (n : NoticeUnit) : (s.setNotice n).store = s.store := rfl
@[simp] theorem State.setNotice_cmd (n : NoticeUnit) : (s.setNotice n).cmd = s.cmd := rfl
@[simp] theorem State.setNotice_bus (n : NoticeUnit) : (s.setNotice n).bus = s.bus := rfl
@[simp] theorem State.setNotice_memory (n : NoticeUnit) : (s.setNotice n).memory = s.memory := rfl
@[simp] theorem State.setNotice_pending (n : NoticeUnit) : (s.setNotice n).pending = s.pending := rfl
@[simp] theorem State.setNotice_setNotice (n n' : NoticeUnit) : (s.setNotice n).setNotice n' = s.setNotice n' := rfl
@[simp] theorem State.setNotice_self : s.setNotice s.notice = s := rfl

/-! ### setLamps -/

@[simp] theorem State.setLamps_phase (l : LampEngine) : (s.setLamps l).phase = s.phase := rfl
@[simp] theorem State.setLamps_loadDelay (l : LampEngine) : (s.setLamps l).loadDelay = s.loadDelay := rfl
@[simp] theorem State.setLamps_pins (l : LampEngine) : (s.setLamps l).pins = s.pins := rfl
@[simp] theorem State.setLamps_front (l : LampEngine) : (s.setLamps l).front = s.front := rfl
@[simp] theorem State.setLamps_air (l : LampEngine) : (s.setLamps l).air = s.air := rfl
@[simp] theorem State.setLamps_filter (l : LampEngine) : (s.setLamps l).filter = s.filter := rfl
@[simp] theorem State.setLamps_dry (l : LampEngine) : (s.setLamps l).dry = s.dry := rfl
@[simp] theorem State.setLamps_tank (l : LampEngine) : (s.setLamps l).tank = s.tank := rfl
@[simp] theorem State.setLamps_notice (l : LampEngine) : (s.setLamps l).notice = s.notice := rfl
@[simp] theorem State.setLamps_lamps (l : LampEngine) : (s.setLamps l).lamps = l := rfl
@[simp] theorem State.setLamps_path (l : LampEngine) : (s.setLamps l).path = s.path := rfl
@[simp] theorem State.setLamps_store (l : LampEngine) : (s.setLamps l).store = s.store := rfl
@[simp] theorem State.setLamps_cmd (l : LampEngine) : (s.setLamps l).cmd = s.cmd := rfl
@[simp] theorem State.setLamps_bus (l : LampEngine) : (s.setLamps l).bus = s.bus := rfl
@[simp] theorem State.setLamps_memory (l : LampEngine) : (s.setLamps l).memory = s.memory := rfl
@[simp] theorem State.setLamps_pending (l : LampEngine) : (s.setLamps l).pending = s.pending := rfl
@[simp] theorem State.setLamps_setLamps (l l' : LampEngine) : (s.setLamps l).setLamps l' = s.setLamps l' := rfl
@[simp] theorem State.setLamps_self : s.setLamps s.lamps = s := rfl

/-! ### setPath -/

@[simp] theorem State.setPath_phase (p : MemoryPath) : (s.setPath p).phase = s.phase := rfl
@[simp] theorem State.setPath_loadDelay (p : MemoryPath) : (s.setPath p).loadDelay = s.loadDelay := rfl
@[simp] theorem State.setPath_pins (p : MemoryPath) : (s.setPath p).pins = s.pins := rfl
@[simp] theorem State.setPath_front (p : MemoryPath) : (s.setPath p).front = s.front := rfl
@[simp] theorem State.setPath_air (p : MemoryPath) : (s.setPath p).air = s.air := rfl
@[simp] theorem State.setPath_filter (p : MemoryPath) : (s.setPath p).filter = s.filter := rfl
@[simp] theorem State.setPath_dry (p : MemoryPath) : (s.setPath p).dry = s.dry := rfl
@[simp] theorem State.setPath_tank (p : MemoryPath) : (s.setPath p).tank = s.tank := rfl
@[simp] theorem State.setPath_notice (p : MemoryPath) : (s.setPath p).notice = s.notice := rfl
@[simp] theorem State.setPath_lamps (p : MemoryPath) : (s.setPath p).lamps = s.lamps := rfl
@[simp] theorem State.setPath_path (p : MemoryPath) : (s.setPath p).path = p := rfl
@[simp] theorem State.setPath_store (p : MemoryPath) : (s.setPath p).store = s.store := rfl
@[simp] theorem State.setPath_cmd (p : MemoryPath) : (s.setPath p).cmd = s.cmd := rfl
@[simp] theorem State.setPath_bus (p : MemoryPath) : (s.setPath p).bus = s.bus := rfl
@[simp] theorem State.setPath_memory (p : MemoryPath) : (s.setPath p).memory = s.memory := rfl
@[simp] theorem State.setPath_pending (p : MemoryPath) : (s.setPath p).pending = s.pending := rfl
@[simp] theorem State.setPath_setPath (p p' : MemoryPath) : (s.setPath p).setPath p' = s.setPath p' := rfl
@[simp] theorem State.setPath_self : s.setPath s.path = s := rfl

/-! ### setStore -/

@[simp] theorem State.setStore_phase (x : StoredImages) : (s.setStore x).phase = s.phase := rfl
@[simp] theorem State.setStore_loadDelay (x : StoredImages) : (s.setStore x).loadDelay = s.loadDelay := rfl
@[simp] theorem State.setStore_pins (x : StoredImages) : (s.setStore x).pins = s.pins := rfl
@[simp] theorem State.setStore_front (x : StoredImages) : (s.setStore x).front = s.front := rfl
@[simp] theorem State.setStore_air (x : StoredImages) : (s.setStore x).air = s.air := rfl
@[simp] theorem State.setStore_filter (x : StoredImages) : (s.setStore x).filter = s.filter := rfl
@[simp] theorem State.setStore_dry (x : StoredImages) : (s.setStore x).dry = s.dry := rfl
@[simp] theorem State.setStore_tank (x : StoredImages) : (s.setStore x).tank = s.tank := rfl
@[simp] theorem State.setStore_notice (x : StoredImages) : (s.setStore x).notice = s.notice := rfl
@[simp] theorem State.setStore_lamps (x : StoredImages) : (s.setStore x).lamps = s.lamps := rfl
@[simp] theorem State.setStore_path (x : StoredImages) : (s.setStore x).path = s.path := rfl
@[simp] theorem State.setStore_store (x : StoredImages) : (s.setStore x).store = x := rfl
@[simp] theorem State.setStore_cmd (x : StoredImages) : (s.setStore x).cmd = s.cmd := rfl
@[simp] theorem State.setStore_bus (x : StoredImages) : (s.setStore x).bus = s.bus := rfl
@[simp] theorem State.setStore_memory (x : StoredImages) : (s.setStore x).memory = s.memory := rfl
@[simp] theorem State.setStore_pending (x : StoredImages) : (s.setStore x).pending = s.pending := rfl
@[simp] theorem State.setStore_setStore (x x' : StoredImages) : (s.setStore x).setStore x' = s.setStore x' := rfl
@[simp] theorem State.setStore_self : s.setStore s.store = s := rfl

/-! ### setCmd -/

@[simp] theorem State.setCmd_phase (c : CommandBlock) : (s.setCmd c).phase = s.phase := rfl
@[simp] theorem State.setCmd_loadDelay (c : CommandBlock) : (s.setCmd c).loadDelay = s.loadDelay := rfl
@[simp] theorem State.setCmd_pins (c : CommandBlock) : (s.setCmd c).pins = s.pins := rfl
@[simp] theorem State.setCmd_front (c : CommandBlock) : (s.setCmd c).front = s.front := rfl
@[simp] theorem State.setCmd_air (c : CommandBlock) : (s.setCmd c).air = s.air := rfl
@[simp] theorem State.setCmd_filter (c : CommandBlock) : (s.setCmd c).filter = s.filter := rfl
@[simp] theorem State.setCmd_dry (c : CommandBlock) : (s.setCmd c).dry = s.dry := rfl
@[simp] theorem State.setCmd_tank (c : CommandBlock) : (s.setCmd c).tank = s.tank := rfl
@[simp] theorem State.setCmd_notice (c : CommandBlock) : (s.setCmd c).notice = s.notice := rfl
@[simp] theorem State.setCmd_lamps (c : CommandBlock) : (s.setCmd c).lamps = s.lamps := rfl
@[simp] theorem State.setCmd_path (c : CommandBlock) : (s.setCmd c).path = s.path := rfl
@[simp] theorem State.setCmd_store (c : CommandBlock) : (s.setCmd c).store = s.store := rfl
@[simp] theorem State.setCmd_cmd (c : CommandBlock) : (s.setCmd c).cmd = c := rfl
@[simp] theorem State.setCmd_bus (c : CommandBlock) : (s.setCmd c).bus = s.bus := rfl
@[simp] theorem State.setCmd_memory (c : CommandBlock) : (s.setCmd c).memory = s.memory := rfl
@[simp] theorem State.setCmd_pending (c : CommandBlock) : (s.setCmd c).pending = s.pending := rfl
@[simp] theorem State.setCmd_setCmd (c c' : CommandBlock) : (s.setCmd c).setCmd c' = s.setCmd c' := rfl
@[simp] theorem State.setCmd_self : s.setCmd s.cmd = s := rfl

/-! ### setBus -/

@[simp] theorem State.setBus_phase (b : BusCycle) : (s.setBus b).phase = s.phase := rfl
@[simp] theorem State.setBus_loadDelay (b : BusCycle) : (s.setBus b).loadDelay = s.loadDelay := rfl
@[simp] theorem State.setBus_pins (b : BusCycle) : (s.setBus b).pins = s.pins := rfl
@[simp] theorem State.setBus_front (b : BusCycle) : (s.setBus b).front = s.front := rfl
@[simp] theorem State.setBus_air (b : BusCycle) : (s.setBus b).air = s.air := rfl
@[simp] theorem State.setBus_filter (b : BusCycle) : (s.setBus b).filter = s.filter := rfl
@[simp] theorem State.setBus_dry (b : BusCycle) : (s.setBus b).dry = s.dry := rfl
@[simp] theorem State.setBus_tank (b : BusCycle) : (s.setBus b).tank = s.tank := rfl
@[simp] theorem State.setBus_notice (b : BusCycle) : (s.setBus b).notice = s.notice := rfl
@[simp] theorem State.setBus_lamps (b : BusCycle) : (s.setBus b).lamps = s.lamps := rfl
@[simp] theorem State.setBus_path (b : BusCycle) : (s.setBus b).path = s.path := rfl
@[simp] theorem State.setBus_store (b : BusCycle) : (s.setBus b).store = s.store := rfl
@[simp] theorem State.setBus_cmd (b : BusCycle) : (s.setBus b).cmd = s.cmd := rfl
@[simp] theorem State.setBus_bus (b : BusCycle) : (s.setBus b).bus = b := rfl
@[simp] theorem State.setBus_memory (b : BusCycle) : (s.setBus b).memory = s.memory := rfl
@[simp] theorem State.setBus_pending (b : BusCycle) : (s.setBus b).pending = s.pending := rfl
@[simp] theorem State.setBus_setBus (b b' : BusCycle) : (s.setBus b).setBus b' = s.setBus b' := rfl
@[simp] theorem State.setBus_self : s.setBus s.bus = s := rfl

/-! ### setMemory -/

@[simp] theorem State.setMemory_phase (m : Memory) : (s.setMemory m).phase = s.phase := rfl
@[simp] theorem State.setMemory_loadDelay (m : Memory) : (s.setMemory m).loadDelay = s.loadDelay := rfl
@[simp] theorem State.setMemory_pins (m : Memory) : (s.setMemory m).pins = s.pins := rfl
@[simp] theorem State.setMemory_front (m : Memory) : (s.setMemory m).front = s.front := rfl
@[simp] theorem State.setMemory_air (m : Memory) : (s.setMemory m).air = s.air := rfl
@[simp] theorem State.setMemory_filter (m : Memory) : (s.setMemory m).filter = s.filter := rfl
@[simp] theorem State.setMemory_dry (m : Memory) : (s.setMemory m).dry = s.dry := rfl
@[simp] theorem State.setMemory_tank (m : Memory) : (s.setMemory m).tank = s.tank := rfl
@[simp] theorem State.setMemory_notice (m : Memory) : (s.setMemory m).notice = s.notice := rfl
@[simp] theorem State.setMemory_lamps (m : Memory) : (s.setMemory m).lamps = s.lamps := rfl
@[simp] theorem State.setMemory_path (m : Memory) : (s.setMemory m).path = s.path := rfl
@[simp] theorem State.setMemory_store (m : Memory) : (s.setMemory m).store = s.store := rfl
@[simp] theorem State.setMemory_cmd (m : Memory) : (s.setMemory m).cmd = s.cmd := rfl
@[simp] theorem State.setMemory_bus (m : Memory) : (s.setMemory m).bus = s.bus := rfl
@[simp] theorem State.setMemory_memory (m : Memory) : (s.setMemory m).memory = m := rfl
@[simp] theorem State.setMemory_pending (m : Memory) : (s.setMemory m).pending = s.pending := rfl
@[simp] theorem State.setMemory_setMemory (m m' : Memory) : (s.setMemory m).setMemory m' = s.setMemory m' := rfl
@[simp] theorem State.setMemory_self : s.setMemory s.memory = s := rfl

/-! ### setPending -/

@[simp] theorem State.setPending_phase (q : List Instr) : (s.setPending q).phase = s.phase := rfl
@[simp] theorem State.setPending_loadDelay (q : List Instr) : (s.setPending q).loadDelay = s.loadDelay := rfl
@[simp] theorem State.setPending_pins (q : List Instr) : (s.setPending q).pins = s.pins := rfl
@[simp] theorem State.setPending_front (q : List Instr) : (s.setPending q).front = s.front := rfl
@[simp] theorem State.setPending_air (q : List Instr) : (s.setPending q).air = s.air := rfl
@[simp] theorem State.setPending_filter (q : List Instr) : (s.setPending q).filter = s.filter := rfl
@[simp] theorem State.setPending_dry (q : List Instr) : (s.setPending q).dry = s.dry := rfl
@[simp] theorem State.setPending_tank (q : List Instr) : (s.setPending q).tank = s.tank := rfl
@[simp] theorem State.setPending_notice (q : List Instr) : (s.setPending q).notice = s.notice := rfl
@[simp] theorem State.setPending_lamps (q : List Instr) : (s.setPending q).lamps = s.lamps := rfl
@[simp] theorem State.setPending_path (q : List Instr) : (s.setPending q).path = s.path := rfl
@[simp] theorem State.setPending_store (q : List Instr) : (s.setPending q).store = s.store := rfl
@[simp] theorem State.setPending_cmd (q : List Instr) : (s.setPending q).cmd = s.cmd := rfl
@[simp] theorem State.setPending_bus (q : List Instr) : (s.setPending q).bus = s.bus := rfl
@[simp] theorem State.setPending_memory (q : List Instr) : (s.setPending q).memory = s.memory := rfl
@[simp] theorem State.setPending_pending (q : List Instr) : (s.setPending q).pending = q := rfl
@[simp] theorem State.setPending_setPending (q q' : List Instr) : (s.setPending q).setPending q' = s.setPending q' := rfl
@[simp] theorem State.setPending_self : s.setPending s.pending = s := rfl

end Sys2Proof.Machine
end

