-- ==== Sys2Proof/Laws/Reports.lean ====
section
/-! SUPPORT. What the reports of the blocks never touch: the phase, the pins, the front end, the memory path, the bus record,
the memory and the queue of commands. One lemma per shared operation. -/

namespace Sys2Proof.Machine

@[simp] theorem raise_outside (f : Flag) (s : State) :
    (raise f s).phase = s.phase ∧ (raise f s).loadDelay = s.loadDelay ∧ (raise f s).pins = s.pins ∧ (raise f s).front = s.front
      ∧ (raise f s).path = s.path ∧ (raise f s).bus = s.bus ∧ (raise f s).memory = s.memory ∧ (raise f s).pending = s.pending := by
  simp [raise]

@[simp] theorem setCondition_outside (f : Flag) (b : Bool) (s : State) :
    (setCondition f b s).phase = s.phase ∧ (setCondition f b s).loadDelay = s.loadDelay ∧ (setCondition f b s).pins = s.pins ∧ (setCondition f b s).front = s.front
      ∧ (setCondition f b s).path = s.path ∧ (setCondition f b s).bus = s.bus ∧ (setCondition f b s).memory = s.memory ∧ (setCondition f b s).pending = s.pending := by
  simp [setCondition]

@[simp] theorem markChanged_outside (s : State) :
    (markChanged s).phase = s.phase ∧ (markChanged s).loadDelay = s.loadDelay ∧ (markChanged s).pins = s.pins ∧ (markChanged s).front = s.front
      ∧ (markChanged s).path = s.path ∧ (markChanged s).bus = s.bus ∧ (markChanged s).memory = s.memory ∧ (markChanged s).pending = s.pending := by
  simp [markChanged]

@[simp] theorem markIf_outside (b : Bool) (s : State) :
    (markIf b s).phase = s.phase ∧ (markIf b s).loadDelay = s.loadDelay ∧ (markIf b s).pins = s.pins ∧ (markIf b s).front = s.front
      ∧ (markIf b s).path = s.path ∧ (markIf b s).bus = s.bus ∧ (markIf b s).memory = s.memory ∧ (markIf b s).pending = s.pending := by
  unfold markIf
  repeat' split
  all_goals simp

@[simp] theorem requestJob_outside (j : Job) (s : State) :
    (requestJob j s).phase = s.phase ∧ (requestJob j s).loadDelay = s.loadDelay ∧ (requestJob j s).pins = s.pins ∧ (requestJob j s).front = s.front
      ∧ (requestJob j s).path = s.path ∧ (requestJob j s).bus = s.bus ∧ (requestJob j s).memory = s.memory ∧ (requestJob j s).pending = s.pending := by
  simp [requestJob]

@[simp] theorem requestUrgent_outside (s : State) :
    (requestUrgent s).phase = s.phase ∧ (requestUrgent s).loadDelay = s.loadDelay ∧ (requestUrgent s).pins = s.pins ∧ (requestUrgent s).front = s.front
      ∧ (requestUrgent s).path = s.path ∧ (requestUrgent s).bus = s.bus ∧ (requestUrgent s).memory = s.memory ∧ (requestUrgent s).pending = s.pending := by
  simp [requestUrgent]

@[simp] theorem updateLamps_outside (g : LampEngine → LampEngine) (s : State) :
    (updateLamps g s).phase = s.phase ∧ (updateLamps g s).loadDelay = s.loadDelay ∧ (updateLamps g s).pins = s.pins ∧ (updateLamps g s).front = s.front
      ∧ (updateLamps g s).path = s.path ∧ (updateLamps g s).bus = s.bus ∧ (updateLamps g s).memory = s.memory ∧ (updateLamps g s).pending = s.pending := by
  simp [updateLamps]

@[simp] theorem reportProgress_outside (p : Nat) (s : State) :
    (reportProgress p s).phase = s.phase ∧ (reportProgress p s).loadDelay = s.loadDelay ∧ (reportProgress p s).pins = s.pins ∧ (reportProgress p s).front = s.front
      ∧ (reportProgress p s).path = s.path ∧ (reportProgress p s).bus = s.bus ∧ (reportProgress p s).memory = s.memory ∧ (reportProgress p s).pending = s.pending := by
  simp [reportProgress]

@[simp] theorem measurePoint_outside (i : Nat) (s : State) :
    (measurePoint i s).phase = s.phase ∧ (measurePoint i s).loadDelay = s.loadDelay ∧ (measurePoint i s).pins = s.pins ∧ (measurePoint i s).front = s.front
      ∧ (measurePoint i s).path = s.path ∧ (measurePoint i s).bus = s.bus ∧ (measurePoint i s).memory = s.memory ∧ (measurePoint i s).pending = s.pending := by
  simp [measurePoint]

@[simp] theorem leaveWaiting_outside (s : State) :
    (leaveWaiting s).phase = s.phase ∧ (leaveWaiting s).loadDelay = s.loadDelay ∧ (leaveWaiting s).pins = s.pins ∧ (leaveWaiting s).front = s.front
      ∧ (leaveWaiting s).path = s.path ∧ (leaveWaiting s).bus = s.bus ∧ (leaveWaiting s).memory = s.memory ∧ (leaveWaiting s).pending = s.pending := by
  unfold leaveWaiting
  repeat' split
  all_goals simp

@[simp] theorem setComp_outside (c : CompState) (s : State) :
    (setComp c s).phase = s.phase ∧ (setComp c s).loadDelay = s.loadDelay ∧ (setComp c s).pins = s.pins ∧ (setComp c s).front = s.front
      ∧ (setComp c s).path = s.path ∧ (setComp c s).bus = s.bus ∧ (setComp c s).memory = s.memory ∧ (setComp c s).pending = s.pending := by
  simp [setComp]

@[simp] theorem judgeHold_outside (s : State) :
    (judgeHold s).phase = s.phase ∧ (judgeHold s).loadDelay = s.loadDelay ∧ (judgeHold s).pins = s.pins ∧ (judgeHold s).front = s.front
      ∧ (judgeHold s).path = s.path ∧ (judgeHold s).bus = s.bus ∧ (judgeHold s).memory = s.memory ∧ (judgeHold s).pending = s.pending := by
  unfold judgeHold
  repeat' split
  all_goals simp

@[simp] theorem judgeStart_outside (s : State) :
    (judgeStart s).phase = s.phase ∧ (judgeStart s).loadDelay = s.loadDelay ∧ (judgeStart s).pins = s.pins ∧ (judgeStart s).front = s.front
      ∧ (judgeStart s).path = s.path ∧ (judgeStart s).bus = s.bus ∧ (judgeStart s).memory = s.memory ∧ (judgeStart s).pending = s.pending := by
  unfold judgeStart
  repeat' split
  all_goals simp

@[simp] theorem stopCompressor_outside (s : State) :
    (stopCompressor s).phase = s.phase ∧ (stopCompressor s).loadDelay = s.loadDelay ∧ (stopCompressor s).pins = s.pins ∧ (stopCompressor s).front = s.front
      ∧ (stopCompressor s).path = s.path ∧ (stopCompressor s).bus = s.bus ∧ (stopCompressor s).memory = s.memory ∧ (stopCompressor s).pending = s.pending := by
  simp [stopCompressor]

@[simp] theorem immediateStop_outside (s : State) :
    (immediateStop s).phase = s.phase ∧ (immediateStop s).loadDelay = s.loadDelay ∧ (immediateStop s).pins = s.pins ∧ (immediateStop s).front = s.front
      ∧ (immediateStop s).path = s.path ∧ (immediateStop s).bus = s.bus ∧ (immediateStop s).memory = s.memory ∧ (immediateStop s).pending = s.pending := by
  unfold immediateStop
  repeat' split
  all_goals simp

@[simp] theorem judgeDeferred_outside (s : State) :
    (judgeDeferred s).phase = s.phase ∧ (judgeDeferred s).loadDelay = s.loadDelay ∧ (judgeDeferred s).pins = s.pins ∧ (judgeDeferred s).front = s.front
      ∧ (judgeDeferred s).path = s.path ∧ (judgeDeferred s).bus = s.bus ∧ (judgeDeferred s).memory = s.memory ∧ (judgeDeferred s).pending = s.pending := by
  unfold judgeDeferred
  repeat' split
  all_goals simp

@[simp] theorem judgeDrying_outside (s : State) :
    (judgeDrying s).phase = s.phase ∧ (judgeDrying s).loadDelay = s.loadDelay ∧ (judgeDrying s).pins = s.pins ∧ (judgeDrying s).front = s.front
      ∧ (judgeDrying s).path = s.path ∧ (judgeDrying s).bus = s.bus ∧ (judgeDrying s).memory = s.memory ∧ (judgeDrying s).pending = s.pending := by
  simp [judgeDrying]

@[simp] theorem evaluateDemand_outside (s : State) :
    (evaluateDemand s).phase = s.phase ∧ (evaluateDemand s).loadDelay = s.loadDelay ∧ (evaluateDemand s).pins = s.pins ∧ (evaluateDemand s).front = s.front
      ∧ (evaluateDemand s).path = s.path ∧ (evaluateDemand s).bus = s.bus ∧ (evaluateDemand s).memory = s.memory ∧ (evaluateDemand s).pending = s.pending := by
  simp [evaluateDemand]

@[simp] theorem setAllStop_outside (on : Bool) (s : State) :
    (setAllStop on s).phase = s.phase ∧ (setAllStop on s).loadDelay = s.loadDelay ∧ (setAllStop on s).pins = s.pins ∧ (setAllStop on s).front = s.front
      ∧ (setAllStop on s).path = s.path ∧ (setAllStop on s).bus = s.bus ∧ (setAllStop on s).memory = s.memory ∧ (setAllStop on s).pending = s.pending := by
  unfold setAllStop
  repeat' split
  all_goals simp

@[simp] theorem judgeAllStop_outside (s : State) :
    (judgeAllStop s).phase = s.phase ∧ (judgeAllStop s).loadDelay = s.loadDelay ∧ (judgeAllStop s).pins = s.pins ∧ (judgeAllStop s).front = s.front
      ∧ (judgeAllStop s).path = s.path ∧ (judgeAllStop s).bus = s.bus ∧ (judgeAllStop s).memory = s.memory ∧ (judgeAllStop s).pending = s.pending := by
  unfold judgeAllStop
  repeat' split
  all_goals simp

@[simp] theorem reportCondition_outside (f : Flag) (b : Bool) (s : State) :
    (reportCondition f b s).phase = s.phase ∧ (reportCondition f b s).loadDelay = s.loadDelay ∧ (reportCondition f b s).pins = s.pins ∧ (reportCondition f b s).front = s.front
      ∧ (reportCondition f b s).path = s.path ∧ (reportCondition f b s).bus = s.bus ∧ (reportCondition f b s).memory = s.memory ∧ (reportCondition f b s).pending = s.pending := by
  simp [reportCondition]

@[simp] theorem tellLearnPending_outside (b : Bool) (s : State) :
    (tellLearnPending b s).phase = s.phase ∧ (tellLearnPending b s).loadDelay = s.loadDelay ∧ (tellLearnPending b s).pins = s.pins ∧ (tellLearnPending b s).front = s.front
      ∧ (tellLearnPending b s).path = s.path ∧ (tellLearnPending b s).bus = s.bus ∧ (tellLearnPending b s).memory = s.memory ∧ (tellLearnPending b s).pending = s.pending := by
  simp [tellLearnPending]

@[simp] theorem startSweep_outside (s : State) :
    (startSweep s).phase = s.phase ∧ (startSweep s).loadDelay = s.loadDelay ∧ (startSweep s).pins = s.pins ∧ (startSweep s).front = s.front
      ∧ (startSweep s).path = s.path ∧ (startSweep s).bus = s.bus ∧ (startSweep s).memory = s.memory ∧ (startSweep s).pending = s.pending := by
  simp only [startSweep]
  repeat' split
  all_goals simp

@[simp] theorem abandonSweep_outside (s : State) :
    (abandonSweep s).phase = s.phase ∧ (abandonSweep s).loadDelay = s.loadDelay ∧ (abandonSweep s).pins = s.pins ∧ (abandonSweep s).front = s.front
      ∧ (abandonSweep s).path = s.path ∧ (abandonSweep s).bus = s.bus ∧ (abandonSweep s).memory = s.memory ∧ (abandonSweep s).pending = s.pending := by
  unfold abandonSweep
  repeat' split
  all_goals simp

@[simp] theorem reportRise_outside (st : Stage) (s : State) :
    (reportRise st s).phase = s.phase ∧ (reportRise st s).loadDelay = s.loadDelay ∧ (reportRise st s).pins = s.pins ∧ (reportRise st s).front = s.front
      ∧ (reportRise st s).path = s.path ∧ (reportRise st s).bus = s.bus ∧ (reportRise st s).memory = s.memory ∧ (reportRise st s).pending = s.pending := by
  unfold reportRise
  repeat' split
  all_goals simp

@[simp] theorem evaluateFilter_outside (s : State) :
    (evaluateFilter s).phase = s.phase ∧ (evaluateFilter s).loadDelay = s.loadDelay ∧ (evaluateFilter s).pins = s.pins ∧ (evaluateFilter s).front = s.front
      ∧ (evaluateFilter s).path = s.path ∧ (evaluateFilter s).bus = s.bus ∧ (evaluateFilter s).memory = s.memory ∧ (evaluateFilter s).pending = s.pending := by
  simp only [evaluateFilter]
  repeat' split
  all_goals simp

@[simp] theorem dosePeriod_outside (s : State) :
    (dosePeriod s).phase = s.phase ∧ (dosePeriod s).loadDelay = s.loadDelay ∧ (dosePeriod s).pins = s.pins ∧ (dosePeriod s).front = s.front
      ∧ (dosePeriod s).path = s.path ∧ (dosePeriod s).bus = s.bus ∧ (dosePeriod s).memory = s.memory ∧ (dosePeriod s).pending = s.pending := by
  simp [dosePeriod]

@[simp] theorem filterDoorReport_outside (isOpen : Bool) (s : State) :
    (filterDoorReport isOpen s).phase = s.phase ∧ (filterDoorReport isOpen s).loadDelay = s.loadDelay ∧ (filterDoorReport isOpen s).pins = s.pins ∧ (filterDoorReport isOpen s).front = s.front
      ∧ (filterDoorReport isOpen s).path = s.path ∧ (filterDoorReport isOpen s).bus = s.bus ∧ (filterDoorReport isOpen s).memory = s.memory ∧ (filterDoorReport isOpen s).pending = s.pending := by
  simp [filterDoorReport]

@[simp] theorem tripCompressor_outside (s : State) :
    (tripCompressor s).phase = s.phase ∧ (tripCompressor s).loadDelay = s.loadDelay ∧ (tripCompressor s).pins = s.pins ∧ (tripCompressor s).front = s.front
      ∧ (tripCompressor s).path = s.path ∧ (tripCompressor s).bus = s.bus ∧ (tripCompressor s).memory = s.memory ∧ (tripCompressor s).pending = s.pending := by
  simp only [tripCompressor]
  repeat' split
  all_goals simp

@[simp] theorem checkTrip_outside (s : State) :
    (checkTrip s).phase = s.phase ∧ (checkTrip s).loadDelay = s.loadDelay ∧ (checkTrip s).pins = s.pins ∧ (checkTrip s).front = s.front
      ∧ (checkTrip s).path = s.path ∧ (checkTrip s).bus = s.bus ∧ (checkTrip s).memory = s.memory ∧ (checkTrip s).pending = s.pending := by
  unfold checkTrip
  repeat' split
  all_goals simp

@[simp] theorem setWarning_outside (on : Bool) (s : State) :
    (setWarning on s).phase = s.phase ∧ (setWarning on s).loadDelay = s.loadDelay ∧ (setWarning on s).pins = s.pins ∧ (setWarning on s).front = s.front
      ∧ (setWarning on s).path = s.path ∧ (setWarning on s).bus = s.bus ∧ (setWarning on s).memory = s.memory ∧ (setWarning on s).pending = s.pending := by
  unfold setWarning
  repeat' split
  all_goals simp

@[simp] theorem checkWarning_outside (s : State) :
    (checkWarning s).phase = s.phase ∧ (checkWarning s).loadDelay = s.loadDelay ∧ (checkWarning s).pins = s.pins ∧ (checkWarning s).front = s.front
      ∧ (checkWarning s).path = s.path ∧ (checkWarning s).bus = s.bus ∧ (checkWarning s).memory = s.memory ∧ (checkWarning s).pending = s.pending := by
  unfold checkWarning
  repeat' split
  all_goals simp

@[simp] theorem enterDefrost_outside (s : State) :
    (enterDefrost s).phase = s.phase ∧ (enterDefrost s).loadDelay = s.loadDelay ∧ (enterDefrost s).pins = s.pins ∧ (enterDefrost s).front = s.front
      ∧ (enterDefrost s).path = s.path ∧ (enterDefrost s).bus = s.bus ∧ (enterDefrost s).memory = s.memory ∧ (enterDefrost s).pending = s.pending := by
  simp [enterDefrost]

@[simp] theorem endDefrost_outside (s : State) :
    (endDefrost s).phase = s.phase ∧ (endDefrost s).loadDelay = s.loadDelay ∧ (endDefrost s).pins = s.pins ∧ (endDefrost s).front = s.front
      ∧ (endDefrost s).path = s.path ∧ (endDefrost s).bus = s.bus ∧ (endDefrost s).memory = s.memory ∧ (endDefrost s).pending = s.pending := by
  simp [endDefrost]

@[simp] theorem checkDefrost_outside (s : State) :
    (checkDefrost s).phase = s.phase ∧ (checkDefrost s).loadDelay = s.loadDelay ∧ (checkDefrost s).pins = s.pins ∧ (checkDefrost s).front = s.front
      ∧ (checkDefrost s).path = s.path ∧ (checkDefrost s).bus = s.bus ∧ (checkDefrost s).memory = s.memory ∧ (checkDefrost s).pending = s.pending := by
  unfold checkDefrost
  repeat' split
  all_goals simp

@[simp] theorem dryingCheck_outside (s : State) :
    (dryingCheck s).phase = s.phase ∧ (dryingCheck s).loadDelay = s.loadDelay ∧ (dryingCheck s).pins = s.pins ∧ (dryingCheck s).front = s.front
      ∧ (dryingCheck s).path = s.path ∧ (dryingCheck s).bus = s.bus ∧ (dryingCheck s).memory = s.memory ∧ (dryingCheck s).pending = s.pending := by
  simp [dryingCheck]

@[simp] theorem enterRunning_outside (s : State) :
    (enterRunning s).phase = s.phase ∧ (enterRunning s).loadDelay = s.loadDelay ∧ (enterRunning s).pins = s.pins ∧ (enterRunning s).front = s.front
      ∧ (enterRunning s).path = s.path ∧ (enterRunning s).bus = s.bus ∧ (enterRunning s).memory = s.memory ∧ (enterRunning s).pending = s.pending := by
  simp [enterRunning]

@[simp] theorem airflowReport_outside (s : State) :
    (airflowReport s).phase = s.phase ∧ (airflowReport s).loadDelay = s.loadDelay ∧ (airflowReport s).pins = s.pins ∧ (airflowReport s).front = s.front
      ∧ (airflowReport s).path = s.path ∧ (airflowReport s).bus = s.bus ∧ (airflowReport s).memory = s.memory ∧ (airflowReport s).pending = s.pending := by
  unfold airflowReport
  repeat' split
  all_goals simp

@[simp] theorem offTimeExpiry_outside (s : State) :
    (offTimeExpiry s).phase = s.phase ∧ (offTimeExpiry s).loadDelay = s.loadDelay ∧ (offTimeExpiry s).pins = s.pins ∧ (offTimeExpiry s).front = s.front
      ∧ (offTimeExpiry s).path = s.path ∧ (offTimeExpiry s).bus = s.bus ∧ (offTimeExpiry s).memory = s.memory ∧ (offTimeExpiry s).pending = s.pending := by
  simp only [offTimeExpiry]
  repeat' split
  all_goals simp

@[simp] theorem confirmationExpiry_outside (s : State) :
    (confirmationExpiry s).phase = s.phase ∧ (confirmationExpiry s).loadDelay = s.loadDelay ∧ (confirmationExpiry s).pins = s.pins ∧ (confirmationExpiry s).front = s.front
      ∧ (confirmationExpiry s).path = s.path ∧ (confirmationExpiry s).bus = s.bus ∧ (confirmationExpiry s).memory = s.memory ∧ (confirmationExpiry s).pending = s.pending := by
  simp [confirmationExpiry]

@[simp] theorem extraHoldExpiry_outside (s : State) :
    (extraHoldExpiry s).phase = s.phase ∧ (extraHoldExpiry s).loadDelay = s.loadDelay ∧ (extraHoldExpiry s).pins = s.pins ∧ (extraHoldExpiry s).front = s.front
      ∧ (extraHoldExpiry s).path = s.path ∧ (extraHoldExpiry s).bus = s.bus ∧ (extraHoldExpiry s).memory = s.memory ∧ (extraHoldExpiry s).pending = s.pending := by
  simp [extraHoldExpiry]

@[simp] theorem defrostMaxExpiry_outside (s : State) :
    (defrostMaxExpiry s).phase = s.phase ∧ (defrostMaxExpiry s).loadDelay = s.loadDelay ∧ (defrostMaxExpiry s).pins = s.pins ∧ (defrostMaxExpiry s).front = s.front
      ∧ (defrostMaxExpiry s).path = s.path ∧ (defrostMaxExpiry s).bus = s.bus ∧ (defrostMaxExpiry s).memory = s.memory ∧ (defrostMaxExpiry s).pending = s.pending := by
  simp [defrostMaxExpiry]

@[simp] theorem dryingClearLockout_outside (s : State) :
    (dryingClearLockout s).phase = s.phase ∧ (dryingClearLockout s).loadDelay = s.loadDelay ∧ (dryingClearLockout s).pins = s.pins ∧ (dryingClearLockout s).front = s.front
      ∧ (dryingClearLockout s).path = s.path ∧ (dryingClearLockout s).bus = s.bus ∧ (dryingClearLockout s).memory = s.memory ∧ (dryingClearLockout s).pending = s.pending := by
  unfold dryingClearLockout
  repeat' split
  all_goals simp

@[simp] theorem dryingTankReport_outside (level : TankLevel) (s : State) :
    (dryingTankReport level s).phase = s.phase ∧ (dryingTankReport level s).loadDelay = s.loadDelay ∧ (dryingTankReport level s).pins = s.pins ∧ (dryingTankReport level s).front = s.front
      ∧ (dryingTankReport level s).path = s.path ∧ (dryingTankReport level s).bus = s.bus ∧ (dryingTankReport level s).memory = s.memory ∧ (dryingTankReport level s).pending = s.pending := by
  unfold dryingTankReport
  repeat' split
  all_goals simp

@[simp] theorem dryingDoorReport_outside (isOpen : Bool) (s : State) :
    (dryingDoorReport isOpen s).phase = s.phase ∧ (dryingDoorReport isOpen s).loadDelay = s.loadDelay ∧ (dryingDoorReport isOpen s).pins = s.pins ∧ (dryingDoorReport isOpen s).front = s.front
      ∧ (dryingDoorReport isOpen s).path = s.path ∧ (dryingDoorReport isOpen s).bus = s.bus ∧ (dryingDoorReport isOpen s).memory = s.memory ∧ (dryingDoorReport isOpen s).pending = s.pending := by
  unfold dryingDoorReport
  repeat' split
  all_goals simp

@[simp] theorem dryingSupplyReport_outside (low : Bool) (s : State) :
    (dryingSupplyReport low s).phase = s.phase ∧ (dryingSupplyReport low s).loadDelay = s.loadDelay ∧ (dryingSupplyReport low s).pins = s.pins ∧ (dryingSupplyReport low s).front = s.front
      ∧ (dryingSupplyReport low s).path = s.path ∧ (dryingSupplyReport low s).bus = s.bus ∧ (dryingSupplyReport low s).memory = s.memory ∧ (dryingSupplyReport low s).pending = s.pending := by
  simp [dryingSupplyReport]

@[simp] theorem dryingFanStall_outside (b : Bool) (s : State) :
    (dryingFanStall b s).phase = s.phase ∧ (dryingFanStall b s).loadDelay = s.loadDelay ∧ (dryingFanStall b s).pins = s.pins ∧ (dryingFanStall b s).front = s.front
      ∧ (dryingFanStall b s).path = s.path ∧ (dryingFanStall b s).bus = s.bus ∧ (dryingFanStall b s).memory = s.memory ∧ (dryingFanStall b s).pending = s.pending := by
  simp [dryingFanStall]

@[simp] theorem dryingModeReport_outside (m : ModeState) (s : State) :
    (dryingModeReport m s).phase = s.phase ∧ (dryingModeReport m s).loadDelay = s.loadDelay ∧ (dryingModeReport m s).pins = s.pins ∧ (dryingModeReport m s).front = s.front
      ∧ (dryingModeReport m s).path = s.path ∧ (dryingModeReport m s).bus = s.bus ∧ (dryingModeReport m s).memory = s.memory ∧ (dryingModeReport m s).pending = s.pending := by
  simp [dryingModeReport]

@[simp] theorem airWindowEnd_outside (p : Nat) (s : State) :
    (airWindowEnd p s).phase = s.phase ∧ (airWindowEnd p s).loadDelay = s.loadDelay ∧ (airWindowEnd p s).pins = s.pins ∧ (airWindowEnd p s).front = s.front
      ∧ (airWindowEnd p s).path = s.path ∧ (airWindowEnd p s).bus = s.bus ∧ (airWindowEnd p s).memory = s.memory ∧ (airWindowEnd p s).pending = s.pending := by
  simp [airWindowEnd]

@[simp] theorem airModeReport_outside (m : ModeState) (s : State) :
    (airModeReport m s).phase = s.phase ∧ (airModeReport m s).loadDelay = s.loadDelay ∧ (airModeReport m s).pins = s.pins ∧ (airModeReport m s).front = s.front
      ∧ (airModeReport m s).path = s.path ∧ (airModeReport m s).bus = s.bus ∧ (airModeReport m s).memory = s.memory ∧ (airModeReport m s).pending = s.pending := by
  simp [airModeReport]

@[simp] theorem airDoorReport_outside (isOpen : Bool) (s : State) :
    (airDoorReport isOpen s).phase = s.phase ∧ (airDoorReport isOpen s).loadDelay = s.loadDelay ∧ (airDoorReport isOpen s).pins = s.pins ∧ (airDoorReport isOpen s).front = s.front
      ∧ (airDoorReport isOpen s).path = s.path ∧ (airDoorReport isOpen s).bus = s.bus ∧ (airDoorReport isOpen s).memory = s.memory ∧ (airDoorReport isOpen s).pending = s.pending := by
  simp only [airDoorReport]
  repeat' split
  all_goals simp

@[simp] theorem airSupplyReport_outside (low : Bool) (s : State) :
    (airSupplyReport low s).phase = s.phase ∧ (airSupplyReport low s).loadDelay = s.loadDelay ∧ (airSupplyReport low s).pins = s.pins ∧ (airSupplyReport low s).front = s.front
      ∧ (airSupplyReport low s).path = s.path ∧ (airSupplyReport low s).bus = s.bus ∧ (airSupplyReport low s).memory = s.memory ∧ (airSupplyReport low s).pending = s.pending := by
  simp [airSupplyReport]

@[simp] theorem airClearLockout_outside (s : State) :
    (airClearLockout s).phase = s.phase ∧ (airClearLockout s).loadDelay = s.loadDelay ∧ (airClearLockout s).pins = s.pins ∧ (airClearLockout s).front = s.front
      ∧ (airClearLockout s).path = s.path ∧ (airClearLockout s).bus = s.bus ∧ (airClearLockout s).memory = s.memory ∧ (airClearLockout s).pending = s.pending := by
  unfold airClearLockout
  repeat' split
  all_goals simp

@[simp] theorem reportFanStall_outside (b : Bool) (s : State) :
    (reportFanStall b s).phase = s.phase ∧ (reportFanStall b s).loadDelay = s.loadDelay ∧ (reportFanStall b s).pins = s.pins ∧ (reportFanStall b s).front = s.front
      ∧ (reportFanStall b s).path = s.path ∧ (reportFanStall b s).bus = s.bus ∧ (reportFanStall b s).memory = s.memory ∧ (reportFanStall b s).pending = s.pending := by
  simp [reportFanStall]

@[simp] theorem declareStall_outside (s : State) :
    (declareStall s).phase = s.phase ∧ (declareStall s).loadDelay = s.loadDelay ∧ (declareStall s).pins = s.pins ∧ (declareStall s).front = s.front
      ∧ (declareStall s).path = s.path ∧ (declareStall s).bus = s.bus ∧ (declareStall s).memory = s.memory ∧ (declareStall s).pending = s.pending := by
  simp only [declareStall]
  repeat' split
  all_goals simp

@[simp] theorem completeCleanRun_outside (s : State) :
    (completeCleanRun s).phase = s.phase ∧ (completeCleanRun s).loadDelay = s.loadDelay ∧ (completeCleanRun s).pins = s.pins ∧ (completeCleanRun s).front = s.front
      ∧ (completeCleanRun s).path = s.path ∧ (completeCleanRun s).bus = s.bus ∧ (completeCleanRun s).memory = s.memory ∧ (completeCleanRun s).pending = s.pending := by
  simp [completeCleanRun]

@[simp] theorem stallCheck_outside (s : State) :
    (stallCheck s).phase = s.phase ∧ (stallCheck s).loadDelay = s.loadDelay ∧ (stallCheck s).pins = s.pins ∧ (stallCheck s).front = s.front
      ∧ (stallCheck s).path = s.path ∧ (stallCheck s).bus = s.bus ∧ (stallCheck s).memory = s.memory ∧ (stallCheck s).pending = s.pending := by
  simp only [stallCheck]
  repeat' split
  all_goals simp

@[simp] theorem airflowPeriod_outside (s : State) :
    (airflowPeriod s).phase = s.phase ∧ (airflowPeriod s).loadDelay = s.loadDelay ∧ (airflowPeriod s).pins = s.pins ∧ (airflowPeriod s).front = s.front
      ∧ (airflowPeriod s).path = s.path ∧ (airflowPeriod s).bus = s.bus ∧ (airflowPeriod s).memory = s.memory ∧ (airflowPeriod s).pending = s.pending := by
  simp only [airflowPeriod]
  repeat' split
  all_goals simp

@[simp] theorem completeSweep_outside (r : List Nat) (s : State) :
    (completeSweep r s).phase = s.phase ∧ (completeSweep r s).loadDelay = s.loadDelay ∧ (completeSweep r s).pins = s.pins ∧ (completeSweep r s).front = s.front
      ∧ (completeSweep r s).path = s.path ∧ (completeSweep r s).bus = s.bus ∧ (completeSweep r s).memory = s.memory ∧ (completeSweep r s).pending = s.pending := by
  simp [completeSweep]

@[simp] theorem placeResult_outside (i : Nat) (taken : List Nat) (s : State) :
    (placeResult i taken s).phase = s.phase ∧ (placeResult i taken s).loadDelay = s.loadDelay ∧ (placeResult i taken s).pins = s.pins ∧ (placeResult i taken s).front = s.front
      ∧ (placeResult i taken s).path = s.path ∧ (placeResult i taken s).bus = s.bus ∧ (placeResult i taken s).memory = s.memory ∧ (placeResult i taken s).pending = s.pending := by
  simp only [placeResult]
  repeat' split
  all_goals simp

@[simp] theorem learnHoldExpiry_outside (s : State) :
    (learnHoldExpiry s).phase = s.phase ∧ (learnHoldExpiry s).loadDelay = s.loadDelay ∧ (learnHoldExpiry s).pins = s.pins ∧ (learnHoldExpiry s).front = s.front
      ∧ (learnHoldExpiry s).path = s.path ∧ (learnHoldExpiry s).bus = s.bus ∧ (learnHoldExpiry s).memory = s.memory ∧ (learnHoldExpiry s).pending = s.pending := by
  unfold learnHoldExpiry
  repeat' split
  all_goals simp

@[simp] theorem learnReading_outside (s : State) :
    (learnReading s).phase = s.phase ∧ (learnReading s).loadDelay = s.loadDelay ∧ (learnReading s).pins = s.pins ∧ (learnReading s).front = s.front
      ∧ (learnReading s).path = s.path ∧ (learnReading s).bus = s.bus ∧ (learnReading s).memory = s.memory ∧ (learnReading s).pending = s.pending := by
  simp only [learnReading]
  repeat' split
  all_goals simp

@[simp] theorem reportChange_outside (f : Flag) (b : Bool) (s : State) :
    (reportChange f b s).phase = s.phase ∧ (reportChange f b s).loadDelay = s.loadDelay ∧ (reportChange f b s).pins = s.pins ∧ (reportChange f b s).front = s.front
      ∧ (reportChange f b s).path = s.path ∧ (reportChange f b s).bus = s.bus ∧ (reportChange f b s).memory = s.memory ∧ (reportChange f b s).pending = s.pending := by
  unfold reportChange
  repeat' split
  all_goals simp

@[simp] theorem tankReports_outside (before : TankBlock) (e : TankEvent) (forced : Bool) (s : State) :
    (tankReports before e forced s).phase = s.phase ∧ (tankReports before e forced s).loadDelay = s.loadDelay ∧ (tankReports before e forced s).pins = s.pins ∧ (tankReports before e forced s).front = s.front
      ∧ (tankReports before e forced s).path = s.path ∧ (tankReports before e forced s).bus = s.bus ∧ (tankReports before e forced s).memory = s.memory ∧ (tankReports before e forced s).pending = s.pending := by
  simp only [tankReports]
  repeat' split
  all_goals simp

@[simp] theorem tankEvent_outside (e : TankEvent) (s : State) :
    (tankEvent e s).phase = s.phase ∧ (tankEvent e s).loadDelay = s.loadDelay ∧ (tankEvent e s).pins = s.pins ∧ (tankEvent e s).front = s.front
      ∧ (tankEvent e s).path = s.path ∧ (tankEvent e s).bus = s.bus ∧ (tankEvent e s).memory = s.memory ∧ (tankEvent e s).pending = s.pending := by
  simp only [tankEvent]
  repeat' split
  all_goals simp

@[simp] theorem runSecondExpiry_outside (s : State) :
    (runSecondExpiry s).phase = s.phase ∧ (runSecondExpiry s).loadDelay = s.loadDelay ∧ (runSecondExpiry s).pins = s.pins ∧ (runSecondExpiry s).front = s.front
      ∧ (runSecondExpiry s).path = s.path ∧ (runSecondExpiry s).bus = s.bus ∧ (runSecondExpiry s).memory = s.memory ∧ (runSecondExpiry s).pending = s.pending := by
  simp only [runSecondExpiry]
  repeat' split
  all_goals simp

@[simp] theorem doorReport_outside (isOpen : Bool) (s : State) :
    (doorReport isOpen s).phase = s.phase ∧ (doorReport isOpen s).loadDelay = s.loadDelay ∧ (doorReport isOpen s).pins = s.pins ∧ (doorReport isOpen s).front = s.front
      ∧ (doorReport isOpen s).path = s.path ∧ (doorReport isOpen s).bus = s.bus ∧ (doorReport isOpen s).memory = s.memory ∧ (doorReport isOpen s).pending = s.pending := by
  simp [doorReport]

@[simp] theorem switchReport_outside (sw : Switch) (b : Bool) (s : State) :
    (switchReport sw b s).phase = s.phase ∧ (switchReport sw b s).loadDelay = s.loadDelay ∧ (switchReport sw b s).pins = s.pins ∧ (switchReport sw b s).front = s.front
      ∧ (switchReport sw b s).path = s.path ∧ (switchReport sw b s).bus = s.bus ∧ (switchReport sw b s).memory = s.memory ∧ (switchReport sw b s).pending = s.pending := by
  unfold switchReport
  repeat' split
  all_goals simp

@[simp] theorem judgeLoadedFilter_outside (s : State) :
    (judgeLoadedFilter s).phase = s.phase ∧ (judgeLoadedFilter s).loadDelay = s.loadDelay ∧ (judgeLoadedFilter s).pins = s.pins ∧ (judgeLoadedFilter s).front = s.front
      ∧ (judgeLoadedFilter s).path = s.path ∧ (judgeLoadedFilter s).bus = s.bus ∧ (judgeLoadedFilter s).memory = s.memory ∧ (judgeLoadedFilter s).pending = s.pending := by
  simp [judgeLoadedFilter]

@[simp] theorem clearFilter_outside (s : State) :
    (clearFilter s).phase = s.phase ∧ (clearFilter s).loadDelay = s.loadDelay ∧ (clearFilter s).pins = s.pins ∧ (clearFilter s).front = s.front
      ∧ (clearFilter s).path = s.path ∧ (clearFilter s).bus = s.bus ∧ (clearFilter s).memory = s.memory ∧ (clearFilter s).pending = s.pending := by
  simp [clearFilter]

@[simp] theorem setpointWritten_outside (m : ModeState) (s : State) :
    (setpointWritten m s).phase = s.phase ∧ (setpointWritten m s).loadDelay = s.loadDelay ∧ (setpointWritten m s).pins = s.pins ∧ (setpointWritten m s).front = s.front
      ∧ (setpointWritten m s).path = s.path ∧ (setpointWritten m s).bus = s.bus ∧ (setpointWritten m s).memory = s.memory ∧ (setpointWritten m s).pending = s.pending := by
  unfold setpointWritten
  repeat' split
  all_goals simp

end Sys2Proof.Machine
end

