-- ==== Sys2Proof/Laws/Keeps.lean ====
section
/-! SUPPORT. Which blocks each report leaves as they are. One lemma per shared operation. -/

namespace Sys2Proof.Machine

@[simp] theorem raise_keeps (f : Flag) (s : State) :
    (raise f s).air = s.air ∧ (raise f s).filter = s.filter ∧ (raise f s).dry = s.dry ∧ (raise f s).tank = s.tank ∧ (raise f s).lamps = s.lamps ∧ (raise f s).store = s.store ∧ (raise f s).cmd = s.cmd := by
  simp [raise]

@[simp] theorem setCondition_keeps (f : Flag) (b : Bool) (s : State) :
    (setCondition f b s).air = s.air ∧ (setCondition f b s).filter = s.filter ∧ (setCondition f b s).dry = s.dry ∧ (setCondition f b s).tank = s.tank ∧ (setCondition f b s).lamps = s.lamps ∧ (setCondition f b s).store = s.store ∧ (setCondition f b s).cmd = s.cmd := by
  simp [setCondition]

@[simp] theorem markChanged_keeps (s : State) :
    (markChanged s).air = s.air ∧ (markChanged s).filter = s.filter ∧ (markChanged s).dry = s.dry ∧ (markChanged s).tank = s.tank ∧ (markChanged s).notice = s.notice ∧ (markChanged s).lamps = s.lamps ∧ (markChanged s).cmd = s.cmd := by
  simp [markChanged]

@[simp] theorem markIf_keeps (b : Bool) (s : State) :
    (markIf b s).air = s.air ∧ (markIf b s).filter = s.filter ∧ (markIf b s).dry = s.dry ∧ (markIf b s).tank = s.tank ∧ (markIf b s).notice = s.notice ∧ (markIf b s).lamps = s.lamps ∧ (markIf b s).cmd = s.cmd := by
  unfold markIf
  repeat' split
  all_goals simp

@[simp] theorem requestJob_keeps (j : Job) (s : State) :
    (requestJob j s).air = s.air ∧ (requestJob j s).filter = s.filter ∧ (requestJob j s).dry = s.dry ∧ (requestJob j s).tank = s.tank ∧ (requestJob j s).notice = s.notice ∧ (requestJob j s).lamps = s.lamps ∧ (requestJob j s).cmd = s.cmd := by
  simp [requestJob]

@[simp] theorem requestUrgent_keeps (s : State) :
    (requestUrgent s).air = s.air ∧ (requestUrgent s).filter = s.filter ∧ (requestUrgent s).dry = s.dry ∧ (requestUrgent s).tank = s.tank ∧ (requestUrgent s).notice = s.notice ∧ (requestUrgent s).lamps = s.lamps ∧ (requestUrgent s).cmd = s.cmd := by
  simp [requestUrgent]

@[simp] theorem updateLamps_keeps (g : LampEngine → LampEngine) (s : State) :
    (updateLamps g s).air = s.air ∧ (updateLamps g s).filter = s.filter ∧ (updateLamps g s).dry = s.dry ∧ (updateLamps g s).tank = s.tank ∧ (updateLamps g s).notice = s.notice ∧ (updateLamps g s).store = s.store ∧ (updateLamps g s).cmd = s.cmd := by
  simp [updateLamps]

@[simp] theorem reportProgress_keeps (p : Nat) (s : State) :
    (reportProgress p s).air = s.air ∧ (reportProgress p s).filter = s.filter ∧ (reportProgress p s).dry = s.dry ∧ (reportProgress p s).tank = s.tank ∧ (reportProgress p s).notice = s.notice ∧ (reportProgress p s).store = s.store := by
  simp [reportProgress]

@[simp] theorem measurePoint_keeps (i : Nat) (s : State) :
    (measurePoint i s).filter = s.filter ∧ (measurePoint i s).dry = s.dry ∧ (measurePoint i s).tank = s.tank ∧ (measurePoint i s).notice = s.notice ∧ (measurePoint i s).store = s.store := by
  simp [measurePoint]

@[simp] theorem leaveWaiting_keeps (s : State) :
    (leaveWaiting s).filter = s.filter ∧ (leaveWaiting s).dry = s.dry ∧ (leaveWaiting s).tank = s.tank ∧ (leaveWaiting s).notice = s.notice ∧ (leaveWaiting s).store = s.store := by
  unfold leaveWaiting
  repeat' split
  all_goals simp

@[simp] theorem setComp_keeps (c : CompState) (s : State) :
    (setComp c s).filter = s.filter ∧ (setComp c s).tank = s.tank ∧ (setComp c s).notice = s.notice ∧ (setComp c s).store = s.store := by
  simp [setComp]

@[simp] theorem judgeHold_keeps (s : State) :
    (judgeHold s).filter = s.filter ∧ (judgeHold s).tank = s.tank ∧ (judgeHold s).notice = s.notice ∧ (judgeHold s).store = s.store := by
  unfold judgeHold
  repeat' split
  all_goals simp

@[simp] theorem judgeStart_keeps (s : State) :
    (judgeStart s).filter = s.filter ∧ (judgeStart s).tank = s.tank ∧ (judgeStart s).notice = s.notice ∧ (judgeStart s).store = s.store := by
  unfold judgeStart
  repeat' split
  all_goals simp

@[simp] theorem stopCompressor_keeps (s : State) :
    (stopCompressor s).filter = s.filter ∧ (stopCompressor s).tank = s.tank ∧ (stopCompressor s).notice = s.notice ∧ (stopCompressor s).store = s.store := by
  simp [stopCompressor]

@[simp] theorem immediateStop_keeps (s : State) :
    (immediateStop s).filter = s.filter ∧ (immediateStop s).tank = s.tank ∧ (immediateStop s).notice = s.notice ∧ (immediateStop s).store = s.store := by
  unfold immediateStop
  repeat' split
  all_goals simp

@[simp] theorem judgeDeferred_keeps (s : State) :
    (judgeDeferred s).filter = s.filter ∧ (judgeDeferred s).tank = s.tank ∧ (judgeDeferred s).notice = s.notice ∧ (judgeDeferred s).store = s.store := by
  unfold judgeDeferred
  repeat' split
  all_goals simp

@[simp] theorem judgeDrying_keeps (s : State) :
    (judgeDrying s).filter = s.filter ∧ (judgeDrying s).tank = s.tank ∧ (judgeDrying s).notice = s.notice ∧ (judgeDrying s).store = s.store := by
  simp [judgeDrying]

@[simp] theorem evaluateDemand_keeps (s : State) :
    (evaluateDemand s).air = s.air ∧ (evaluateDemand s).filter = s.filter ∧ (evaluateDemand s).tank = s.tank ∧ (evaluateDemand s).notice = s.notice ∧ (evaluateDemand s).lamps = s.lamps ∧ (evaluateDemand s).store = s.store ∧ (evaluateDemand s).cmd = s.cmd := by
  simp [evaluateDemand]

@[simp] theorem setAllStop_keeps (on : Bool) (s : State) :
    (setAllStop on s).filter = s.filter ∧ (setAllStop on s).tank = s.tank ∧ (setAllStop on s).notice = s.notice ∧ (setAllStop on s).store = s.store := by
  unfold setAllStop
  repeat' split
  all_goals simp

@[simp] theorem judgeAllStop_keeps (s : State) :
    (judgeAllStop s).filter = s.filter ∧ (judgeAllStop s).tank = s.tank ∧ (judgeAllStop s).notice = s.notice ∧ (judgeAllStop s).store = s.store := by
  unfold judgeAllStop
  repeat' split
  all_goals simp

@[simp] theorem reportCondition_keeps (f : Flag) (b : Bool) (s : State) :
    (reportCondition f b s).filter = s.filter ∧ (reportCondition f b s).tank = s.tank ∧ (reportCondition f b s).store = s.store := by
  simp [reportCondition]

@[simp] theorem tellLearnPending_keeps (b : Bool) (s : State) :
    (tellLearnPending b s).filter = s.filter ∧ (tellLearnPending b s).tank = s.tank ∧ (tellLearnPending b s).notice = s.notice ∧ (tellLearnPending b s).store = s.store := by
  simp [tellLearnPending]

@[simp] theorem startSweep_keeps (s : State) :
    (startSweep s).filter = s.filter ∧ (startSweep s).tank = s.tank ∧ (startSweep s).notice = s.notice ∧ (startSweep s).store = s.store := by
  simp only [startSweep]
  repeat' split
  all_goals simp

@[simp] theorem abandonSweep_keeps (s : State) :
    (abandonSweep s).filter = s.filter ∧ (abandonSweep s).tank = s.tank ∧ (abandonSweep s).store = s.store := by
  unfold abandonSweep
  repeat' split
  all_goals simp

@[simp] theorem reportRise_keeps (st : Stage) (s : State) :
    (reportRise st s).filter = s.filter ∧ (reportRise st s).tank = s.tank := by
  unfold reportRise
  repeat' split
  all_goals simp

@[simp] theorem evaluateFilter_keeps (s : State) :
    (evaluateFilter s).tank = s.tank := by
  simp only [evaluateFilter]
  repeat' split
  all_goals simp

@[simp] theorem dosePeriod_keeps (s : State) :
    (dosePeriod s).tank = s.tank := by
  simp [dosePeriod]

@[simp] theorem filterDoorReport_keeps (isOpen : Bool) (s : State) :
    (filterDoorReport isOpen s).tank = s.tank ∧ (filterDoorReport isOpen s).store = s.store := by
  simp [filterDoorReport]

@[simp] theorem tripCompressor_keeps (s : State) :
    (tripCompressor s).filter = s.filter ∧ (tripCompressor s).tank = s.tank := by
  simp only [tripCompressor]
  repeat' split
  all_goals simp

@[simp] theorem checkTrip_keeps (s : State) :
    (checkTrip s).filter = s.filter ∧ (checkTrip s).tank = s.tank := by
  unfold checkTrip
  repeat' split
  all_goals simp

@[simp] theorem setWarning_keeps (on : Bool) (s : State) :
    (setWarning on s).filter = s.filter ∧ (setWarning on s).tank = s.tank ∧ (setWarning on s).lamps = s.lamps ∧ (setWarning on s).store = s.store ∧ (setWarning on s).cmd = s.cmd := by
  unfold setWarning
  repeat' split
  all_goals simp

@[simp] theorem checkWarning_keeps (s : State) :
    (checkWarning s).filter = s.filter ∧ (checkWarning s).tank = s.tank ∧ (checkWarning s).lamps = s.lamps ∧ (checkWarning s).store = s.store ∧ (checkWarning s).cmd = s.cmd := by
  unfold checkWarning
  repeat' split
  all_goals simp

@[simp] theorem enterDefrost_keeps (s : State) :
    (enterDefrost s).filter = s.filter ∧ (enterDefrost s).tank = s.tank ∧ (enterDefrost s).notice = s.notice := by
  simp [enterDefrost]

@[simp] theorem endDefrost_keeps (s : State) :
    (endDefrost s).filter = s.filter ∧ (endDefrost s).tank = s.tank ∧ (endDefrost s).notice = s.notice ∧ (endDefrost s).store = s.store := by
  simp [endDefrost]

@[simp] theorem checkDefrost_keeps (s : State) :
    (checkDefrost s).filter = s.filter ∧ (checkDefrost s).tank = s.tank ∧ (checkDefrost s).notice = s.notice := by
  unfold checkDefrost
  repeat' split
  all_goals simp

@[simp] theorem dryingCheck_keeps (s : State) :
    (dryingCheck s).filter = s.filter ∧ (dryingCheck s).tank = s.tank := by
  simp [dryingCheck]

@[simp] theorem enterRunning_keeps (s : State) :
    (enterRunning s).filter = s.filter ∧ (enterRunning s).tank = s.tank ∧ (enterRunning s).notice = s.notice := by
  simp [enterRunning]

@[simp] theorem airflowReport_keeps (s : State) :
    (airflowReport s).filter = s.filter ∧ (airflowReport s).tank = s.tank := by
  unfold airflowReport
  repeat' split
  all_goals simp

@[simp] theorem offTimeExpiry_keeps (s : State) :
    (offTimeExpiry s).filter = s.filter ∧ (offTimeExpiry s).tank = s.tank ∧ (offTimeExpiry s).notice = s.notice ∧ (offTimeExpiry s).store = s.store := by
  simp only [offTimeExpiry]
  repeat' split
  all_goals simp

@[simp] theorem confirmationExpiry_keeps (s : State) :
    (confirmationExpiry s).filter = s.filter ∧ (confirmationExpiry s).tank = s.tank ∧ (confirmationExpiry s).store = s.store := by
  simp [confirmationExpiry]

@[simp] theorem extraHoldExpiry_keeps (s : State) :
    (extraHoldExpiry s).filter = s.filter ∧ (extraHoldExpiry s).tank = s.tank ∧ (extraHoldExpiry s).notice = s.notice ∧ (extraHoldExpiry s).store = s.store := by
  simp [extraHoldExpiry]

@[simp] theorem defrostMaxExpiry_keeps (s : State) :
    (defrostMaxExpiry s).filter = s.filter ∧ (defrostMaxExpiry s).tank = s.tank ∧ (defrostMaxExpiry s).store = s.store := by
  simp [defrostMaxExpiry]

@[simp] theorem dryingClearLockout_keeps (s : State) :
    (dryingClearLockout s).filter = s.filter ∧ (dryingClearLockout s).tank = s.tank ∧ (dryingClearLockout s).store = s.store := by
  unfold dryingClearLockout
  repeat' split
  all_goals simp

@[simp] theorem dryingTankReport_keeps (level : TankLevel) (s : State) :
    (dryingTankReport level s).filter = s.filter ∧ (dryingTankReport level s).tank = s.tank ∧ (dryingTankReport level s).notice = s.notice ∧ (dryingTankReport level s).store = s.store := by
  unfold dryingTankReport
  repeat' split
  all_goals simp

@[simp] theorem dryingDoorReport_keeps (isOpen : Bool) (s : State) :
    (dryingDoorReport isOpen s).filter = s.filter ∧ (dryingDoorReport isOpen s).tank = s.tank ∧ (dryingDoorReport isOpen s).notice = s.notice ∧ (dryingDoorReport isOpen s).store = s.store := by
  unfold dryingDoorReport
  repeat' split
  all_goals simp

@[simp] theorem dryingSupplyReport_keeps (low : Bool) (s : State) :
    (dryingSupplyReport low s).filter = s.filter ∧ (dryingSupplyReport low s).tank = s.tank ∧ (dryingSupplyReport low s).notice = s.notice ∧ (dryingSupplyReport low s).store = s.store := by
  simp [dryingSupplyReport]

@[simp] theorem dryingFanStall_keeps (b : Bool) (s : State) :
    (dryingFanStall b s).filter = s.filter ∧ (dryingFanStall b s).tank = s.tank ∧ (dryingFanStall b s).notice = s.notice ∧ (dryingFanStall b s).store = s.store := by
  simp [dryingFanStall]

@[simp] theorem dryingModeReport_keeps (m : ModeState) (s : State) :
    (dryingModeReport m s).filter = s.filter ∧ (dryingModeReport m s).tank = s.tank ∧ (dryingModeReport m s).notice = s.notice ∧ (dryingModeReport m s).store = s.store := by
  simp [dryingModeReport]

@[simp] theorem airWindowEnd_keeps (p : Nat) (s : State) :
    (airWindowEnd p s).filter = s.filter ∧ (airWindowEnd p s).dry = s.dry ∧ (airWindowEnd p s).tank = s.tank ∧ (airWindowEnd p s).notice = s.notice ∧ (airWindowEnd p s).lamps = s.lamps ∧ (airWindowEnd p s).store = s.store ∧ (airWindowEnd p s).cmd = s.cmd := by
  simp [airWindowEnd]

@[simp] theorem airModeReport_keeps (m : ModeState) (s : State) :
    (airModeReport m s).filter = s.filter ∧ (airModeReport m s).dry = s.dry ∧ (airModeReport m s).tank = s.tank ∧ (airModeReport m s).notice = s.notice ∧ (airModeReport m s).lamps = s.lamps ∧ (airModeReport m s).store = s.store ∧ (airModeReport m s).cmd = s.cmd := by
  simp [airModeReport]

@[simp] theorem airDoorReport_keeps (isOpen : Bool) (s : State) :
    (airDoorReport isOpen s).filter = s.filter ∧ (airDoorReport isOpen s).tank = s.tank ∧ (airDoorReport isOpen s).store = s.store := by
  simp only [airDoorReport]
  repeat' split
  all_goals simp

@[simp] theorem airSupplyReport_keeps (low : Bool) (s : State) :
    (airSupplyReport low s).filter = s.filter ∧ (airSupplyReport low s).dry = s.dry ∧ (airSupplyReport low s).tank = s.tank ∧ (airSupplyReport low s).notice = s.notice ∧ (airSupplyReport low s).lamps = s.lamps ∧ (airSupplyReport low s).store = s.store ∧ (airSupplyReport low s).cmd = s.cmd := by
  simp [airSupplyReport]

@[simp] theorem airClearLockout_keeps (s : State) :
    (airClearLockout s).filter = s.filter ∧ (airClearLockout s).dry = s.dry ∧ (airClearLockout s).tank = s.tank ∧ (airClearLockout s).notice = s.notice ∧ (airClearLockout s).lamps = s.lamps ∧ (airClearLockout s).store = s.store ∧ (airClearLockout s).cmd = s.cmd := by
  unfold airClearLockout
  repeat' split
  all_goals simp

@[simp] theorem reportFanStall_keeps (b : Bool) (s : State) :
    (reportFanStall b s).filter = s.filter ∧ (reportFanStall b s).tank = s.tank ∧ (reportFanStall b s).store = s.store := by
  simp [reportFanStall]

@[simp] theorem declareStall_keeps (s : State) :
    (declareStall s).filter = s.filter ∧ (declareStall s).tank = s.tank ∧ (declareStall s).store = s.store := by
  simp only [declareStall]
  repeat' split
  all_goals simp

@[simp] theorem completeCleanRun_keeps (s : State) :
    (completeCleanRun s).filter = s.filter ∧ (completeCleanRun s).tank = s.tank ∧ (completeCleanRun s).store = s.store := by
  simp [completeCleanRun]

@[simp] theorem stallCheck_keeps (s : State) :
    (stallCheck s).filter = s.filter ∧ (stallCheck s).tank = s.tank ∧ (stallCheck s).store = s.store := by
  simp only [stallCheck]
  repeat' split
  all_goals simp

@[simp] theorem airflowPeriod_keeps (s : State) :
    (airflowPeriod s).tank = s.tank := by
  simp only [airflowPeriod]
  repeat' split
  all_goals simp

@[simp] theorem completeSweep_keeps (r : List Nat) (s : State) :
    (completeSweep r s).tank = s.tank := by
  simp [completeSweep]

@[simp] theorem placeResult_keeps (i : Nat) (taken : List Nat) (s : State) :
    (placeResult i taken s).tank = s.tank := by
  simp only [placeResult]
  repeat' split
  all_goals simp

@[simp] theorem learnHoldExpiry_keeps (s : State) :
    (learnHoldExpiry s).filter = s.filter ∧ (learnHoldExpiry s).dry = s.dry ∧ (learnHoldExpiry s).tank = s.tank ∧ (learnHoldExpiry s).notice = s.notice ∧ (learnHoldExpiry s).lamps = s.lamps ∧ (learnHoldExpiry s).store = s.store ∧ (learnHoldExpiry s).cmd = s.cmd := by
  unfold learnHoldExpiry
  repeat' split
  all_goals simp

@[simp] theorem learnReading_keeps (s : State) :
    (learnReading s).tank = s.tank := by
  simp only [learnReading]
  repeat' split
  all_goals simp

@[simp] theorem reportChange_keeps (f : Flag) (b : Bool) (s : State) :
    (reportChange f b s).filter = s.filter ∧ (reportChange f b s).tank = s.tank ∧ (reportChange f b s).store = s.store := by
  unfold reportChange
  repeat' split
  all_goals simp

@[simp] theorem tankReports_keeps (before : TankBlock) (e : TankEvent) (forced : Bool) (s : State) :
    (tankReports before e forced s).filter = s.filter ∧ (tankReports before e forced s).tank = s.tank := by
  simp only [tankReports]
  repeat' split
  all_goals simp

@[simp] theorem tankEvent_keeps (e : TankEvent) (s : State) :
    (tankEvent e s).filter = s.filter := by
  simp only [tankEvent]
  repeat' split
  all_goals simp

@[simp] theorem runSecondExpiry_keeps (s : State) :
    (runSecondExpiry s).filter = s.filter := by
  simp only [runSecondExpiry]
  repeat' split
  all_goals simp

@[simp] theorem doorReport_keeps (isOpen : Bool) (s : State) :
    (doorReport isOpen s).tank = s.tank ∧ (doorReport isOpen s).store = s.store := by
  simp [doorReport]

@[simp] theorem judgeLoadedFilter_keeps (s : State) :
    (judgeLoadedFilter s).tank = s.tank := by
  simp [judgeLoadedFilter]

@[simp] theorem clearFilter_keeps (s : State) :
    (clearFilter s).tank = s.tank := by
  simp [clearFilter]

@[simp] theorem setpointWritten_keeps (m : ModeState) (s : State) :
    (setpointWritten m s).air = s.air ∧ (setpointWritten m s).filter = s.filter ∧ (setpointWritten m s).tank = s.tank ∧ (setpointWritten m s).notice = s.notice ∧ (setpointWritten m s).lamps = s.lamps ∧ (setpointWritten m s).store = s.store ∧ (setpointWritten m s).cmd = s.cmd := by
  unfold setpointWritten
  repeat' split
  all_goals simp

end Sys2Proof.Machine
end

