-- ==== Sys2Proof/Laws/Lines.lean ====
section
/-! SUPPORT. What a memory cycle is by its strobes, what the part does on the lines of the two buses in each phase, and the
small lemmas of a compressor stop. -/

namespace Sys2Proof.Machine

/-! ### Memory cycles (R127) -/

@[simp] theorem memoryCycle_writing (m : BitVec 15) (v : Byte) (s : State) :
    memoryCycle .writing m v s = controllerWrite m v s := rfl

@[simp] theorem memoryCycle_reading (m : BitVec 15) (v : Byte) (s : State) :
    memoryCycle .reading m v s = controllerRead m s := rfl

theorem windowWrite_eq (off v : Byte) (s : State) (h : s.takesCycles = true) :
    windowWrite off v s = controllerWrite (address s.path.page off) v s := by
  simp [windowWrite, writeCycle, whenCycles, h]

theorem windowRead_eq (off : Byte) (s : State) (h : s.takesCycles = true) :
    windowRead off s = controllerRead (address s.path.page off) s := by
  simp [windowRead, readCycle, whenCycles, h]

theorem windowWrite_of_held (off v : Byte) (s : State) (h : s.takesCycles = false) : windowWrite off v s = s := by
  simp [windowWrite, writeCycle, whenCycles, h]

theorem windowRead_of_held (off : Byte) (s : State) (h : s.takesCycles = false) : windowRead off s = s := by
  simp [windowRead, readCycle, whenCycles, h]

/-! ### The lines of the two buses (R152, R176) -/

theorem waitPin_outside_running (s : State) (k : Nat) (h : s.phase ≠ .running) : s.waitPin k = false := by
  simp [State.waitPin, h]

theorem waitPin_in_burst (s : State) (k : Nat) (h : s.store.hold = .burst) : s.waitPin k = false := by
  simp [State.waitPin, h]

theorem waitPin_of_running (s : State) (k : Nat) (h : s.phase = .running)
    (hb : s.store.hold ≠ .burst) : s.waitPin k = decide (k < s.bus.waits) := by
  simp [State.waitPin, h, hb]

/-! ### When the controller's cycles are taken (R146, R168) -/

/-- A cycle is taken in the running part outside BURST, with no supervision pulse or at the instant one begins. -/
theorem takesCycles_iff (s : State) :
    s.takesCycles = true
      ↔ s.phase = .running ∧ s.store.hold ≠ .burst ∧ ∀ timer, s.store.pulse = some timer → timer.elapsed = 0 := by
  unfold State.takesCycles StoredImages.pulseAtStart
  cases s.store.pulse <;> simp
  tauto

@[simp] theorem startPulse_pulseAtStart (x : StoredImages) : x.startPulse.pulseAtStart = true := rfl
@[simp] theorem startPulse_hold (x : StoredImages) : x.startPulse.hold = x.hold := rfl
@[simp] theorem startPulse_queue (x : StoredImages) : x.startPulse.queue = x.queue := rfl

theorem lines_in_burst (s : State) (c : Bool) (hp : s.phase = .running) (hh : s.store.hold = .burst) :
    s.addressLines c = .driven ∧ s.memoryDataLines c = .driven ∧ s.controllerDataLines = .released := by
  simp [State.addressLines, State.memoryDataLines, State.controllerDataLines, hp, hh]

theorem lines_of_running (s : State) (c : Bool) (hp : s.phase = .running) (hh : s.store.hold ≠ .burst) :
    s.addressLines c = .input ∧ s.memoryDataLines c = .carrying ∧ s.controllerDataLines = .carrying := by
  simp [State.addressLines, State.memoryDataLines, State.controllerDataLines, hp, hh]

theorem lines_outside_running (s : State) (c : Bool) (hp : s.phase ≠ .running) :
    s.addressLines c = s.phase.ownLines c ∧ s.memoryDataLines c = s.phase.ownLines c
      ∧ s.controllerDataLines = .released := by
  simp [State.addressLines, State.memoryDataLines, State.controllerDataLines, hp]

/-! ### A stop of the compressor (R73, R80, R107) -/

@[simp] theorem Drying.stopRun_offTime (d : Drying) : d.stopRun.offTime = 0 := rfl
@[simp] theorem Drying.stopRun_offTimer (d : Drying) : d.stopRun.offTimer = startTimer 1000 := rfl
@[simp] theorem Drying.stopRun_frostRun (d : Drying) : d.stopRun.frostRun = 0 := rfl
@[simp] theorem Drying.stopRun_runTimer (d : Drying) : d.stopRun.runTimer = none := rfl
@[simp] theorem Drying.stopRun_runSecondDue (d : Drying) : d.stopRun.runSecondDue = d.runTimer.isSome := rfl
@[simp] theorem Drying.stopRun_runSeconds (d : Drying) : d.stopRun.runSeconds = d.runSeconds := rfl
@[simp] theorem Drying.stopRun_runTime (d : Drying) : d.stopRun.runTime = d.runTime := rfl
@[simp] theorem Drying.stopRun_comp (d : Drying) : d.stopRun.comp = d.comp := rfl
@[simp] theorem Drying.stopRun_demand (d : Drying) : d.stopRun.demand = d.demand := rfl
@[simp] theorem Drying.runSecond_runSecondDue (d : Drying) : d.runSecond.runSecondDue = false := rfl

end Sys2Proof.Machine
end

