-- ==== Sys2Proof/Laws/Memory.lean ====
section
/-! SUPPORT. The laws of the memory: what a read after a write gives, that every memory operation keeps the canonical form,
and where window offsets fall. -/

namespace Sys2Proof.Machine

/-! ### Reads after writes -/

theorem Memory.read_of_lt (m : Memory) (lo a : Nat) (h : m.wfFrom lo = true) (ha : a < lo) :
    m.read a = Config.unwrittenByte := by
  induction m generalizing lo with
  | nil => rfl
  | cons c rest ih =>
    obtain ⟨k, b⟩ := c
    simp only [Memory.wfFrom, Bool.and_eq_true, decide_eq_true_eq] at h
    have hk : k ≠ a := by omega
    simp only [Memory.read, if_neg hk]
    exact ih (k + 1) h.2 (by omega)

/-- Every entry of a canonical memory lies at or above its lower bound: a lower bound may be lowered. -/
theorem Memory.wfFrom_mono (m : Memory) (lo lo' : Nat) (hle : lo' ≤ lo) (h : m.wfFrom lo = true) :
    m.wfFrom lo' = true := by
  cases m with
  | nil => rfl
  | cons c rest =>
    obtain ⟨k, b⟩ := c
    simp only [Memory.wfFrom, Bool.and_eq_true, decide_eq_true_eq] at h ⊢
    exact ⟨⟨⟨by omega, h.1.1.2⟩, h.1.2⟩, h.2⟩

theorem Memory.read_write_from (m : Memory) (lo a : Nat) (v : Byte) (h : m.wfFrom lo = true) (b : Nat) :
    (m.write a v).read b = if b = a then v else m.read b := by
  induction m generalizing lo with
  | nil =>
    by_cases hv : v = Config.unwrittenByte <;> by_cases hb : b = a <;>
      simp [Memory.write, Memory.read, hv, hb, eq_comm] <;> omega
  | cons c rest ih =>
    obtain ⟨k, x⟩ := c
    have hw := h
    simp only [Memory.wfFrom, Bool.and_eq_true, decide_eq_true_eq] at h
    have step := ih (k + 1) h.2
    by_cases hak : a < k
    · have hna : Memory.read ((k, x) :: rest) a = Config.unwrittenByte :=
        Memory.read_of_lt _ k a (Memory.wfFrom_mono _ _ _ (Nat.le_refl k) (by
          simp only [Memory.wfFrom, Bool.and_eq_true, decide_eq_true_eq]; exact ⟨⟨⟨Nat.le_refl k, h.1.1.2⟩, h.1.2⟩, h.2⟩)) hak
      by_cases hv : v = Config.unwrittenByte
      · by_cases hb : b = a
        · subst hb; simp [Memory.write, hak, hv, hna]
        · simp [Memory.write, hak, hv, hb]
      · by_cases hb : b = a
        · subst hb; simp [Memory.write, Memory.read, hak, hv]
        · have hab : ¬a = b := fun e => hb e.symm
          simp [Memory.write, Memory.read, hak, hv, hb, hab]
    · by_cases hke : a = k
      · subst hke
        by_cases hv : v = Config.unwrittenByte
        · by_cases hb : b = a
          · subst hb
            simp [Memory.write, hv, Memory.read_of_lt rest (b + 1) b h.2 (by omega)]
          · have hab : ¬a = b := fun e => hb e.symm
            simp [Memory.write, Memory.read, hv, hb, hab]
        · by_cases hb : b = a
          · subst hb; simp [Memory.write, Memory.read, hv]
          · have hab : ¬a = b := fun e => hb e.symm
            simp [Memory.write, Memory.read, hv, hb, hab]
      · by_cases hkb : k = b
        · subst hkb
          have hba : ¬k = a := fun e => hke e.symm
          simp [Memory.write, Memory.read, hak, hke, hba]
        · simp [Memory.write, Memory.read, hak, hke, hkb, step]

/-- A read after a write: the byte written at its offset, the old byte elsewhere. -/
theorem Memory.read_write (m : Memory) (a : Nat) (v : Byte) (h : m.wf = true) (b : Nat) :
    (m.write a v).read b = if b = a then v else m.read b := Memory.read_write_from m 0 a v h b

/-! ### The canonical form -/

theorem Memory.wfFrom_write (m : Memory) (lo a : Nat) (v : Byte) (h : m.wfFrom lo = true) (hlo : lo ≤ a)
    (ha : a < 0x8000) : (m.write a v).wfFrom lo = true := by
  induction m generalizing lo with
  | nil =>
    by_cases hv : v = Config.unwrittenByte <;> simp [Memory.write, Memory.wfFrom, hv, hlo, ha]
  | cons c rest ih =>
    obtain ⟨k, x⟩ := c
    simp only [Memory.wfFrom, Bool.and_eq_true, decide_eq_true_eq] at h
    by_cases hak : a < k
    · by_cases hv : v = Config.unwrittenByte
      · simp only [Memory.write, hak, hv, if_true, Memory.wfFrom, Bool.and_eq_true, decide_eq_true_eq]; exact h
      · simp only [Memory.write, hak, hv, if_true, if_false, Memory.wfFrom, Bool.and_eq_true, decide_eq_true_eq]
        exact ⟨⟨⟨hlo, ha⟩, hv⟩, ⟨⟨by omega, h.1.1.2⟩, h.1.2⟩, h.2⟩
    · by_cases hke : a = k
      · subst hke
        by_cases hv : v = Config.unwrittenByte
        · simp only [Memory.write, hak, hv, if_true, if_false]
          exact Memory.wfFrom_mono rest (a + 1) lo (by omega) h.2
        · simp only [Memory.write, hak, hv, if_true, if_false, Memory.wfFrom, Bool.and_eq_true, decide_eq_true_eq]
          exact ⟨⟨⟨hlo, ha⟩, hv⟩, h.2⟩
      · simp only [Memory.write, hak, hke, if_false, Memory.wfFrom, Bool.and_eq_true, decide_eq_true_eq]
        exact ⟨h.1, ih (k + 1) h.2 (by omega)⟩

/-- A write keeps the canonical form. -/
theorem Memory.wf_write (m : Memory) (a : Nat) (v : Byte) (h : m.wf = true) (ha : a < 0x8000) :
    (m.write a v).wf = true := Memory.wfFrom_write m 0 a v h (Nat.zero_le a) ha

/-- A series of writes keeps the canonical form. -/
theorem Memory.wf_writeAll (m : Memory) (ws : List (BitVec 15 × Byte)) (h : m.wf = true) :
    (m.writeAll ws).wf = true := by
  induction ws generalizing m with
  | nil => exact h
  | cons w rest ih => exact ih (m.write w.1.toNat w.2) (Memory.wf_write m _ _ h w.1.isLt)

/-- Where none of a series of writes falls, a read gives the old byte. -/
theorem Memory.read_writeAll_of_notin (m : Memory) (ws : List (BitVec 15 × Byte)) (b : Nat) (h : m.wf = true)
    (hb : ∀ w ∈ ws, w.1.toNat ≠ b) : (m.writeAll ws).read b = m.read b := by
  induction ws generalizing m with
  | nil => rfl
  | cons w rest ih =>
    have := ih (m.write w.1.toNat w.2) (Memory.wf_write m _ _ h w.1.isLt) (fun x hx => hb x (List.mem_cons_of_mem _ hx))
    have hw : w.1.toNat ≠ b := hb w List.mem_cons_self
    simp only [Memory.writeAll, List.foldl_cons] at this ⊢
    rw [this, Memory.read_write m _ _ h, if_neg (fun e => hw e.symm)]

theorem Memory.writeAll_append (m : Memory) (xs ys : List (BitVec 15 × Byte)) :
    m.writeAll (xs ++ ys) = (m.writeAll xs).writeAll ys := List.foldl_append

/-- The memory of the part just after power-on is canonical. -/
theorem State.reset_memory_wf : State.reset.memory.wf = true := rfl

/-! ### Window offsets -/

theorem address_toNat (page : BitVec 7) (off : Byte) : (address page off).toNat = page.toNat * 256 + off.toNat := by
  have h := off.isLt
  simp only [address, BitVec.toNat_append]
  rw [Nat.shiftLeft_eq, Nat.mul_comm, ← Nat.two_pow_add_eq_or_of_lt (by simpa using h)]

/-- The page of an address is the page it was formed with. -/
theorem address_page (page : BitVec 7) (off : Byte) : (address page off).toNat / 256 = page.toNat := by
  have h := off.isLt
  rw [address_toNat]; omega

/-- The window offset of an address is the offset it was formed with. -/
theorem address_off (page : BitVec 7) (off : Byte) : (address page off).toNat % 256 = off.toNat := by
  have h := off.isLt
  rw [address_toNat]; omega

theorem address_inj (page : BitVec 7) (off off' : Byte) :
    (address page off).toNat = (address page off').toNat ↔ off = off' := by
  rw [address_toNat, address_toNat]
  constructor
  · intro h; exact BitVec.eq_of_toNat_eq (by omega)
  · intro h; rw [h]

/-- Window offsets below 0xFF are never the anchor. -/
theorem address_ne_anchor (page : BitVec 7) (off : Byte) (h : off.toNat < 0xFF) : address page off ≠ anchor := by
  intro e
  have : (address page off).toNat % 256 = 0xFF := by rw [e]; rfl
  rw [address_off] at this
  omega

/-- R127: the place of a window offset below 0xFF at the window page. -/
theorem classify_address (page : BitVec 7) (off : Byte) (h : off.toNat < 0xFF) :
    classify page (address page off) = windowPlace off := by
  have hoff : BitVec.ofNat 8 off.toNat = off := by simp
  simp only [classify, if_neg (address_ne_anchor page off h), address_page, if_true, address_off, hoff]

/-- R127: the anchor is the anchor at every page. -/
theorem classify_anchor (page : BitVec 7) : classify page anchor = .anchorCell := rfl

end Sys2Proof.Machine
end

