-- ==== Sys2Proof/Laws/PerInstr.lean ====
section
/-! SUPPORT. Per command: no word of the table spells it, since no row of spec/opcode_table.json gives bits
(notes/assumptions/30.md). -/

namespace Sys2Proof.Laws.NoWord

/-- No word spells the command: a command reaches the part as an event or a memory cycle, never as a word. -/
def Statement (i : Instr) : Prop := ∀ nbits w : Nat, decodeTableWord nbits w ≠ some i

/-- The decoder answers no command, whatever the word. -/
theorem of_none (i : Instr) : Statement i := fun _ _ h => nomatch h

theorem powerOn (written : Nat) : Statement (.powerOn written) := of_none _
theorem nresetAssert (written : Nat) : Statement (.nresetAssert written) := of_none _
theorem nresetRelease : Statement (.nresetRelease) := of_none _
theorem loadDelayExpiry : Statement (.loadDelayExpiry) := of_none _
theorem loadComplete (pfwLow : Bool) : Statement (.loadComplete pfwLow) := of_none _
theorem converterArrival (ch : Channel) (code : BitVec 10) : Statement (.converterArrival ch code) := of_none _
theorem particleWindowEnd : Statement (.particleWindowEnd) := of_none _
theorem tachEdge (edge : Edge) (interval : Nat) : Statement (.tachEdge edge interval) := of_none _
theorem stoppedReport : Statement (.stoppedReport) := of_none _
theorem switchRawChange (sw : Switch) (high : Bool) : Statement (.switchRawChange sw high) := of_none _
theorem debounceExpiry (sw : Switch) : Statement (.debounceExpiry sw) := of_none _
theorem switchSettlingExpiry : Statement (.switchSettlingExpiry) := of_none _
theorem npfwAssert : Statement (.npfwAssert) := of_none _
theorem rampStep : Statement (.rampStep) := of_none _
theorem settledTimerExpiry : Statement (.settledTimerExpiry) := of_none _
theorem armingTimerExpiry : Statement (.armingTimerExpiry) := of_none _
theorem stallCheck : Statement (.stallCheck) := of_none _
theorem stallWaitExpiry : Statement (.stallWaitExpiry) := of_none _
theorem airflowPeriod : Statement (.airflowPeriod) := of_none _
theorem learnHoldExpiry : Statement (.learnHoldExpiry) := of_none _
theorem learnReading : Statement (.learnReading) := of_none _
theorem dosePeriod : Statement (.dosePeriod) := of_none _
theorem dryingCheck : Statement (.dryingCheck) := of_none _
theorem offTimeExpiry : Statement (.offTimeExpiry) := of_none _
theorem confirmationTimerExpiry : Statement (.confirmationTimerExpiry) := of_none _
theorem extraHoldExpiry : Statement (.extraHoldExpiry) := of_none _
theorem runSecondExpiry : Statement (.runSecondExpiry) := of_none _
theorem defrostMaxExpiry : Statement (.defrostMaxExpiry) := of_none _
theorem timedCycleExpiry : Statement (.timedCycleExpiry) := of_none _
theorem uptimeMinute : Statement (.uptimeMinute) := of_none _
theorem onTimeEnd : Statement (.onTimeEnd) := of_none _
theorem afterRunExpiry : Statement (.afterRunExpiry) := of_none _
theorem pulseTimerExpiry : Statement (.pulseTimerExpiry) := of_none _
theorem lampPhaseTimer (lamp : Lamp) : Statement (.lampPhaseTimer lamp) := of_none _
theorem settingWrite (off v : Byte) : Statement (.settingWrite off v) := of_none _
theorem hexhLowWrite (v : Byte) : Statement (.hexhLowWrite v) := of_none _
theorem hexhHighWrite (v : Byte) : Statement (.hexhHighWrite v) := of_none _
theorem quietTimerExpiry : Statement (.quietTimerExpiry) := of_none _
theorem latchedWrite (off v : Byte) : Statement (.latchedWrite off v) := of_none _
theorem summaryRead : Statement (.summaryRead) := of_none _
theorem snapshotLoadRead (off : Byte) : Statement (.snapshotLoadRead off) := of_none _
theorem strayWrite (off v : Byte) : Statement (.strayWrite off v) := of_none _
theorem anchorWrite (v : Byte) : Statement (.anchorWrite v) := of_none _
theorem filterReset : Statement (.filterReset) := of_none _
theorem learnBaseline : Statement (.learnBaseline) := of_none _
theorem abortLearn : Statement (.abortLearn) := of_none _
theorem defrostNow : Statement (.defrostNow) := of_none _
theorem clearLockout : Statement (.clearLockout) := of_none _
theorem resume : Statement (.resume) := of_none _
theorem saveNow : Statement (.saveNow) := of_none _
theorem restartArm : Statement (.restartArm) := of_none _
theorem restart : Statement (.restart) := of_none _
theorem unknownCommand (code : Byte) : Statement (.unknownCommand code) := of_none _
theorem drainJobComplete : Statement (.drainJobComplete) := of_none _
theorem holdackRise : Statement (.holdackRise) := of_none _
theorem holdackFall (written : Nat) : Statement (.holdackFall written) := of_none _
theorem ackTimerExpiry : Statement (.ackTimerExpiry) := of_none _
theorem retryTimerExpiry : Statement (.retryTimerExpiry) := of_none _
theorem burstComplete : Statement (.burstComplete) := of_none _
theorem saveTimerExpiry : Statement (.saveTimerExpiry) := of_none _
theorem supervisionCount : Statement (.supervisionCount) := of_none _
theorem supervisionPulseEnd : Statement (.supervisionPulseEnd) := of_none _
theorem particleSample (high : Bool) : Statement (.particleSample high) := of_none _

end Sys2Proof.Laws.NoWord
end

