-- ==== Sys2Proof/Tests/Slice0.lean ====
section
/-! SUPPORT. The model's own tests: ill-formed commands refused by the check, worked figures of the spec, and for every
statement with hypotheses a state and operands that meet them. Expected results come from the spec's tables and
examples. -/

namespace Sys2Proof.Tests

open Sys2Proof.Machine

set_option Elab.async false

/-! ### Helpers -/

/-- The state a command leaves; every command leaves one. -/
def after (c : Instr) (s : State) : State :=
  match exec c s with
  | .next t => t
  | .fault _ => s
  | .refused _ => s

/-- A running part, the load's own effects left aside. -/
def base : State := { State.reset with phase := .running, loadDelay := none }

/-- A part after its first load. -/
def up : State := after (.loadComplete false) (after .loadDelayExpiry State.reset)

def withAir (f : AirMover → AirMover) : State := base.setAir (f base.air)
def withDry (f : Drying → Drying) : State := base.setDry (f base.dry)
def withTank (f : TankBlock → TankBlock) : State := base.setTank (f base.tank)
def withFront (f : FrontEnd → FrontEnd) : State := base.setFront (f base.front)
def withStore (f : StoredImages → StoredImages) : State := base.setStore (f base.store)
def withCmd (f : CommandBlock → CommandBlock) : State := base.setCmd (f base.cmd)
def withPath (f : MemoryPath → MemoryPath) : State := base.setPath (f base.path)

/-- The byte a controller reads at a window offset. -/
def seen (s : State) (off : Byte) : Option Byte := (windowRead off s).bus.toController

/-! ### Ill-formed commands are refused -/

theorem test_setting_write_names_setting : (Instr.settingWrite 0x40#8 0#8).wellFormed = false := by decide
theorem test_setting_write_not_hexh : (Instr.settingWrite 0x18#8 0#8).wellFormed = false := by decide
theorem test_latched_write_names_latched : (Instr.latchedWrite 0x4E#8 0#8).wellFormed = false := by decide
theorem test_snapshot_names_lowest : (Instr.snapshotLoadRead 0x51#8).wellFormed = false := by decide
theorem test_stray_not_setting : (Instr.strayWrite 0x3F#8 0#8).wellFormed = false := by decide
theorem test_stray_not_hole : (Instr.strayWrite 0x7B#8 0#8).wellFormed = false := by decide
theorem test_unknown_not_known : (Instr.unknownCommand 0x11#8).wellFormed = false := by decide
theorem test_good_terms : (Instr.settingWrite 0x3F#8 0#8).wellFormed && (Instr.latchedWrite 0x4B#8 0#8).wellFormed
    && (Instr.snapshotLoadRead 0xC2#8).wellFormed && (Instr.strayWrite 0xFE#8 0#8).wellFormed
    && (Instr.unknownCommand 0x5A#8).wellFormed = true := by decide

/-! ### No word spells a command -/

theorem test_no_word : decodeTableWord 8 0x11 = none := rfl
theorem test_fetch_word_stands : State.reset.withFetchWord 8 0x11 = State.reset := rfl

/-! ### Worked figures of the spec -/

/-- R3: the first good code 0x009, and R4: 1015 is no good sample. -/
theorem test_good_codes : (after (.converterArrival .rh 9#10) base).front.rh.status = .valid
    ∧ (after (.converterArrival .rh 1015#10) base).front.rh.count = 1 := by decide +kernel

/-- R11, the example: r = 340 at Kp 64 gives 85. -/
theorem test_particle_value : particleValue 340 64 = 85 := by decide

/-- R14, the example: a sum of 240,000 us gives 1000 rpm at ppr 2 and 500 rpm at ppr 4. -/
theorem test_speed : speedOf (List.replicate 8 30000) 2 = 1000 ∧ speedOf (List.replicate 8 30000) 4 = 500 := by decide

/-- The baseline of the worked example of chapter 2. -/
def tableBaseline : List (Option Nat) :=
  [some 900, some 1000, some 1100, some 1180, some 1290, some 1400, some 1500, some 1600]

/-- Table 11, periods 1 and 6: the base, the restriction and the airflow. -/
theorem test_airflow_table : baseAt tableBaseline 191 = some 1400 ∧ restriction 1505 1400 = 76
    ∧ baseAt tableBaseline 150 = some 1259 ∧ restriction 1330 1259 = 57 ∧ restriction 1240 1259 = 0
    ∧ airflowAt base.path.working 191 76 = 210 ∧ airflowAt base.path.working 150 57 = 182 := by decide +kernel

/-- The text after R38: the ramp falls from 191 by 12 to 150. -/
theorem test_ramp_falls : rampedDuty base.path.working 191 150 = 179 ∧ rampedDuty base.path.working 155 150 = 150
    ∧ rampedDuty base.path.working 0 150 = 31 := by decide +kernel

/-- R54: the restriction share of Q = 255 with Qexh 16 is 1593. -/
theorem test_restriction_share : 255 * 100 / 16 = 1593 ∧ impliedStage base.path.working 100 = .exhausted
    ∧ impliedStage base.path.working 80 = .worn := by decide +kernel

/-- The text after R68: the default thresholds. -/
theorem test_thresholds : onThreshold base.path.working .normal = 530 ∧ offThreshold base.path.working .normal = 480
    ∧ onThreshold base.path.working .standalone = 580 ∧ offThreshold base.path.working .standalone = 530 := by
  decide +kernel

/-- The text after R136: 9 as a mode, 0x80 as Tfrost and 0x9A as wait counts. -/
theorem test_working_values : workingByte [9#8] 0x00 = 3#8
    ∧ workingByte (defaultImage.set 0x1E 0x80#8) 0x1E = 0xFB#8
    ∧ workingByte (defaultImage.set 0x3F 0x9A#8) 0x3F = 0x77#8 := by decide +kernel

/-- The text after R141: 0x2C then 0x01 give 300, and 0x03 alone is then taken as 730. -/
theorem test_hexh_example :
    (after (.hexhHighWrite 0x01#8) (after (.hexhLowWrite 0x2C#8) base)).path.working.hexh = 300
    ∧ (after (.hexhHighWrite 0x03#8) (after (.hexhHighWrite 0x01#8) (after (.hexhLowWrite 0x2C#8) base))).path.working.hexh
        = 730 := by decide +kernel

/-- R155: a single byte 0x00 gives 0xF3. -/
theorem test_crc_zero : crc8 [0x00#8] = 0xF3#8 := by decide

/-- Table 34: the default image has 64 bytes, and its settings are its own working values. -/
theorem test_default_image : defaultImage.length = 64 ∧ workingImage defaultImage = (defaultImage.set 0x18 0).set 0x19 0 := by
  decide +kernel

/-- R124: the perceptual curve at full and at half intensity. -/
theorem test_lamp_curve : lampOutput true 255 = 255 ∧ lampOutput true 128 = 64 ∧ lampOutput false 128 = 128 := by decide

/-- R158, R157: the first load of an unwritten memory defaults both images and starts the part, the line asserted by no
level flag. -/
theorem test_first_load : up.phase = .running ∧ seen up 0x48#8 = some 0#8 ∧ seen up 0x4B#8 = some 0x80#8
    ∧ seen up 0x4C#8 = some 0x01#8 ∧ up.noticePin = false ∧ up.controllerResetPin = false := by decide +kernel

/-- R96: with the floats lowered and the tank away the settling expiry finds ABSENT; with the tank there, NORMAL. -/
theorem test_tank_states : (tankEvent (.settle false false false) base).tank.level = .absent
    ∧ (tankEvent (.settle false false true) base).tank.level = .normal
    ∧ (tankEvent (.settle true false true) (base.setPath { base.path with
        working := Settings.ofRaw (defaultImage.set 0x23 0#8) })).tank.level = .high
    ∧ (tankEvent (.settle true true true) base).tank.level = .full := by decide +kernel

/-- R127, Table 24: the anchor is outside the window on every page, and page 0x7F ends with it. -/
theorem test_places : classify 0x7F#7 0x7FFF#15 = .anchorCell ∧ classify 0x7F#7 0x7FFE#15 = .checkByte
    ∧ classify 0#7 0x40#15 = .commandCell ∧ classify 0#7 0x100#15 = .outside := by decide

/-- R163: an unknown code at the command cell. -/
theorem test_unknown_command : seen (after (.unknownCommand 0x77#8) base) 0x41#8 = some 6#8
    ∧ seen (after (.unknownCommand 0x77#8) base) 0x40#8 = some 0x77#8 := by decide +kernel

/-! ### Witnesses: states and operands that meet the hypotheses of the statements -/

theorem witness_StepTakesFrontCommand : (base.setPending [.saveNow, .resume]).pending = .saveNow :: [.resume] := rfl
theorem witness_IdleStepShowsNothing : base.pending = [] := rfl

theorem witness_ResetLeadsToLoad : (after (.nresetAssert 0) base).phase = .inReset
    ∧ State.reset.phase = .loadDelay ∧ State.reset.loadDelay.isSome = true := by decide +kernel

/-- Loading from an unwritten memory: both checks fail. -/
def loading : State := after .loadDelayExpiry State.reset

theorem witness_LoadReplacesFailedImages : loading.phase = .loading ∧ loading.memory.wf = true
    ∧ crc8 (readRun loading.memory (loadPage loading) 0x00 64)
        ≠ loading.memory.read (address (loadPage loading) 0xFE#8).toNat
    ∧ crc8 (readRun loading.memory (loadPage loading) 0xA0 38)
        ≠ loading.memory.read (address (loadPage loading) 0xC6#8).toNat := by decide +kernel

/-- A load over the memory that a first load has written: both checks hold. -/
def reloading : State := up.setPhase .loading

theorem reloading_page : loadPage reloading = 0 := by decide +kernel
theorem reloading_raw : readRun reloading.memory 0 0x00 64 = defaultImage := by decide +kernel
theorem reloading_record : readRun reloading.memory 0 0xA0 38 = List.replicate 38 0 := by decide +kernel

theorem witness_LoadTakesIntactImages : reloading.phase = .loading
    ∧ crc8 (readRun reloading.memory (loadPage reloading) 0x00 64)
        = reloading.memory.read (address (loadPage reloading) 0xFE#8).toNat
    ∧ crc8 (readRun reloading.memory (loadPage reloading) 0xA0 38)
        = reloading.memory.read (address (loadPage reloading) 0xC6#8).toNat := by
  rw [reloading_page, reloading_raw, reloading_record]
  decide +kernel

/-- A part whose restart is armed, a setting write not yet covered by the check byte. -/
def armed : State := after .restartArm (after (.settingWrite 0x01#8 2#8) up)

theorem witness_RestartBeginsDrain : armed.takesCycles = true ∧ armed.memory.wf = true ∧ armed.path.armed = true := by
  decide +kernel

/-- The restart of `armed`: a WEAR_SAVE ahead of a CRC_UPDATE. -/
def draining : State := after .restart armed

theorem witness_DrainWritesRecord : draining.phase = .draining ∧ draining.memory.wf = true
    ∧ draining.store.queue = [.wearSave, .crcUpdate] ∧ (draining.store.drain.map (·.record.length)) = some 38 := by
  decide +kernel

theorem witness_RestartReloadsOwnImages : armed.takesCycles = true ∧ armed.memory.wf = true ∧ armed.path.armed = true
    ∧ armed.path.quietTimer.isSome = true ∧ armed.store.queue = [] ∧ armed.store.service = none
    ∧ armed.path.raw.length = 64 ∧ loadPage armed = armed.path.page
    ∧ ∀ i, i < 64 → armed.memory.read (address armed.path.page (BitVec.ofNat 8 i)).toNat = armed.path.raw.getD i 0 := by
  decide +kernel

/-- A TROOM channel in each status, at the edges of its counts and of its window. -/
def channelAt (status : ChannelStatus) (window : List (BitVec 10)) (count : Nat) : State :=
  withFront fun f => { f with troom := { status := status, window := window, count := count, value := 0 } }

theorem witness_ArrivalStepsChannel : base.phase = .running
    ∧ (after (.converterArrival .troom 9#10) (channelAt .unmeasured [] 2)).front.troom.status = .valid
    ∧ (after (.converterArrival .troom 1014#10) (channelAt .valid [9, 9, 9, 9] 2)).front.troom.window = [9, 9, 9, 1014]
    ∧ (after (.converterArrival .troom 9#10) (channelAt .faulted [9, 9, 9] 0)).front.troom.status = .valid
    ∧ (after (.converterArrival .troom 9#10) (channelAt .faulted [9, 9] 0)).front.troom.window = [9, 9, 9]
    ∧ (after (.converterArrival .troom 8#10) (channelAt .faulted [9] 0)).front.troom.window = []
    ∧ (after (.converterArrival .troom 1015#10) (channelAt .valid [9] 1)).front.troom.count = 2
    ∧ (after (.converterArrival .troom 8#10) (channelAt .unmeasured [] 2)).front.troom.status = .faulted := by
  decide +kernel

theorem witness_FrontEndJudgesArrivals : base.phase = .running
    ∧ hasFlag base.notice.conditions .sensorFault = base.front.sensorFault
    ∧ (after (.converterArrival .supply 682#10) base).front.supply.value = 200
    ∧ (after (.converterArrival .supply 681#10) base).front.supplyLow = true
    ∧ (after (.converterArrival .supply 682#10) base).front.supplyLow = false
    ∧ (after (.converterArrival .supply 698#10) (withFront fun f => { f with supplyLow := true })).front.supplyLow = true
    ∧ (after (.converterArrival .supply 700#10) (withFront fun f => { f with supplyLow := true })).front.supplyLow = false
    := by decide +kernel

/-- A particle channel before a window end. -/
def particleAt (status : ParticleStatus) (r saturated : Nat) : State :=
  withFront fun f => { f with particle := { f.particle with status := status, accumulator := r, saturated := saturated } }

theorem witness_ParticleChannelMeasures : base.phase = .running ∧ base.front.particle.accumulator < 10000
    ∧ (after (.particleSample false) base).front.particle.accumulator = 1
    ∧ (after (.particleSample true) base).front.particle.accumulator = 0
    ∧ (after .particleWindowEnd (particleAt .warmUp 10000 0)).front.particle.status = .awaiting
    ∧ (after .particleWindowEnd (particleAt .awaiting 340 0)).front.particle.value = 85
    ∧ (after .particleWindowEnd (particleAt .valid 10000 0)).front.particle.saturated = 1
    ∧ (after .particleWindowEnd (particleAt .valid 10000 1)).front.particle.status = .faulted
    ∧ (after .particleWindowEnd (particleAt .faulted 10000 2)).front.particle.status = .faulted := by decide +kernel

/-- A tach input with `n` periods of 30 ms. -/
def tachAt (timing : Bool) (n : Nat) : State :=
  withFront fun f => { f with tach := { timing := timing, periods := List.replicate n 30000, rpm := 0, valid := false,
                                        stopTimer := startTimer 1000 } }

theorem witness_TachTimesFan : base.phase = .running
    ∧ (after (.tachEdge .rising 30000) (tachAt true 7)).front.tach.periods.length = 7
    ∧ (after (.tachEdge .falling 30000) (tachAt false 0)).front.tach.timing = true
    ∧ (after (.tachEdge .falling 0) (tachAt true 6)).front.tach.periods.getLast? = some 1
    ∧ (after (.tachEdge .falling 30000) (tachAt true 7)).front.tach.rpm = 1000
    ∧ (after (.tachEdge .falling 2000000) (tachAt true 8)).front.tach.periods.getLast? = some 1000000
    ∧ (tachAt true 8).front.tach.stopTimer.isSome = true := by decide +kernel

/-- A door switch that has settled closed, its debounce timer running. -/
def settledDoor : State := withFront fun f => { f with door := { debounced := some false, timer := startTimer 50 } }

theorem witness_SwitchesDebounce : base.phase = .running ∧ base.pins.level .door = true
    ∧ (after (.switchRawChange .door false) settledDoor).front.door.timer = startTimer 50
    ∧ (after (.switchRawChange .door true) settledDoor).front.door.timer = startTimer 50
    ∧ (after (.switchRawChange .door false) base).front.door.timer = none
    ∧ (settledDoor.front.switch .door).timer.isSome = true
    ∧ rawState settledDoor.pins settledDoor.path.working .door = false
    ∧ rawState (after (.switchRawChange .door false) settledDoor).pins settledDoor.path.working .door = true := by
  decide +kernel

theorem witness_SettlingReportsSwitches : up.front.settling.isSome = true := by decide +kernel
theorem witness_PowerFailQueuesUrgentSave : base.phase = .running ∧ base.store.hold = .idle
    ∧ base.pins.holdAck = false ∧ (withStore fun x => { x with hold := .retryWait }).store.hold ≠ .idle := by decide

/-- A fan driven at `effective` toward `target`. -/
def fanAt (effective target : Nat) : State :=
  withAir fun a => { a with effective := effective, target := target, fan := .run, rampTimer := startTimer 100,
                            doorClosed := true }

theorem witness_RampStepMovesDuty : (fanAt 0 31).air.rampTimer.isSome = true
    ∧ (after .rampStep (fanAt 0 31)).air.effective = 31
    ∧ (after .rampStep (fanAt 31 255)).air.effective = 39
    ∧ (after .rampStep (fanAt 43 31)).air.effective = 31
    ∧ (after .rampStep (fanAt 43 0)).air.effective = 31
    ∧ (after .rampStep (fanAt 42 0)).air.effective = 0 := by decide +kernel

/-- An air mover whose three fan timers run, in a sweep point that settles. -/
def settlingPoint : State :=
  withAir fun a => { a with sweep := .measuring 7 .settling, settledTimer := startTimer 3000, armingTimer := startTimer 2000,
                            stallWait := startTimer 30000, fan := .stallWait, target := 31, doorClosed := true }

theorem witness_FanTimersExpire : settlingPoint.air.settledTimer.isSome = true
    ∧ settlingPoint.air.sweep = .measuring 7 .settling ∧ settlingPoint.air.armingTimer.isSome = true
    ∧ settlingPoint.air.stallWait.isSome = true
    ∧ (after .stallWaitExpiry settlingPoint).air.fan = .run
    ∧ (after .stallWaitExpiry (withAir fun a => { a with stallWait := startTimer 30000 })).air.fan = .stopped := by
  decide +kernel

/-- An armed monitor with a zero run. -/
def zeroRunAt (n retries : Nat) : State :=
  withAir fun a => { a with armed := true, zeroRun := n, retries := retries, fan := .run, effective := 31, target := 31,
                            doorClosed := true }

theorem witness_StallCheckSupervisesFan : (zeroRunAt 30 2).phase = .running ∧ (zeroRunAt 30 2).air.armed = true
    ∧ (zeroRunAt 30 2).front.tach.rpm = 0 ∧ (zeroRunAt 30 2).air.zeroRun = 30
    ∧ (after .stallCheck (zeroRunAt 30 2)).air.fan = .stallLockout
    ∧ (after .stallCheck (zeroRunAt 30 1)).air.fan = .stallWait
    ∧ (zeroRunAt 29 1).air.zeroRun < 30 ∧ (zeroRunAt 29 1).air.cleanRun < 600
    ∧ (after .stallCheck (zeroRunAt 29 1)).air.zeroRun = 30 := by decide +kernel

/-- The settled fan of Table 11, period 1. -/
def tablePeriod : State :=
  (withAir fun a => { a with baseline := tableBaseline, effective := 191, target := 191, settled := true, fan := .run,
                             doorClosed := true }).setFront
    { base.front with tach := { base.front.tach with rpm := 1505, valid := true } }

theorem witness_AirflowPeriodFormsQAndF : tablePeriod.phase = .running
    ∧ baseAt tablePeriod.air.baseline tablePeriod.air.effective = some 1400
    ∧ tablePeriod.air.settled = true ∧ tablePeriod.front.tach.valid = true
    ∧ (after .airflowPeriod tablePeriod).air.q = 76 ∧ (after .airflowPeriod tablePeriod).air.airflow = 210
    ∧ (after .airflowPeriod base).air.confirmed = false ∧ base.air.settled = false := by decide +kernel

/-- A sweep that reads a point. -/
def readingPoint (i : Nat) (taken : List Nat) : State :=
  (withAir fun a => { a with sweep := .measuring i (.readings taken), learnTimer := startTimer 500,
                             scratch := List.replicate i 900, doorClosed := true }).setFront
    { base.front with tach := { base.front.tach with rpm := 1, valid := true } }

theorem witness_SweepTakesReadings :
    (after .learnHoldExpiry (withAir fun a => { a with sweep := .measuring 0 .hold, learnTimer := startTimer 5000 })).air.sweep
      = .measuring 0 (.readings [0])
    ∧ (readingPoint 0 [1, 1]).air.learnTimer.isSome = true
    ∧ (after .learnReading (readingPoint 0 [1, 1])).air.sweep = .measuring 0 (.readings [1, 1, 1])
    ∧ (after .learnReading (readingPoint 6 [1, 1, 1])).air.learn = some 255
    ∧ (after .learnReading (readingPoint 7 [1, 1, 1])).air.baseline.getLast? = some (some 1)
    ∧ (after .learnReading (readingPoint 7 [1, 1, 0])).cmd.progress = 11 := by decide +kernel

theorem witness_FanStaysSafe : State.reset.path.raw.length = 64 ∧ State.reset.path.working.bytes = workingImage defaultImage
    ∧ State.reset.path.working.hexh = 365 ∧ State.reset.air.band ≤ 3 ∧ State.reset.air.target = 0
    ∧ State.reset.air.effective = 0 ∧ State.reset.air.overridden = true := by decide +kernel

theorem witness_DosePeriodAccumulates : base.phase = .running ∧ base.filter.remainder < 3600000
    ∧ base.filter.fanSeconds < 60 ∧ base.filter.minutes < 60 ∧ base.filter.dose ≤ 16777215
    ∧ particleInUse base.front base.path.working * base.air.airflow ≤ 1018980 ∧ base.filter.hours < 65535
    ∧ (after .dosePeriod (base.setFilter { base.filter with dose := 16777215 })).filter.dose = 16777215
    ∧ (after .dosePeriod (base.setFilter { base.filter with dose := 40000 })).filter.stage = .exhausted
    ∧ (after .dosePeriod (base.setFilter { base.filter with dose := 32000 })).filter.stage = .worn := by decide +kernel

theorem witness_FilterNeverRenewsItself : Instr.dosePeriod.wellFormed = true ∧ Instr.dosePeriod ≠ .filterReset
    ∧ base.phase = .running ∧ (after .dosePeriod base).phase = .running := by decide +kernel

theorem witness_FilterResetRenewsFilter : base.takesCycles = true ∧ base.memory.wf = true
    ∧ 1 ≤ base.path.working.wworn ∧ base.path.working.learnOnReset = true ∧ base.air.sweep = .none
    ∧ base.cmd.mode = .normal ∧ base.air.fan ≠ .stallLockout
    ∧ (withAir fun a => { a with sweep := .waiting }).air.sweep ≠ .none := by decide +kernel

/-- A running compressor with TCOND VALID at a value. -/
def condenserAt (value : Int) (trips : List Nat) : State :=
  (withDry fun d => { d with comp := .running, trips := trips, uptime := 100 }).setFront
    { base.front with tcond := { base.front.tcond with status := .valid, value := value } }

theorem witness_CheckProtectsCondenser : (condenserAt 620 []).phase = .running
    ∧ (condenserAt 620 []).dry.comp = .running ∧ (condenserAt 620 []).front.tcond.status = .valid
    ∧ ((condenserAt 620 []).path.working.trip : Int) * 10 ≤ (condenserAt 620 []).front.tcond.value
    ∧ (after .dryingCheck (condenserAt 620 [39, 40])).dry.comp = .tripped
    ∧ (after .dryingCheck (condenserAt 620 [40, 100])).dry.comp = .lockedOut
    ∧ (after .dryingCheck (condenserAt 500 [])).dry.warning = true
    ∧ (after .dryingCheck (condenserAt 499 [])).dry.warning = false
    ∧ (after .dryingCheck ((condenserAt 470 []).setDry { base.dry with warning := true })).dry.warning = true
    ∧ (after .dryingCheck ((condenserAt 469 []).setDry { base.dry with warning := true })).dry.warning = false := by
  decide +kernel

/-- A part with RH in a status at a value. -/
def humidityAt (status : ChannelStatus) (value : Int) (x : Demand) : State :=
  (withDry fun d => { d with demand := x }).setFront
    { base.front with rh := { base.front.rh with status := status, value := value } }

theorem witness_CheckEvaluatesDemand : base.phase = .running ∧ base.path.working.mode = .cleanDry
    ∧ (after .dryingCheck (humidityAt .valid 530 .satisfied)).dry.demand = .demand
    ∧ (after .dryingCheck (humidityAt .valid 480 .demand)).dry.demand = .satisfied
    ∧ (after .dryingCheck (humidityAt .valid 481 .demand)).dry.demand = .demand
    ∧ (after .dryingCheck (humidityAt .valid 529 (.timed false))).dry.demand = .satisfied
    ∧ (after .dryingCheck (humidityAt .faulted 0 .satisfied)).dry.demand = .timed true
    ∧ (after .dryingCheck (humidityAt .faulted 0 (.timed false))).dry.demand = .timed false
    ∧ (after .dryingCheck (humidityAt .unmeasured 0 .demand)).dry.demand = .demand := by decide +kernel

/-- A running or defrosting compressor with TEVAP in a status at a value. -/
def evaporatorAt (f : Drying → Drying) (status : ChannelStatus) (value : Int) : State :=
  (withDry f).setFront { base.front with tevap := { base.front.tevap with status := status, value := value } }

theorem witness_DefrostBeginsAndEnds :
    (after .dryingCheck (evaporatorAt (fun d => { d with comp := .running, frostRun := 120, learnPending := true })
      .valid (-10))).dry.comp = .defrost
    ∧ (evaporatorAt id .valid (-10)).path.working.tfrostTenths = -10
    ∧ (after .dryingCheck (evaporatorAt (fun d => { d with comp := .running, runSinceDefrost := 1800 })
      .faulted 0)).dry.comp = .defrost
    ∧ (after .dryingCheck (evaporatorAt (fun d => { d with comp := .defrost, defendRun := 30, offTime := 179 })
      .valid 50)).dry.comp = .offHold
    ∧ (after .dryingCheck (evaporatorAt (fun d => { d with comp := .defrost, defendRun := 30, offTime := 180 })
      .valid 50)).dry.comp = .offReady
    ∧ (after .defrostNow (withDry fun d => { d with comp := .running })).dry.comp = .defrost := by decide +kernel

theorem witness_DryingTimersExpire :
    (after .offTimeExpiry (withDry fun d => { d with offTimer := startTimer 1000, offTime := 179 })).dry.comp = .offReady
    ∧ (after .offTimeExpiry (withDry fun d => { d with offTimer := startTimer 1000, offTime := 178 })).dry.comp = .offHold
    ∧ (after .offTimeExpiry (withDry fun d => { d with offTimer := startTimer 1000, offTime := 600 })).dry.offTime = 600
    ∧ (after .confirmationTimerExpiry (withDry fun d => { d with comp := .preRun, confirmTimer := startTimer 30000 })).dry.comp
        = .offHold
    ∧ (after .extraHoldExpiry (withDry fun d => { d with extraHold := startTimer 60000, offTime := 180 })).dry.comp
        = .offReady
    ∧ (after .defrostMaxExpiry (withDry fun d => { d with comp := .defrost, defrostTimer := startTimer 1 })).dry.comp
        = .offHold
    ∧ (after .timedCycleExpiry (withDry fun d => { d with demand := .timed true, timedTimer := startTimer 1 })).dry.demand
        = .timed false
    ∧ (after .timedCycleExpiry (withDry fun d => { d with demand := .timed false, timedTimer := startTimer 1 })).dry.demand
        = .timed true
    ∧ (after .uptimeMinute (withDry fun d => { d with uptime := 16777215 })).dry.uptime = 16777215 := by decide +kernel

/-- A compressor whose run-second timer runs. -/
def runningAt (seconds minutes : Nat) : State :=
  withDry fun d => { d with comp := .running, runTimer := startTimer 1000, runSeconds := seconds, runMinutes := minutes }

theorem witness_RunSecondCounts : (runningAt 59 59).dry.runTimer.isSome = true ∧ (runningAt 59 59).dry.runSeconds < 60
    ∧ (after .runSecondExpiry (runningAt 58 59)).dry.runSeconds = 59
    ∧ (after .runSecondExpiry (runningAt 59 59)).dry.runHours = 1
    ∧ (after .runSecondExpiry (runningAt 59 59)).tank.estimate = 8 := by decide +kernel

/-- A PRE_RUN whose fan is settled at the dry duty, without a baseline. -/
def preRun : State :=
  ((withAir fun a => { a with effective := 150, target := 150, settled := true, fan := .run, doorClosed := true,
                              drying := some 150 }).setDry
      { base.dry with comp := .preRun, offTime := 180, door := .closed, tank := some .normal, demand := .demand }).setFront
    { base.front with tach := { base.front.tach with rpm := 1, valid := true } }

theorem witness_CompressorStartsOnlyOnAirflow : preRun.dry.comp ≠ .running
    ∧ (after .airflowPeriod preRun).dry.comp = .running ∧ preRun.phase = .running ∧ preRun.cmd.mode = .normal
    ∧ preRun.air.settled = true ∧ preRun.air.effective = preRun.air.target
    ∧ preRun.path.working.dryDuty ≤ preRun.air.effective
    ∧ baseAt preRun.air.baseline preRun.air.effective = none ∧ 0 < preRun.front.tach.rpm := by decide +kernel

/-- The other clauses of the report: the restriction of a choked filter fails a running compressor. -/
def choked : State :=
  (tablePeriod.setDry { base.dry with comp := .running }).setFront
    { base.front with tach := { base.front.tach with rpm := 2600, valid := true } }

theorem witness_airflow_fails_run : choked.dry.comp = .running ∧ choked.air.settled = true
    ∧ choked.air.effective = choked.air.target ∧ (after .airflowPeriod choked).air.confirmed = true
    ∧ (after .airflowPeriod choked).air.airflow < choked.path.working.fminDryM3h
    ∧ (after .airflowPeriod choked).compPin = false := by decide +kernel

theorem witness_CompressorRestsMinOff : preRun.path.raw.length = 64
    ∧ preRun.path.working.bytes = workingImage preRun.path.raw ∧ preRun.path.working.hexh = 365
    ∧ preRun.path.working.minOffSeconds ≤ preRun.dry.offTime ∧ (after .airflowPeriod preRun).dry.comp = .running := by
  decide +kernel

theorem witness_CompressorInterlockHolds : preRun.dry.tank = some .normal ∧ preRun.dry.door = .closed
    ∧ preRun.dry.allStop = false := by decide

/-- A tank with its pump in a state, both timers at their ends. -/
def pumpAt (p : PumpState) (estimate : Nat) : State :=
  withTank fun t => { t with highFloat := some false, fullFloat := some false, present := some true, level := .normal,
                             pump := p, onTime := some 60000, afterRun := some 8000, estimate := estimate }

theorem witness_PumpFollowsFloatsAndTimers : (pumpAt .running 9).tank.onTime.isSome = true
    ∧ (pumpAt .running 9).tank.present = some true ∧ 1 ≤ (pumpAt .running 9).path.working.capacity
    ∧ (after .onTimeEnd (pumpAt .running 9)).tank.pump = .failed
    ∧ (after .onTimeEnd (pumpAt .afterRun 9)).tank.cycles = 1
    ∧ (after .afterRunExpiry (pumpAt .afterRun 9)).tank.pump = .idle
    ∧ (tankEvent (.present true) (withTank fun t => { t with present := some false, fullFloat := some true })).tank.pump
        = .running
    ∧ (tankEvent (.present false) (pumpAt .failed 9)).tank.pump = .idle
    ∧ (tankEvent (.highFloat false) (pumpAt .running 9)).tank.pump = .afterRun
    ∧ (tankEvent (.highFloat true) (pumpAt .afterRun 9)).tank.pump = .running := by decide +kernel

theorem witness_PumpRunsOnlyWithTank : (pumpAt .running 9).front.settling = none
    ∧ (pumpAt .running 9).pumpPin = true ∧ (pumpAt .running 9).tank.present = some true := by decide

/-- A notice unit with a pulse and a level flag latched, the level condition present. -/
def noticed : State := base.setNotice { conditions := 0x001000#24, latched := 0x001800#24, pulseTimer := none, held := false }

theorem witness_ControllerClearsFlags : noticed.takesCycles = true ∧ noticed.memory.wf = true
    ∧ (after (.latchedWrite 0x4B#8 0xFF#8) noticed).notice.latched = 0x001800#24
    ∧ (after (.latchedWrite 0x4C#8 0xFF#8) noticed).notice.latched = 0x001000#24
    ∧ (after .summaryRead noticed).bus.toController = some 12#8
    ∧ (after .summaryRead noticed).notice.latched = 0x001000#24
    ∧ (after .summaryRead base).bus.toController = some 0#8 := by decide +kernel

theorem witness_PresentConditionsStayLatched : noticed.notice.conditions &&& pulseClass = 0
    ∧ noticed.notice.conditions &&& ~~~noticed.notice.latched = 0 := by decide

/-- A filter lamp in a phase of a pattern. -/
def lampAt (p : Pattern) (ph : LampPhase) (elapsed : Nat) : State :=
  base.setLamps { base.lamps with
    filter := { pattern := p, phase := ph, elapsed := elapsed, intensity := 0, timer := startTimer 10 } }

theorem witness_LampsFollowPatterns : (lampAt .blink .on 490).lamps.filter.timer.isSome = true
    ∧ (after (.lampPhaseTimer .filter) (lampAt .blink .on 490)).lamps.filter.phase = .off
    ∧ (after (.lampPhaseTimer .filter) (lampAt .blink .on 480)).lamps.filter.phase = .on
    ∧ (after (.lampPhaseTimer .filter) (lampAt .breathe .rise 490)).lamps.filter.intensity = 100
    ∧ (after (.lampPhaseTimer .filter) (lampAt .breathe .fall 490)).lamps.filter.intensity = 100
    ∧ up.lamps.filter.pattern = up.lamps.selected up.path.working .filter
    ∧ up.lamps.tank.pattern = up.lamps.selected up.path.working .tank := by decide +kernel

theorem witness_ShortTimersEnd :
    ((base.setNotice { base.notice with pulseTimer := startTimer 20 }).notice.pulseTimer.isSome = true)
    ∧ (withPath fun p => { p with quietTimer := startTimer 200 }).path.quietTimer.isSome = true
    ∧ (withStore fun x => { x with changed := true }).store.changed = true ∧ base.store.changed = false
    ∧ (withStore fun x => { x with pulse := startTimer 10 }).store.pulse.isSome = true ∧ base.phase = .running := by
  decide

theorem witness_WritesReachMemoryByPlace : base.memory.wf = true ∧ base.path.page = 0
    ∧ (controllerWrite 0x3F#15 7#8 base).memory.read 0x3F = 7#8
    ∧ (controllerWrite 0x40#15 7#8 base).memory.read 0x40 = 0#8
    ∧ (controllerWrite 0x7A#15 7#8 base).memory.read 0x7A = 0#8
    ∧ (controllerWrite 0x7B#15 7#8 base).memory.read 0x7B = 7#8
    ∧ (controllerWrite 0xA0#15 7#8 up).memory.read 0xA0 = up.path.protectedImage.getD 0 0
    ∧ (controllerWrite 0xC6#15 7#8 up).memory.read 0xC6 = up.path.protectedImage.getD 38 0
    ∧ (controllerWrite 0xC7#15 7#8 base).memory.read 0xC7 = 7#8
    ∧ (controllerWrite 0xFE#15 7#8 up).memory.read 0xFE = up.path.protectedImage.getD 39 0
    ∧ (controllerWrite 0xFF#15 7#8 base).memory.read 0xFF = 7#8
    ∧ (controllerWrite 0x7FFF#15 7#8 base).memory.read 0x7FFF = 7#8 := by decide +kernel

theorem witness_SettingWriteTakesByte : base.takesCycles = true ∧ base.memory.wf = true ∧ base.path.raw.length = 64
    ∧ base.path.working.bytes.length = 64
    ∧ (after (.settingWrite 0x3F#8 0x9A#8) base).path.working.byte 0x3F = 0x77#8
    ∧ (after (.settingWrite 0x00#8 9#8) base).path.working.byte 0 = 3#8
    ∧ (after (.settingWrite 0x00#8 9#8) base).path.lastClamped = 0x00#8
    ∧ (after (.settingWrite 0x0B#8 200#8) base).path.working.byte 0x0D = 202#8 := by decide +kernel

theorem witness_HexhTakesBothBytes : base.takesCycles = true ∧ base.memory.wf = true
    ∧ (after (.hexhLowWrite 0x2C#8) base).path.hexhStage = some 0x2C#8 ∧ base.path.hexhStage = none
    ∧ (730 < 256 * (0x03#8).toNat) := by decide +kernel

theorem witness_SnapshotHoldsOneValue : base.takesCycles = true ∧ base.path.holders.length = 26
    ∧ holderTable[0]? = some (0x50, 2) ∧ holderTable[11]? = some (0xA0, 3) ∧ holderTable[25]? = some (0xC2, 2)
    ∧ (after (.snapshotLoadRead 0xA0#8) base).path.holders[11]? = some (some 0) := by decide +kernel

theorem witness_StrayWriteIsDropped : base.takesCycles = true ∧ base.memory.wf = true
    ∧ (windowPlace 0x41#8).stray = true ∧ (windowPlace 0xFE#8).stray = true
    ∧ (after (.strayWrite 0xFE#8 7#8) base).path.lastStray = 0xFE#8 := by decide +kernel

/-- A move that waits in the queue. -/
def moving : State := after (.anchorWrite 5#8) base

theorem witness_AnchorWriteRequestsMove : base.takesCycles = true ∧ base.memory.wf = true
    ∧ base.store.movePending = false ∧ (0x80#8).toNat % 128 = base.path.page.toNat
    ∧ moving.takesCycles = true ∧ moving.memory.wf = true ∧ .windowMove ∈ moving.store.queue
    ∧ (after (.anchorWrite 0#8) moving).store.target = 0 := by decide +kernel

theorem witness_RawImageMatchesMemory : up.memory.wf = true ∧ up.phase = .running ∧ up.path.raw.length = 64
    ∧ (∀ i, i < 64 → up.memory.read (address up.path.page (BitVec.ofNat 8 i)).toNat = up.path.raw.getD i 0)
    ∧ up.store.service = none := by decide +kernel

theorem witness_StoredUnitStaysConsistent : moving.store.queue = [.windowMove] ∧ moving.store.hold = .requesting
    ∧ moving.store.holdReq = true ∧ moving.store.service = none ∧ moving.phase = .running := by decide +kernel

/-- A request with a job of each kind at the head of the queue. -/
def asking (j : Job) : State :=
  withStore fun x => { x with hold := .requesting, holdReq := true, ackTimer := startTimer 20, queue := [j] }

theorem witness_HoldRequestIsAnswered : (asking .crcUpdate).phase = .running
    ∧ (after .holdackRise (asking .crcUpdate)).store.hold = .burst
    ∧ (after .holdackRise (asking .wearSave)).store.hold = .burst
    ∧ (after .holdackRise (asking .windowMove)).store.hold = .burst
    ∧ (asking .wearSave).store.ackTimer.isSome = true ∧ (asking .wearSave).store.refusals ≤ 2
    ∧ (after .ackTimerExpiry (asking .wearSave)).store.refusals = 1
    ∧ (after .retryTimerExpiry (after .ackTimerExpiry (asking .wearSave))).store.hold = .requesting := by decide +kernel

/-- A burst in service. -/
def bursting (j : Job) : State := after .holdackRise (asking j)

theorem witness_BurstCompletesSave : (bursting .wearSave).phase = .running ∧ (bursting .wearSave).memory.wf = true
    ∧ (bursting .wearSave).store.hold = .burst
    ∧ (bursting .wearSave).store.service = some (.wearSave (recordBytes base 1))
    ∧ (recordBytes base 1).length = 38 ∧ (bursting .wearSave).pins.holdAck = true
    ∧ (bursting .windowMove).store.service = some (.windowMove defaultImage (recordBytes base 1) 0)
    ∧ defaultImage.length = 64 := by decide +kernel

theorem witness_HoldackFallCutsBurst : (bursting .wearSave).store.hold = .burst
    ∧ .windowMove ∉ (bursting .wearSave).store.queue
    ∧ (after (.holdackFall 3) (bursting .wearSave)).store.queue = [.wearSave]
    ∧ (withStore fun x => { x with queue := [.wearSave] }).store.hold = .idle
    ∧ (after (.holdackFall 0) (withStore fun x => { x with queue := [.wearSave] })).store.hold = .requesting
    ∧ (after (.holdackFall 0) (withStore fun x => { x with hold := .retryWait })).store.hold = .requesting := by
  decide +kernel

theorem witness_CommandsAreRefused : base.takesCycles = true ∧ base.memory.wf = true
    ∧ (withAir fun a => { a with sweep := .waiting }).takesCycles = true ∧ base.air.sweep = .none
    ∧ (withCmd fun c => { c with mode := .standalone }).cmd.mode = .standalone
    ∧ base.dry.comp ≠ .running ∧ base.dry.comp ≠ .lockedOut ∧ base.air.fan ≠ .stallLockout
    ∧ base.cmd.mode = .normal ∧ base.path.armed = false
    ∧ (Instr.unknownCommand 0x5A#8).wellFormed = true ∧ (Instr.unknownCommand 0x00#8).wellFormed = true := by
  decide +kernel

theorem witness_LearnCommandsDriveSweep : base.takesCycles = true ∧ base.memory.wf = true ∧ base.air.sweep = .none
    ∧ base.cmd.mode = .normal ∧ base.air.fan ≠ .stallLockout ∧ base.air.doorClosed = false
    ∧ base.dry.comp = base.air.compressor ∧ base.dry.runTime < base.path.working.minRunSeconds
    ∧ (withAir fun a => { a with doorClosed := true }).dry.comp = .offHold
    ∧ (after .learnBaseline (withAir fun a => { a with doorClosed := true })).cmd.progress = 2
    ∧ (after .learnBaseline base).air.sweep = .waiting
    ∧ (after .abortLearn (after .learnBaseline base)).cmd.progress = 11 := by decide +kernel

/-- A compressor and a fan locked out. -/
def lockedOut : State :=
  (withDry fun d => { d with comp := .lockedOut, offTime := 180 }).setAir { base.air with fan := .stallLockout, retries := 3 }

theorem witness_ClearLockoutFreesBoth : lockedOut.takesCycles = true ∧ lockedOut.memory.wf = true
    ∧ lockedOut.dry.comp = .lockedOut ∧ lockedOut.air.fan = .stallLockout ∧ lockedOut.store.movePending = false
    ∧ (after .clearLockout lockedOut).dry.comp = .offReady ∧ (after .clearLockout lockedOut).air.fan = .stopped := by
  decide +kernel

/-- A part in STANDALONE, all-stop in force. -/
def standing : State :=
  ((withCmd fun c => { c with mode := .standalone, allStop := true }).setDry
    { base.dry with mode := .standalone, allStop := true }).setAir { base.air with allStop := true }

theorem witness_ResumeReturnsToNormal : standing.takesCycles = true ∧ standing.memory.wf = true
    ∧ standing.cmd.mode = .standalone ∧ standing.cmd.allStop = true ∧ standing.path.working.mode = .cleanDry
    ∧ (after .resume standing).cmd.mode = .normal := by decide +kernel

theorem witness_SaveNowAndRestartArm : base.takesCycles = true ∧ base.memory.wf = true
    ∧ (after .saveNow base).store.queue = [.wearSave] ∧ (after .restartArm base).path.armed = true := by decide +kernel

/-- A supervision count that runs. -/
def counting (n : Nat) : State := withCmd fun c => { c with count := n, counting := startTimer 1000 }

theorem witness_SupervisionEntersStandalone : (counting 2).cmd.counting.isSome = true
    ∧ (after .supervisionCount (counting 2)).cmd.count = 1
    ∧ (after .supervisionCount (counting 1)).cmd.mode = .standalone := by decide +kernel

/-! ### Witnesses of the further clauses, at the values where they meet -/

theorem base_settingsWritable : base.settingsWritable := by
  unfold State.settingsWritable
  decide +kernel

/-- A supply of 20.0 V at the detector: a write of the threshold moves it. -/
def supplyAt (value : Int) (low : Bool) : State :=
  withFront fun f => { f with supply := { f.supply with status := .valid, value := value }, supplyLow := low }

theorem witness_threshold_write_moves_detector :
    (after (.settingWrite 0x2F#8 201#8) (supplyAt 200 false)).front.supplyLow = true
    ∧ (after (.settingWrite 0x2F#8 201#8) (supplyAt 200 false)).dry.supplyLow = true
    ∧ (after (.settingWrite 0x2F#8 196#8) (supplyAt 200 true)).front.supplyLow = true
    ∧ (after (.settingWrite 0x2F#8 195#8) (supplyAt 200 true)).front.supplyLow = false
    ∧ (supplyAt 200 false).takesCycles = true := by decide +kernel

/-- R25 with the default thresholds: a band rises at its threshold and falls below four fifths of it. -/
def bandAt (band r : Nat) : State :=
  (particleAt .valid r 0).setAir { base.air with band := band, auto := some 31 }

theorem witness_window_end_moves_band :
    (bandAt 0 0).path.working.t1 = 12 ∧ (bandAt 0 0).path.working.t2 = 35 ∧ (bandAt 0 0).path.working.kp = 64
    ∧ (after .particleWindowEnd (bandAt 0 48)).air.band = 1 ∧ (after .particleWindowEnd (bandAt 0 47)).air.band = 0
    ∧ (after .particleWindowEnd (bandAt 2 112)).air.band = 2 ∧ (after .particleWindowEnd (bandAt 2 111)).air.band = 1
    ∧ (after .particleWindowEnd (bandAt 0 48)).air.auto = some ((bandAt 0 0).path.working.nat 0x08) := by
  decide +kernel

theorem witness_polarity_write_restarts_debounce :
    (after (.settingWrite 0x29#8 (settledDoor.path.working.byte 0x29 ^^^ (1#8 <<< polarityBit .door)))
      (withFront fun f => { f with door := { debounced := some false, timer := none } })).front.door.timer
        = startTimer 50
    ∧ (after (.settingWrite 0x29#8 (base.path.working.byte 0x29 ^^^ (1#8 <<< polarityBit .door))) base).front.door.timer
        = none := by decide +kernel

theorem witness_ramp_timers : (after .rampStep (fanAt 0 31)).air.armingTimer = startTimer 2000
    ∧ (after .rampStep (fanAt 0 31)).air.settledTimer = startTimer 3000
    ∧ (after .rampStep ((fanAt 0 31).setAir { (fanAt 0 31).air with supplyLow := true })).air.armingTimer = none
    ∧ (after .rampStep ((fanAt 42 0).setAir { (fanAt 42 0).air with armed := true, zeroRun := 5 })).air.armed = false := by
  decide +kernel

/-- A fan that turns, at the end of a clean run. -/
def cleanRunAt (n : Nat) : State :=
  ((withAir fun a => { a with cleanRun := n, fan := .run, effective := 31, target := 31, retries := 2,
                              doorClosed := true }).setFront
    { base.front with tach := { base.front.tach with rpm := 900, valid := true } }).setDry
      { base.dry with fanStall := true }

theorem witness_clean_run_ends_episode : (cleanRunAt 600).phase = .running ∧ (cleanRunAt 600).air.cleanRun = 600
    ∧ (cleanRunAt 600).air.fan = .run ∧ 31 ≤ (cleanRunAt 600).air.effective ∧ 0 < (cleanRunAt 600).front.tach.rpm
    ∧ (after .stallCheck (cleanRunAt 600)).air.retries = 0 ∧ (after .stallCheck (cleanRunAt 600)).dry.fanStall = false
    ∧ (after .stallCheck (cleanRunAt 599)).air.retries = 2 ∧ (after .stallCheck (cleanRunAt 599)).air.cleanRun = 600 := by
  decide +kernel

theorem witness_wear_write_judges_stage :
    (after (.settingWrite 0x1A#8 79#8) (base.setFilter { base.filter with dose := 32000 })).filter.stage = .worn
    ∧ (after (.settingWrite 0x1A#8 81#8) (base.setFilter { base.filter with dose := 32000 })).filter.stage = .good := by
  decide +kernel

/-- A tripped compressor with TCOND VALID at a value. -/
def trippedAt (value : Int) (offTime : Nat) : State :=
  (withDry fun d => { d with comp := .tripped, offTime := offTime }).setFront
    { base.front with tcond := { base.front.tcond with status := .valid, value := value } }

theorem witness_check_recovers_trip : (trippedAt 520 179).phase = .running ∧ (trippedAt 520 179).dry.comp = .tripped
    ∧ (after .dryingCheck (trippedAt 520 179)).dry.comp = .offHold
    ∧ (after .dryingCheck (trippedAt 520 180)).dry.comp = .offReady
    ∧ (after .dryingCheck (trippedAt 521 180)).dry.comp = .tripped := by decide +kernel

/-- A compressor that waits, TCOND and RH valid, every permission held, RH at a value. -/
def waitingAt (c : CompState) (rh : Int) : State :=
  (withDry fun d => { d with comp := c, offTime := 180, demand := .demand, tank := some .normal, door := .closed,
                             confirmTimer := if c = .preRun then startTimer 30000 else none }).setFront
    { base.front with tcond := { base.front.tcond with status := .valid, value := 300 },
                      rh := { base.front.rh with status := .valid, value := rh } }

theorem witness_check_begins_pre_run : (waitingAt .offReady 530).path.working.minOffSeconds ≤ (waitingAt .offReady 530).dry.offTime
    ∧ (waitingAt .offReady 530).startPermitted ∧ (after .dryingCheck (waitingAt .offReady 530)).dry.demandOn
    ∧ (after .dryingCheck (waitingAt .offReady 530)).dry.comp = .preRun
    ∧ (after .dryingCheck (waitingAt .offReady 480)).dry.comp = .offReady
    ∧ (after .dryingCheck (waitingAt .preRun 530)).dry.confirmTimer = startTimer 30000
    ∧ (after .dryingCheck (waitingAt .preRun 480)).dry.comp = .offReady
    ∧ (after .dryingCheck (waitingAt .preRun 480)).dry.confirmTimer = none := by
  unfold State.startPermitted Drying.demandOn
  decide +kernel

theorem witness_setpoint_write_judges_demand : (waitingAt .offHold 530).front.rh.status = .valid
    ∧ (waitingAt .offHold 530).path.working.mode = .cleanDry
    ∧ (after (.settingWrite 0x03#8 55#8) (waitingAt .offHold 530)).dry.demand = .satisfied
    ∧ (after (.settingWrite 0x03#8 54#8) (waitingAt .offHold 530)).dry.demand = .demand
    ∧ (after (.settingWrite 0x3C#8 70#8) (waitingAt .offHold 530)).dry.demand = .demand := by decide +kernel

theorem witness_min_off_write_moves_state :
    (after (.settingWrite 0x1C#8 18#8) (withDry fun d => { d with offTime := 180 })).dry.comp = .offReady
    ∧ (after (.settingWrite 0x1C#8 19#8) (withDry fun d => { d with offTime := 180 })).dry.comp = .offHold
    ∧ (after (.settingWrite 0x1C#8 19#8) (withDry fun d => { d with comp := .preRun, offTime := 180 })).dry.comp
        = .offHold := by decide +kernel

/-- A run in its min-run time, the demand satisfied: its stop is deferred. -/
def deferred (runTime : Nat) : State :=
  (runningAt 0 0).setDry { (runningAt 0 0).dry with runTime := runTime, demand := .satisfied }

theorem witness_deferred_stop : (deferred 119).path.working.minRunSeconds = 120
    ∧ (after .runSecondExpiry (deferred 118)).compPin = true ∧ (after .runSecondExpiry (deferred 119)).compPin = false
    ∧ (after .runSecondExpiry (deferred 119)).dry.runSecondDue = true
    ∧ (after (.settingWrite 0x1D#8 11#8) (deferred 109)).compPin = true
    ∧ (after (.settingWrite 0x1D#8 11#8) (deferred 110)).compPin = false := by decide +kernel

/-- R107: a run-minute of the instant in which the tank is taken away counts while the tank is absent. -/
def runWithTank : State :=
  ((runningAt 59 59).setTank
      { base.tank with present := some true, level := .normal, highFloat := some false, fullFloat := some false }).setFront
    { base.front with settling := none }

theorem witness_run_minute_after_removal : runWithTank.dry.comp = .running ∧ runWithTank.dry.runTimer.isSome = true
    ∧ runWithTank.dry.runSeconds = 59 ∧ runWithTank.tank.present = some true ∧ runWithTank.tank.level ≠ .absent
    ∧ (tankEvent (.present false) runWithTank).dry.runSecondDue = true
    ∧ (after .runSecondExpiry (tankEvent (.present false) runWithTank)).tank.estimate = 8
    ∧ (after .runSecondExpiry (tankEvent (.present false) runWithTank)).dry.runHours = 1
    ∧ (after .runSecondExpiry (after .runSecondExpiry (tankEvent (.present false) runWithTank))).tank.estimate = 8 := by
  decide +kernel

theorem witness_pump_fitted_write : (pumpAt .running 9).path.working.pumpFitted = true
    ∧ (after (.settingWrite 0x23#8 0#8) (pumpAt .running 9)).tank.pump = .idle
    ∧ (after (.settingWrite 0x23#8 1#8) (after (.settingWrite 0x23#8 0#8)
        (withTank fun t => { t with present := some true, highFloat := some true, fullFloat := some false }))).tank.pump
        = .running := by decide +kernel

theorem witness_mask_write_moves_line : noticed.noticePin = true
    ∧ (after (.settingWrite 0x31#8 0x10#8) noticed).noticePin = false
    ∧ (after (.settingWrite 0x31#8 0x10#8) noticed).path.working.masks = 0x001000#24
    ∧ (after (.settingWrite 0x31#8 0x08#8) noticed).noticePin = true := by decide +kernel

theorem witness_lamp_pattern_and_level :
    (after (.settingWrite 0x34#8 1#8) (after (.settingWrite 0x36#8 4#8) base)).lamps.filter.phase = .rise
    ∧ (after (.settingWrite 0x38#8 90#8) (lampAt .on .on 0)).lamps.filter.intensity = 90
    ∧ (after (.settingWrite 0x38#8 90#8) (lampAt .blink .off 0)).lamps.filter.intensity = 0 := by decide +kernel

theorem witness_save_timer_runs : up.store.saveTimer = startTimer 900000
    ∧ (after .saveTimerExpiry (up.setStore { up.store with changed := true })).store.queue = [.wearSave]
    ∧ (after .saveTimerExpiry up).store.queue = [] ∧ (after .restart armed).store.saveTimer = startTimer 900000
    ∧ (after .saveTimerExpiry base).store = base.store := by decide +kernel

theorem witness_both_strobes_write :
    (memoryCycle { select := true, read := true, write := true } 0x3F#15 7#8 base).memory.read 0x3F = 7#8
    ∧ (memoryCycle Strobes.reading 0x3F#15 7#8 base).memory.read 0x3F = 0#8
    ∧ memoryCycle { select := false, read := true, write := true } 0x3F#15 7#8 base = base := by decide +kernel

theorem witness_group_clamp_and_deliveries :
    (after (.settingWrite 0x0B#8 200#8) base).path.lastClamped = 0x0C#8
    ∧ hasFlag (after (.settingWrite 0x0B#8 200#8) base).notice.latched .settingClamped = true
    ∧ (after (.settingWrite 0x01#8 0#8) base).air.auto = some (base.path.working.nat 0x07)
    ∧ (after (.settingWrite 0x01#8 2#8) base).air.user = some (base.path.working.nat 0x08)
    ∧ (after (.settingWrite 0x00#8 0#8) base).air.user = none
    ∧ (after (.settingWrite 0x0F#8 99#8) (withAir fun a => { a with defrost := some 31 })).air.defrost = some 99
    ∧ (after (.settingWrite 0x3B#8 99#8) (withAir fun a => { a with standalone := some 31 })).air.standalone = some 99
    ∧ (after (.settingWrite 0x3D#8 1#8) ((withCmd fun c => { c with mode := .standalone, allStop := false }).setNotice
        { base.notice with conditions := Flag.fanStall.bit, latched := Flag.fanStall.bit })).cmd.allStop = true := by
  decide +kernel

theorem witness_hexh_clamps_at_ends :
    (after (.hexhHighWrite 0#8) (after (.hexhLowWrite 0#8) base)).path.working.hexh = 1
    ∧ (after (.hexhHighWrite 0#8) (after (.hexhLowWrite 0#8) base)).path.lastClamped = 0x19#8
    ∧ (after (.hexhHighWrite 0#8) (after (.hexhLowWrite 1#8) base)).path.lastClamped = base.path.lastClamped
    ∧ (after (.hexhHighWrite 2#8) (after (.hexhLowWrite 0xDA#8) base)).path.lastClamped = base.path.lastClamped
    ∧ (after (.hexhHighWrite 2#8) (after (.hexhLowWrite 0xDB#8) base)).path.lastClamped = 0x19#8 := by decide +kernel

theorem witness_protected_image_matches : up.protectedMatches ∧ up.store.recordSized ∧ ¬ up.movesInPlace := by
  have hs : up.store.service = none := by decide +kernel
  refine ⟨fun _ => ?_, fun sv r h => ?_, fun h => ?_⟩
  · unfold State.protectedInMemory
    decide +kernel
  · rw [hs] at h
    cases h
  · obtain ⟨_, _, h⟩ := h
    rw [hs] at h
    cases h

theorem witness_burst_protected_image : up.path.protectedImage.length = 40
    ∧ base.path.protectedImage.length = 40
    ∧ (after .burstComplete (bursting .crcUpdate)).path.protectedImage.getD 39 0 = crc8 defaultImage
    ∧ (after .burstComplete (bursting .wearSave)).path.protectedImage.getD 36 0 = 1#8 := by decide +kernel

theorem witness_cut_of_each_kind : (bursting .crcUpdate).store.service = some (.crcUpdate (crc8 defaultImage))
    ∧ .windowMove ∉ (bursting .crcUpdate).store.queue ∧ .windowMove ∉ (bursting .windowMove).store.queue
    ∧ (after (.holdackFall 0) (bursting .crcUpdate)).memory.read 0xFE = 0#8
    ∧ (after (.holdackFall 1) (bursting .crcUpdate)).memory.read 0xFE = crc8 defaultImage
    ∧ (after (.holdackFall 5) (bursting .windowMove)).store.queue = [.windowMove]
    ∧ (asking .wearSave).store.hold = .requesting
    ∧ (after (.holdackFall 0) (asking .wearSave)).store.hold = .requesting := by decide +kernel

/-- A drain whose head is a CRC_UPDATE, and one whose head is a move to page 5. -/
def drainAt (q : List Job) : State :=
  draining.setStore { draining.store with queue := q, target := 5 }

theorem witness_drain_of_each_kind : (drainAt [.crcUpdate]).phase = .draining ∧ (drainAt [.crcUpdate]).memory.wf = true
    ∧ ((drainAt [.windowMove]).store.drain.map (·.raw.length)) = some 64
    ∧ (after .drainJobComplete (drainAt [.crcUpdate])).phase = .loading
    ∧ (after .drainJobComplete (drainAt [.windowMove])).path.page = 5
    ∧ (after .drainJobComplete (drainAt [.windowMove])).memory.read (0x500 + 1) = 2#8 := by decide +kernel

theorem witness_bus_lines : base.waitPin 0 = false ∧ (after (.settingWrite 0x01#8 2#8) base).waitPin 0
      = decide (0 < max (base.path.working.nat 0x3F % 16) (base.path.working.nat 0x3F / 16))
    ∧ base.addressLines true = .input ∧ (bursting .wearSave).addressLines true = .driven
    ∧ (bursting .wearSave).controllerDataLines = .released ∧ loading.addressLines true = .driven
    ∧ loading.addressLines false = .released ∧ State.reset.memoryDataLines true = .released := by decide +kernel

theorem witness_drain_move_frame : ((drainAt [.windowMove]).store.drain.map (·.record.length)) = some 38
    ∧ (after .drainJobComplete ((drainAt [.windowMove]).setMemory
        ((drainAt [.windowMove]).memory.writeAll [(0x540#15, 7#8), (0x59F#15, 7#8), (0x5C7#15, 7#8), (0x5FF#15, 7#8)]))).memory.read
          0x540 = 7#8
    ∧ (after .drainJobComplete (drainAt [.windowMove])).store.lastCheck
        = (after .drainJobComplete (drainAt [.windowMove])).memory.read 0x5C6 := by decide +kernel

/-- Table 11, period 1, the filter evaluated with the restriction that the period forms: floor(76 × 100 / 200) at the default
Qexh. -/
theorem witness_airflow_evaluates_wear : (after .airflowPeriod tablePeriod).air.q = 76 ∧ tablePeriod.air.q = 0
    ∧ (after .airflowPeriod tablePeriod).filter.wear = 38
    ∧ (after .airflowPeriod base).filter = base.filter := by decide +kernel

/-- A tank in its place with its pump idle, a float raised or both lowered. -/
def idlePump (high full : Bool) (estimate : Nat) : State :=
  withTank fun t => { t with highFloat := some high, fullFloat := some full, present := some true, level := .normal,
                             pump := .idle, estimate := estimate }

theorem witness_float_starts_pump : (idlePump false false 0).path.working.pumpFitted = true
    ∧ (tankEvent (.highFloat true) (idlePump false false 0)).tank.pump = .running
    ∧ (tankEvent (.fullFloat true) (idlePump false false 0)).pumpPin = true
    ∧ (tankEvent (.highFloat false) (idlePump true false 0)).tank.pump = .idle
    ∧ (tankEvent (.highFloat true) (withTank fun t => { t with present := some false })).tank.pump = .idle
    ∧ (tankEvent (.fullFloat false) (pumpAt .running 9)).tank.pump = .afterRun
    ∧ (tankEvent (.fullFloat true) (pumpAt .afterRun 9)).tank.pump = .running := by decide +kernel

/-- A running pump under an after-run setting of 0. -/
def shortAfterRun : State :=
  (pumpAt .running 9).setPath { base.path with working := Settings.ofRaw (defaultImage.set 0x27 0#8) }

theorem witness_after_run_zero : shortAfterRun.path.working.pumpAfterRun = 0 ∧ 1 ≤ shortAfterRun.path.working.capacity
    ∧ (tankEvent (.highFloat false) shortAfterRun).tank.pump = .idle
    ∧ (tankEvent (.fullFloat false) shortAfterRun).tank.cycles = 1 := by decide +kernel

/-- R105 with the default capacity of 45 and rate of 8: thresholds at 6750 mL and 9000 mL. -/
theorem witness_estimate_thresholds : base.path.working.capacity = 45 ∧ base.path.working.condensateRate = 8
    ∧ (tankEvent .runMinute (idlePump false false 6741)).tank.oncePerFill = false
    ∧ (tankEvent .runMinute (idlePump false false 6742)).tank.oncePerFill = true
    ∧ hasFlag (tankEvent .runMinute (idlePump false false 6742)).notice.latched .floatCheck = true
    ∧ hasFlag (tankEvent .runMinute (idlePump true false 6742)).notice.latched .floatCheck = false
    ∧ (tankEvent .runMinute (idlePump false false 8991)).tank.estFull = false
    ∧ (tankEvent .runMinute (idlePump false false 8992)).tank.estFull = true
    ∧ (tankEvent .runMinute (idlePump false false 8992)).tank.pump = .running
    ∧ (after (.settingWrite 0x24#8 44#8) (idlePump false false 6600)).tank.oncePerFill = true
    ∧ (after (.settingWrite 0x24#8 44#8) (idlePump false false 6599)).tank.oncePerFill = false := by decide +kernel

theorem witness_float_check :
    hasFlag (tankEvent (.fullFloat true) (idlePump false false 0)).notice.latched .floatCheck = true
    ∧ hasFlag (tankEvent (.fullFloat true) (idlePump true false 0)).notice.latched .floatCheck = false
    ∧ hasFlag (tankEvent (.highFloat false) (idlePump true true 0)).notice.latched .floatCheck = true
    ∧ hasFlag (tankEvent (.highFloat false) (idlePump true false 0)).notice.latched .floatCheck = false
    ∧ hasFlag (tankEvent (.settle false true true) base).notice.latched .floatCheck = true
    ∧ hasFlag (tankEvent (.settle true true true) base).notice.latched .floatCheck = false := by decide +kernel

/-- Writes of max run and after-run against an on-time of 60 s and an after-run time of 8 s. -/
theorem witness_pump_setting_writes : base.path.working.pumpMaxRun = 60 ∧ base.path.working.pumpAfterRun = 8
    ∧ (after (.settingWrite 0x26#8 59#8) (pumpAt .running 9)).tank.pump = .failed
    ∧ (after (.settingWrite 0x26#8 61#8) (pumpAt .running 9)).tank.pump = .running
    ∧ (after (.settingWrite 0x26#8 60#8) (pumpAt .running 9)).tank.pump = .running
    ∧ (after (.settingWrite 0x26#8 59#8) (pumpAt .afterRun 9)).tank.cycles = 1
    ∧ (after (.settingWrite 0x27#8 7#8) (pumpAt .afterRun 9)).tank.pump = .idle
    ∧ (after (.settingWrite 0x27#8 9#8) (pumpAt .afterRun 9)).tank.pump = .afterRun := by decide +kernel

theorem witness_dry_duty_write :
    (after (.settingWrite 0x0E#8 99#8) (waitingAt .preRun 530)).air.drying = none
    ∧ (after (.settingWrite 0x0E#8 99#8) ((waitingAt .preRun 530).setAir { base.air with drying := some 150 })).air.drying
        = some 99
    ∧ (after (.settingWrite 0x0E#8 99#8) (waitingAt .offReady 530)).air.drying = some 99 := by decide +kernel

/-- R124: at the default level of 200 a lamp in ON gives 156 under PERCEPTUAL. -/
theorem witness_lamp_drive :
    (after (.settingWrite 0x39#8 1#8) (base.setLamps { base.lamps with
      filter := { base.lamps.filter with intensity := 200 } })).lampPin .filter = 156
    ∧ (after (.settingWrite 0x39#8 0#8) (base.setLamps { base.lamps with
      filter := { base.lamps.filter with intensity := 200 } })).lampPin .filter = 200 := by decide +kernel

theorem witness_latched_write_line : (after (.latchedWrite 0x4C#8 0xFF#8) noticed).noticePin = true
    ∧ (after (.latchedWrite 0x4C#8 0xFF#8) (noticed.setNotice { noticed.notice with conditions := 0 })).noticePin = false := by
  decide +kernel

/-- A notice unit after its first load, nothing latched. -/
def quietLine : State := base.setNotice { base.notice with held := false }

theorem witness_stray_pulse : (after (.strayWrite 0x41#8 7#8) quietLine).notice.pulseTimer = startTimer 20
    ∧ quietLine.path.working.masks.getLsbD 9 = false ∧ quietLine.notice.held = false
    ∧ (after (.strayWrite 0x41#8 7#8) noticed).notice.pulseTimer = none
    ∧ (after (.strayWrite 0x41#8 7#8) (after (.settingWrite 0x31#8 0x02#8) quietLine)).notice.pulseTimer = none
    ∧ (after (.strayWrite 0x41#8 7#8) base).notice.pulseTimer = none := by
  decide +kernel

/-- A drain whose save is written, a CRC_UPDATE still to write, and a change of the record reported before the restart. -/
def changedDrain : State := (drainAt [.crcUpdate]).setStore { (drainAt [.crcUpdate]).store with changed := true }

theorem witness_save_timer_in_drain : changedDrain.phase = .draining ∧ changedDrain.store.saveTimer.isSome = true
    ∧ (after .saveTimerExpiry changedDrain).store.queue = [.crcUpdate, .wearSave]
    ∧ (after .saveTimerExpiry changedDrain).store.holdReq = false
    ∧ (after .drainJobComplete (after .saveTimerExpiry changedDrain)).phase = .draining
    ∧ (after .drainJobComplete (after .drainJobComplete (after .saveTimerExpiry changedDrain))).phase = .loading
    ∧ (after .saveTimerExpiry ((drainAt [.windowMove]).setStore { (drainAt [.windowMove]).store with changed := true })).store.queue
        = [.windowMove] := by decide +kernel

/-- A supervision count at its last second, the controller-reset enable 1. -/
def expiring : State :=
  (counting 1).setPath { base.path with working := Settings.ofRaw (defaultImage.set 0x3E 1#8) }

theorem witness_write_of_expiry_instant : expiring.path.working.controllerResetEnable = true
    ∧ expiring.takesCycles = true ∧ expiring.path.working.bytes.length = 64
    ∧ (after .supervisionCount expiring).controllerResetPin = true
    ∧ (after .resume (after .supervisionCount expiring)).cmd.mode = .normal
    ∧ (after (.settingWrite 0x01#8 2#8) (after .supervisionCount expiring)).path.working.byte 0x01 = 2#8
    ∧ (after (.settingWrite 0x01#8 2#8) (after .supervisionCount expiring)).cmd.count = 0
    ∧ (after .resume (tick (after .supervisionCount expiring))).cmd.mode = .standalone := by decide +kernel

/-! ### What a load starts, the overlay cells and the wait counts -/

theorem witness_load_starts_timers : loading.phase = .loading ∧ up.front.settling = startTimer 50
    ∧ up.front.tach.stopTimer = startTimer 1000 ∧ up.dry.offTime = 0 ∧ up.dry.offTimer = startTimer 1000
    ∧ up.cmd.counting = none ∧ up.air.auto = some 80 ∧ up.air.user = none := by decide +kernel

theorem witness_load_asks_for_bus : loading.pins.holdAck = false
    ∧ (after (.loadComplete true) loading).holdReqPin = true
    ∧ (after (.loadComplete true) (loading.setPins { loading.pins with holdAck := true })).holdReqPin = false := by
  decide +kernel

/-- The text after Table 32: -2.0 °C reads 0xEC and 0xFF. -/
theorem test_signed_cell : seen (withFront fun f => { f with troom := { f.troom with value := -20 } }) 0x52#8 = some 0xEC#8
    ∧ seen (withFront fun f => { f with troom := { f.troom with value := -20 } }) 0x53#8 = some 0xFF#8 := by
  decide +kernel

/-- The text after Table 32: an urgent WEAR_SAVE ahead of a pending move reads 0x0E. -/
theorem test_queue_cell : seen (withStore fun x => { x with queue := [.wearSave, .windowMove] }) 0x79#8 = some 0x0E#8 := by
  decide +kernel

/-- R143: an empty holder answers the live value, a loaded one its own. -/
theorem witness_holder_answers : seen (withAir fun a => { a with airflow := 0x0201 }) 0x64#8 = some 2#8
    ∧ seen (after (.snapshotLoadRead 0x63#8) (withAir fun a => { a with airflow := 0x0201 })) 0x64#8 = some 2#8
    ∧ seen ((after (.snapshotLoadRead 0x63#8) (withAir fun a => { a with airflow := 0x0201 })).setAir base.air) 0x64#8
        = some 2#8 := by decide +kernel

/-- A running part with Wm 2 and Wc 1 (R175: the lower half of 0x3F is Wm). -/
def slowMemory : State := withPath fun p => { p with working := Settings.ofRaw (defaultImage.set 0x3F 0x12#8) }

/-- R134: W by the cycle's treatment. -/
theorem witness_wait_counts : (controllerRead 0x3F#15 slowMemory).bus.waits = 2
    ∧ (controllerRead 0x41#15 slowMemory).bus.waits = 1 ∧ (controllerWrite 0x9F#15 0#8 slowMemory).bus.waits = 2
    ∧ (controllerWrite 0x100#15 0#8 slowMemory).bus.waits = 2 ∧ (after (.anchorWrite 0#8) slowMemory).bus.waits = 2
    ∧ (after (.strayWrite 0x41#8 0#8) slowMemory).bus.waits = 2 ∧ (after .saveNow slowMemory).bus.waits = 2
    ∧ (controllerRead 0x41#15 slowMemory).waitPin 0 = true ∧ (controllerRead 0x41#15 slowMemory).waitPin 1 = false := by
  decide +kernel

/-- A part at the instant of a supervision expiry, the pulse on nCRST begun. -/
def pulseBegun : State :=
  after .supervisionCount
    (State.setPath (withCmd fun c => { c with count := 1, counting := startTimer 1000 })
      { base.path with working := Settings.ofRaw (defaultImage.set 0x3E 1#8) })

/-- R176: the pulse asserts nCRST and leaves nWAIT to R134. -/
theorem witness_pulse_leaves_wait : pulseBegun.controllerResetPin = true
    ∧ (after (.settingWrite 0x01#8 2#8) pulseBegun).waitPin 6 = true
    ∧ (after (.settingWrite 0x01#8 2#8) pulseBegun).waitPin 7 = false := by decide +kernel

end Sys2Proof.Tests
end

section
/-! SUPPORT. What the follow-on work of an event (drying's rules, the sweep, arbitration, all-stop) leaves as it is in the
air mover, in drying and in the lamp engine, and that it starts neither the fan nor the compressor. -/

namespace Sys2Proof.Machine

/-! ### The air mover -/

/-- From `a` to `b` the air mover keeps the door and supply copies, the band and the AUTO slot, and a fan at 0 stays
there. -/
structure AirMover.Undisturbed (a b : AirMover) : Prop where
  door : b.doorClosed = a.doorClosed
  supply : b.supplyLow = a.supplyLow
  band : b.band = a.band
  auto : b.auto = a.auto
  fanOff : a.effective = 0 → b.effective = 0

theorem AirMover.Undisturbed.refl (a : AirMover) : a.Undisturbed a := ⟨rfl, rfl, rfl, rfl, id⟩

theorem AirMover.Undisturbed.trans {a b c : AirMover} (h : a.Undisturbed b) (k : b.Undisturbed c) : a.Undisturbed c :=
  ⟨k.door.trans h.door, k.supply.trans h.supply, k.band.trans h.band, k.auto.trans h.auto, k.fanOff ∘ h.fanOff⟩

theorem AirMover.retarget_undisturbed (a : AirMover) (d : Nat) : a.Undisturbed (a.retarget d) := by
  simp only [retarget]
  split
  · exact .refl a
  · split
    · exact ⟨rfl, rfl, rfl, rfl, id⟩
    · exact ⟨rfl, rfl, rfl, rfl, id⟩

theorem AirMover.follow_undisturbed (a : AirMover) : a.Undisturbed a.follow := by
  unfold follow
  split
  · exact .refl a
  · exact ⟨rfl, rfl, rfl, rfl, id⟩

theorem AirMover.driveRamp_undisturbed (a : AirMover) : a.Undisturbed a.driveRamp := by
  unfold driveRamp
  split
  · exact ⟨rfl, rfl, rfl, rfl, id⟩
  · split
    · exact .refl a
    · exact ⟨rfl, rfl, rfl, rfl, id⟩

/-- Arbitration after its override: the duty in force is moved by the ramp alone. -/
theorem AirMover.arbitrate_tail_undisturbed (a : AirMover) (d : Nat) :
    a.Undisturbed ((a.retarget d).follow).driveRamp :=
  ((a.retarget_undisturbed d).trans (follow_undisturbed _)).trans (driveRamp_undisturbed _)

theorem AirMover.arbitrate_undisturbed (a : AirMover) : a.Undisturbed a.arbitrate := by
  simp only [arbitrate]
  split
  · have cut : a.Undisturbed a.cutDuty := ⟨rfl, rfl, rfl, rfl, fun _ => rfl⟩
    exact cut.trans (arbitrate_tail_undisturbed _ _)
  · exact arbitrate_tail_undisturbed _ _

/-- R27: under an override arbitration cuts the duty to 0 at once. -/
theorem AirMover.arbitrate_effective_of_overridden (a : AirMover) (h : a.overridden = true) :
    a.arbitrate.effective = 0 := by
  simp only [arbitrate, h, if_true]
  exact (arbitrate_tail_undisturbed a.cutDuty a.chosen).fanOff rfl

theorem AirMover.beginHold_undisturbed (a : AirMover) : a.Undisturbed a.beginHold := by
  unfold beginHold
  split
  · split
    · exact ⟨rfl, rfl, rfl, rfl, id⟩
    · exact .refl a
  · exact .refl a

theorem AirMover.measure_undisturbed (a : AirMover) (i : Nat) : a.Undisturbed (a.measure i) := by
  have slot : a.Undisturbed
      { a with sweep := .measuring i .settling, learn := some (dutyPoint i), learnTimer := none } :=
    ⟨rfl, rfl, rfl, rfl, id⟩
  exact (slot.trans (arbitrate_undisturbed _)).trans (beginHold_undisturbed _)

theorem AirMover.takeCompressor_undisturbed (a : AirMover) (w : Settings) (c : CompState) :
    a.Undisturbed (a.takeCompressor w c) := by
  have slots : a.Undisturbed
      { a with compressor := c
               drying := if c = .preRun ∨ c = .running then some w.dryDuty else none
               defrost := if c = .defrost then some w.defrostDuty else none } :=
    ⟨rfl, rfl, rfl, rfl, id⟩
  exact slots.trans (arbitrate_undisturbed _)

theorem AirMover.endSweep_undisturbed (a : AirMover) : a.Undisturbed a.endSweep := by
  have slot : a.Undisturbed { a with sweep := .none, scratch := [], learn := none, learnTimer := none } :=
    ⟨rfl, rfl, rfl, rfl, id⟩
  exact slot.trans (arbitrate_undisturbed _)

/-! ### Drying and the whole part -/

/-- From `d` to `e` drying keeps its copies of the door, the tank and the supply, and a compressor that does not run stays
so. -/
structure Drying.Undisturbed (d e : Drying) : Prop where
  door : e.door = d.door
  tank : e.tank = d.tank
  supply : e.supplyLow = d.supplyLow
  compOff : d.comp ≠ .running → e.comp ≠ .running

/-- The air mover and drying undisturbed, and the lamp engine's door copy kept. -/
structure State.Undisturbed (s t : State) : Prop where
  air : s.air.Undisturbed t.air
  dry : s.dry.Undisturbed t.dry
  lampDoor : t.lamps.door = s.lamps.door

theorem Drying.Undisturbed.refl (d : Drying) : d.Undisturbed d := ⟨rfl, rfl, rfl, id⟩

theorem Drying.Undisturbed.trans {d e f : Drying} (h : d.Undisturbed e) (k : e.Undisturbed f) : d.Undisturbed f :=
  ⟨k.door.trans h.door, k.tank.trans h.tank, k.supply.trans h.supply, k.compOff ∘ h.compOff⟩

theorem State.Undisturbed.trans {s t u : State} (h : s.Undisturbed t) (k : t.Undisturbed u) : s.Undisturbed u :=
  ⟨h.air.trans k.air, h.dry.trans k.dry, k.lampDoor.trans h.lampDoor⟩

theorem State.Undisturbed.of_eq {s t : State} (ha : t.air = s.air) (hd : t.dry = s.dry) (hl : t.lamps = s.lamps) :
    s.Undisturbed t :=
  ⟨ha ▸ .refl _, hd ▸ .refl _, hl ▸ rfl⟩

theorem State.Undisturbed.refl (s : State) : s.Undisturbed s := .of_eq rfl rfl rfl

theorem State.Undisturbed.setAir (s : State) {a : AirMover} (h : s.air.Undisturbed a) : s.Undisturbed (s.setAir a) :=
  ⟨h, .refl _, rfl⟩

theorem State.Undisturbed.setDry (s : State) {d : Drying} (h : s.dry.Undisturbed d) : s.Undisturbed (s.setDry d) :=
  ⟨.refl _, h, rfl⟩

/-! ### The sweep's points and the compressor's states -/

theorem reportProgress_undisturbed (p : Nat) (s : State) : s.Undisturbed (reportProgress p s) :=
  ⟨by simpa using .refl _, by simpa using .refl _, rfl⟩

theorem measurePoint_undisturbed (i : Nat) (s : State) : s.Undisturbed (measurePoint i s) :=
  (State.Undisturbed.setAir s (s.air.measure_undisturbed i)).trans (reportProgress_undisturbed _ _)

theorem leaveWaiting_undisturbed (s : State) : s.Undisturbed (leaveWaiting s) := by
  unfold leaveWaiting
  split
  · exact measurePoint_undisturbed 0 s
  · exact .refl s

@[simp] theorem setComp_dry (c : CompState) (s : State) : (setComp c s).dry = { s.dry with comp := c } := by
  simp [setComp]

theorem setComp_undisturbed (c : CompState) (s : State) (hc : c ≠ .running) : s.Undisturbed (setComp c s) := by
  have dry : s.Undisturbed (s.setDry { s.dry with comp := c }) := .setDry s ⟨rfl, rfl, rfl, fun _ => hc⟩
  have air := State.Undisturbed.setAir (s.setDry { s.dry with comp := c })
    (s.air.takeCompressor_undisturbed s.path.working c)
  exact (dry.trans air).trans (leaveWaiting_undisturbed _)

/-- A change of drying's own timers followed by a state other than RUNNING. -/
theorem setComp_setDry_undisturbed (c : CompState) (s : State) (d : Drying) (hc : c ≠ .running)
    (hd : s.dry.Undisturbed d) : s.Undisturbed (setComp c (s.setDry d)) :=
  (State.Undisturbed.setDry s hd).trans (setComp_undisturbed c _ hc)

/-! ### Drying's rules -/

theorem judgeHold_undisturbed (s : State) : s.Undisturbed (judgeHold s) := by
  unfold judgeHold
  split
  case h_1 =>
    split
    · exact setComp_undisturbed _ s (by decide)
    · exact .refl s
  case h_2 =>
    split
    · exact setComp_undisturbed _ s (by decide)
    · exact .refl s
  case h_3 =>
    split
    · exact setComp_setDry_undisturbed _ s _ (by decide) ⟨rfl, rfl, rfl, id⟩
    · exact .refl s
  all_goals exact .refl s

theorem judgeStart_undisturbed (s : State) : s.Undisturbed (judgeStart s) := by
  unfold judgeStart
  split
  case h_1 =>
    split
    · exact setComp_setDry_undisturbed _ s _ (by decide) ⟨rfl, rfl, rfl, id⟩
    · exact .refl s
  case h_2 =>
    split
    · exact .refl s
    · exact setComp_setDry_undisturbed _ s _ (by decide) ⟨rfl, rfl, rfl, id⟩
  all_goals exact .refl s

theorem stopCompressor_undisturbed (s : State) : s.Undisturbed (stopCompressor s) :=
  (setComp_setDry_undisturbed .offHold s s.dry.stopRun (by decide) ⟨rfl, rfl, rfl, id⟩).trans (judgeHold_undisturbed _)

/-- R78, R80: a stopped compressor does not run, whatever R73 makes of its hold in the same event. -/
theorem stopCompressor_comp (s : State) : (stopCompressor s).dry.comp ≠ .running :=
  (judgeHold_undisturbed _).dry.compOff (by simp)

theorem immediateStop_undisturbed (s : State) : s.Undisturbed (immediateStop s) := by
  unfold immediateStop
  split
  · exact stopCompressor_undisturbed s
  · exact .refl s

theorem immediateStop_comp (s : State) : (immediateStop s).dry.comp ≠ .running := by
  unfold immediateStop
  split
  · exact stopCompressor_comp s
  · assumption

theorem judgeDeferred_undisturbed (s : State) : s.Undisturbed (judgeDeferred s) := by
  unfold judgeDeferred
  split
  · exact stopCompressor_undisturbed s
  · exact .refl s

theorem judgeDrying_undisturbed (s : State) : s.Undisturbed (judgeDrying s) :=
  ((judgeDeferred_undisturbed s).trans (judgeHold_undisturbed _)).trans (judgeStart_undisturbed _)

theorem Drying.evaluateDemand_undisturbed (d : Drying) (w : Settings) (rh : ChannelState) :
    d.Undisturbed (d.evaluateDemand w rh) := by
  unfold Drying.evaluateDemand
  split
  case isFalse => exact ⟨rfl, rfl, rfl, id⟩
  case isTrue =>
    split
    · exact .refl d
    · exact ⟨rfl, rfl, rfl, id⟩
    · split
      · exact .refl d
      · exact ⟨rfl, rfl, rfl, id⟩

theorem evaluateDemand_undisturbed (s : State) : s.Undisturbed (evaluateDemand s) :=
  .setDry s (s.dry.evaluateDemand_undisturbed _ _)

/-- A report that only drying's rules act on. -/
theorem judgeDrying_setDry_undisturbed (s : State) (d : Drying) (hd : s.dry.Undisturbed d) :
    s.Undisturbed (judgeDrying (s.setDry d)) :=
  (State.Undisturbed.setDry s hd).trans (judgeDrying_undisturbed _)

/-! ### All-stop, conditions and the sweep -/

theorem setAllStop_undisturbed (on : Bool) (s : State) : s.Undisturbed (setAllStop on s) := by
  have cmd : s.Undisturbed (s.setCmd { s.cmd with allStop := on }) := .of_eq rfl rfl rfl
  have slot : s.air.Undisturbed { s.air with allStop := on } := ⟨rfl, rfl, rfl, rfl, id⟩
  have air := cmd.trans (.setAir _ (slot.trans (AirMover.arbitrate_undisturbed _)))
  have dry := air.trans (.setDry _ (d := { s.dry with allStop := on }) ⟨rfl, rfl, rfl, id⟩)
  simp only [setAllStop]
  split
  · exact dry.trans ((immediateStop_undisturbed _).trans (judgeDrying_undisturbed _))
  · exact dry.trans (judgeDrying_undisturbed _)

theorem judgeAllStop_undisturbed (s : State) : s.Undisturbed (judgeAllStop s) := by
  unfold judgeAllStop
  split
  · exact setAllStop_undisturbed true s
  · exact .refl s

theorem raise_undisturbed (f : Flag) (s : State) : s.Undisturbed (raise f s) := .of_eq rfl rfl rfl

theorem reportCondition_undisturbed (f : Flag) (b : Bool) (s : State) : s.Undisturbed (reportCondition f b s) := by
  have notice : s.Undisturbed (setCondition f b s) := .of_eq rfl rfl rfl
  exact notice.trans (judgeAllStop_undisturbed _)

theorem reportChange_undisturbed (f : Flag) (b : Bool) (s : State) : s.Undisturbed (reportChange f b s) := by
  unfold reportChange
  split
  · exact .refl s
  · exact reportCondition_undisturbed f b s

theorem tellLearnPending_undisturbed (b : Bool) (s : State) : s.Undisturbed (tellLearnPending b s) :=
  judgeDrying_setDry_undisturbed s _ ⟨rfl, rfl, rfl, id⟩

theorem abandonSweep_undisturbed (s : State) : s.Undisturbed (abandonSweep s) := by
  simp only [abandonSweep]
  split
  · exact .refl s
  · have ended := State.Undisturbed.setAir s s.air.endSweep_undisturbed
    exact ((ended.trans (reportProgress_undisturbed _ _)).trans (tellLearnPending_undisturbed _ _)).trans
      (raise_undisturbed _ _)

end Sys2Proof.Machine
end

section
/-! SUPPORT. The measurement front end: its fields after one is replaced, and what one event makes of a channel, of the
supply-low detector, of the particle input, of the tachometer and of a flag of the notice unit. -/

namespace Sys2Proof.Machine

/-! ### Fields of the front end -/

theorem FrontEnd.channel_setChannel (f : FrontEnd) (ch ch' : Channel) (c : ChannelState) :
    (f.setChannel ch c).channel ch' = if ch' = ch then c else f.channel ch' := by
  cases ch <;> cases ch' <;> rfl

theorem FrontEnd.setChannel_others (f : FrontEnd) (ch : Channel) (c : ChannelState) :
    (f.setChannel ch c).particle = f.particle ∧ (f.setChannel ch c).tach = f.tach
      ∧ (∀ sw, (f.setChannel ch c).switch sw = f.switch sw) ∧ (f.setChannel ch c).settling = f.settling
      ∧ (f.setChannel ch c).supplyLow = f.supplyLow := by
  cases ch <;> exact ⟨rfl, rfl, fun _ => rfl, rfl, rfl⟩

theorem FrontEnd.switch_setSwitch (f : FrontEnd) (sw sw' : Switch) (x : SwitchState) :
    (f.setSwitch sw x).switch sw' = if sw' = sw then x else f.switch sw' := by
  cases sw <;> cases sw' <;> rfl

/-- R8: the six channels that SENSOR_FAULT stands for. -/
theorem FrontEnd.sensorFault_iff (f : FrontEnd) :
    f.sensorFault = true ↔ (∃ ch, (f.channel ch).status = .faulted) ∨ f.particle.status = .faulted := by
  simp only [sensorFault, Bool.or_eq_true, decide_eq_true_eq]
  constructor
  · rintro (((((h | h) | h) | h) | h) | h)
    · exact .inl ⟨.rh, h⟩
    · exact .inl ⟨.troom, h⟩
    · exact .inl ⟨.tevap, h⟩
    · exact .inl ⟨.tcond, h⟩
    · exact .inl ⟨.supply, h⟩
    · exact .inr h
  · rintro (⟨ch, h⟩ | h)
    · cases ch <;> simp_all [channel]
    · exact .inr h

/-! ### One arrival at a channel (R3 to R5) -/

theorem joinNewest_of_lt {α : Type} {n : Nat} {l : List α} (x : α) (h : l.length < n) : joinNewest n l x = l ++ [x] := by
  rw [joinNewest, Nat.sub_eq_zero_of_le h, List.drop_zero]

theorem joinNewest_of_full {α : Type} {n : Nat} {l : List α} (x : α) (h : l.length = n + 1) :
    joinNewest (n + 1) l x = l.tail ++ [x] := by
  obtain ⟨y, l, rfl⟩ := List.exists_cons_of_length_eq_add_one h
  have one : (y :: l).length + 1 - (n + 1) = 1 := by omega
  rw [joinNewest, one]
  rfl

namespace ChannelState

variable (c : ChannelState) (w : Settings) (ch : Channel) (code : BitVec 10)

theorem arrival_of_good (h : 9 ≤ code.toNat ∧ code.toNat ≤ 1014) : c.arrival w ch code = c.good w ch code := by
  simp [arrival, goodSample, h]

theorem arrival_of_outOfRange (h : code.toNat ≤ 8 ∨ 1015 ≤ code.toNat) : c.arrival w ch code = c.outOfRange := by
  have bad : goodSample code = false := by
    simp only [goodSample, Bool.and_eq_false_iff, decide_eq_false_iff_not]
    omega
  simp [arrival, bad]

theorem good_of_unmeasured (h : c.status = .unmeasured) :
    c.good w ch code = { status := .valid, window := [code], count := 0, value := scaled w ch code.toNat } := by
  simp [good, h, windowMean]

theorem good_of_valid (h : c.status = .valid) :
    c.good w ch code = { status := .valid, window := joinNewest 4 c.window code, count := 0,
                         value := scaled w ch (windowMean (joinNewest 4 c.window code)) } := by
  simp [good, h]

/-- R3: the fourth consecutive good code ends a fault. -/
theorem good_of_recovered (h : c.status = .faulted) (hw : c.window.length = 3) :
    c.good w ch code = { status := .valid, window := c.window ++ [code], count := c.count,
                         value := scaled w ch (windowMean (c.window ++ [code])) } := by
  simp [good, h, joinNewest_of_lt code (show c.window.length < 4 by omega), hw]

theorem good_of_recovering (h : c.status = .faulted) (hw : c.window.length < 3) :
    c.good w ch code = { c with window := c.window ++ [code] } := by
  have short : c.window.length ≠ 3 := by omega
  simp [good, h, joinNewest_of_lt code (show c.window.length < 4 by omega), short]

theorem outOfRange_of_faulted (h : c.status = .faulted) : c.outOfRange = { c with window := [] } := by
  simp [outOfRange, h]

theorem outOfRange_of_few (h : c.status ≠ .faulted) (hc : c.count < 2) :
    c.outOfRange = { c with count := c.count + 1 } := by
  have few : c.count + 1 < 3 := by omega
  cases hs : c.status <;> simp_all [outOfRange]

/-- R4: the third consecutive out-of-range code is the fault. -/
theorem outOfRange_of_third (h : c.status ≠ .faulted) (hc : c.count = 2) :
    c.outOfRange = { c with status := .faulted, window := [], count := 0 } := by
  cases hs : c.status <;> simp_all [outOfRange]

end ChannelState

/-! ### Flags (R110, R111) -/

theorem Flag.number_sub_one_lt (f : Flag) : f.number - 1 < 24 := by
  cases f <;> decide

@[simp] theorem hasFlag_or_bit (x : BitVec 24) (f : Flag) : hasFlag (x ||| f.bit) f = true := by
  simp [hasFlag, Flag.bit, f.number_sub_one_lt]

@[simp] theorem hasFlag_and_not_bit (x : BitVec 24) (f : Flag) : hasFlag (x &&& ~~~f.bit) f = false := by
  simp [hasFlag, Flag.bit, f.number_sub_one_lt]

@[simp] theorem raise_latched (f : Flag) (s : State) : (raise f s).notice.latched = s.notice.latched ||| f.bit := rfl
@[simp] theorem raise_conditions (f : Flag) (s : State) : (raise f s).notice.conditions = s.notice.conditions := rfl

theorem hasFlag_condition_same (n : NoticeUnit) (f : Flag) (b : Bool) : hasFlag (n.condition f b).conditions f = b := by
  unfold NoticeUnit.condition
  cases b
  · simp
  · simp only [if_true]
    split
    · assumption
    · simp

@[simp] theorem hasFlag_reportCondition (f : Flag) (b : Bool) (s : State) :
    hasFlag (reportCondition f b s).notice.conditions f = b := by
  simpa [reportCondition, setCondition] using hasFlag_condition_same s.notice f b

@[simp] theorem hasFlag_reportChange (f : Flag) (b : Bool) (s : State) :
    hasFlag (reportChange f b s).notice.conditions f = b := by
  unfold reportChange
  split
  · assumption
  · simp

/-! ### The supply-low detector (R20) -/

/-- R20: the band of 0.5 V above the threshold, in which the detector stands as it was. -/
theorem nextSupplyLow_spec (c : ChannelState) (threshold : Nat) (low : Bool) :
    (c.status ≠ .valid → nextSupplyLow c threshold low = false)
      ∧ (c.status = .valid →
          (c.value < (threshold : Int) → nextSupplyLow c threshold low = true)
          ∧ ((threshold : Int) + 5 ≤ c.value → nextSupplyLow c threshold low = false)
          ∧ ((threshold : Int) ≤ c.value → c.value < (threshold : Int) + 5 → nextSupplyLow c threshold low = low)) := by
  refine ⟨fun h => by simp [nextSupplyLow, h], fun h => ?_⟩
  simp only [nextSupplyLow, h, decide_true, Bool.true_and]
  cases low
  · simp; omega
  · simp; omega

theorem dryingSupplyReport_supplyLow (low : Bool) (s : State) : (dryingSupplyReport low s).dry.supplyLow = low :=
  (judgeDrying_undisturbed _).dry.supply

theorem dryingSupplyReport_air (low : Bool) (s : State) : s.air.Undisturbed (dryingSupplyReport low s).air :=
  (judgeDrying_undisturbed (s.setDry { s.dry with supplyLow := low })).air

theorem airSupplyReport_supplyLow (low : Bool) (s : State) : (airSupplyReport low s).air.supplyLow = low := by
  simp only [airSupplyReport, AirMover.setSupplyLow]
  split <;> rfl

@[simp] theorem judgeSupply_front (s : State) :
    (judgeSupply s).front = { s.front with
      supplyLow := nextSupplyLow s.front.supply s.path.working.supplyLowThreshold s.front.supplyLow } := by
  simp only [judgeSupply]
  split
  case isTrue h => rw [h]
  case isFalse => split <;> simp

@[simp] theorem judgeSupply_outside (s : State) :
    (judgeSupply s).phase = s.phase ∧ (judgeSupply s).pins = s.pins ∧ (judgeSupply s).path = s.path
      ∧ (judgeSupply s).memory = s.memory ∧ (judgeSupply s).pending = s.pending := by
  simp only [judgeSupply]
  repeat' split
  all_goals simp

@[simp] theorem judgeSupply_keeps (s : State) :
    (judgeSupply s).filter = s.filter ∧ (judgeSupply s).tank = s.tank ∧ (judgeSupply s).store = s.store
      ∧ (judgeSupply s).notice.conditions = s.notice.conditions := by
  simp only [judgeSupply]
  repeat' split
  all_goals simp

/-- R20: SUPPLY_LOW occurs as the detector's state begins. -/
theorem judgeSupply_latches (s : State) (h : s.front.supplyLow = false) (h' : (judgeSupply s).front.supplyLow = true) :
    hasFlag (judgeSupply s).notice.latched .supplyLow = true := by
  have low : nextSupplyLow s.front.supply s.path.working.supplyLowThreshold false = true := by
    simpa [h] using h'
  simp [judgeSupply, h, low]

/-- R20: a change of the detector's state reaches drying and the air mover. -/
theorem judgeSupply_reports (s : State) (h : (judgeSupply s).front.supplyLow ≠ s.front.supplyLow) :
    (judgeSupply s).dry.supplyLow = (judgeSupply s).front.supplyLow
      ∧ (judgeSupply s).air.supplyLow = (judgeSupply s).front.supplyLow := by
  rw [judgeSupply_front] at h ⊢
  simp only [judgeSupply, if_neg h]
  exact ⟨dryingSupplyReport_supplyLow _ _, (dryingSupplyReport_air _ _).supply.trans (airSupplyReport_supplyLow _ _)⟩

/-! ### An arrival with its reports (R2 to R8) -/

@[simp] theorem statusReport_outside (ch : Channel) (s : State) :
    (statusReport ch s).phase = s.phase ∧ (statusReport ch s).pins = s.pins ∧ (statusReport ch s).front = s.front
      ∧ (statusReport ch s).path = s.path ∧ (statusReport ch s).memory = s.memory
      ∧ (statusReport ch s).pending = s.pending := by
  cases ch
  case tevap =>
    simp only [statusReport]
    split <;> simp
  all_goals simp [statusReport]

@[simp] theorem statusReport_keeps (ch : Channel) (s : State) :
    (statusReport ch s).filter = s.filter ∧ (statusReport ch s).tank = s.tank ∧ (statusReport ch s).notice = s.notice
      ∧ (statusReport ch s).store = s.store := by
  cases ch
  case tevap =>
    simp only [statusReport]
    split <;> simp
  all_goals simp [statusReport]

/-- R4, R8: the channel's arrival with the report of SENSOR_FAULT, before the status report and the detector. -/
def arrivalJudged (ch : Channel) (code : BitVec 10) (s : State) : State :=
  let f := s.front.setChannel ch ((s.front.channel ch).arrival s.path.working ch code)
  reportChange .sensorFault f.sensorFault (s.setFront f)

@[simp] theorem arrivalJudged_front (ch : Channel) (code : BitVec 10) (s : State) :
    (arrivalJudged ch code s).front
      = s.front.setChannel ch ((s.front.channel ch).arrival s.path.working ch code) := by
  simp [arrivalJudged]

@[simp] theorem arrivalJudged_outside (ch : Channel) (code : BitVec 10) (s : State) :
    (arrivalJudged ch code s).phase = s.phase ∧ (arrivalJudged ch code s).pins = s.pins
      ∧ (arrivalJudged ch code s).path = s.path ∧ (arrivalJudged ch code s).memory = s.memory
      ∧ (arrivalJudged ch code s).pending = s.pending ∧ (arrivalJudged ch code s).filter = s.filter
      ∧ (arrivalJudged ch code s).tank = s.tank ∧ (arrivalJudged ch code s).store = s.store := by
  simp [arrivalJudged]

/-- The status report of the channel, where its status changed. -/
def arrivalReported (ch : Channel) (code : BitVec 10) (s : State) : State :=
  if ((s.front.channel ch).arrival s.path.working ch code).status = (s.front.channel ch).status then
    arrivalJudged ch code s
  else statusReport ch (arrivalJudged ch code s)

theorem converterArrival_eq (ch : Channel) (code : BitVec 10) (s : State) :
    converterArrival ch code s
      = if ch = .supply then judgeSupply (arrivalReported ch code s) else arrivalReported ch code s := rfl

@[simp] theorem arrivalReported_front (ch : Channel) (code : BitVec 10) (s : State) :
    (arrivalReported ch code s).front
      = s.front.setChannel ch ((s.front.channel ch).arrival s.path.working ch code) := by
  unfold arrivalReported
  split <;> simp

@[simp] theorem arrivalReported_outside (ch : Channel) (code : BitVec 10) (s : State) :
    (arrivalReported ch code s).phase = s.phase ∧ (arrivalReported ch code s).pins = s.pins
      ∧ (arrivalReported ch code s).path = s.path ∧ (arrivalReported ch code s).memory = s.memory
      ∧ (arrivalReported ch code s).pending = s.pending ∧ (arrivalReported ch code s).filter = s.filter
      ∧ (arrivalReported ch code s).tank = s.tank ∧ (arrivalReported ch code s).store = s.store
      ∧ (arrivalReported ch code s).notice = (arrivalJudged ch code s).notice := by
  unfold arrivalReported
  split <;> simp

/-- R20: an arrival of SUPPLY is judged by the detector, which alone its status serves. -/
theorem converterArrival_supply (code : BitVec 10) (s : State) :
    converterArrival .supply code s = judgeSupply (arrivalJudged .supply code s) := by
  rw [converterArrival_eq, if_pos rfl, arrivalReported]
  split <;> rfl

/-- An arrival replaces its channel and, through the detector, at most the supply-low state. -/
theorem converterArrival_front (ch : Channel) (code : BitVec 10) (s : State) :
    (converterArrival ch code s).front
      = { s.front.setChannel ch ((s.front.channel ch).arrival s.path.working ch code) with
          supplyLow := (converterArrival ch code s).front.supplyLow } := by
  rw [converterArrival_eq]
  split <;> simp

theorem converterArrival_frame (ch : Channel) (code : BitVec 10) (s : State) :
    (converterArrival ch code s).filter = s.filter ∧ (converterArrival ch code s).tank = s.tank
      ∧ (converterArrival ch code s).path = s.path ∧ (converterArrival ch code s).store = s.store
      ∧ (converterArrival ch code s).memory = s.memory ∧ (converterArrival ch code s).pins = s.pins
      ∧ (converterArrival ch code s).phase = s.phase ∧ (converterArrival ch code s).pending = s.pending := by
  rw [converterArrival_eq]
  split <;> simp

@[simp] theorem FrontEnd.sensorFault_supplyLow (f : FrontEnd) (low : Bool) :
    ({ f with supplyLow := low } : FrontEnd).sensorFault = f.sensorFault := rfl

/-- R8: after an arrival SENSOR_FAULT stands for the channels. -/
theorem converterArrival_sensorFault (ch : Channel) (code : BitVec 10) (s : State) :
    hasFlag (converterArrival ch code s).notice.conditions .sensorFault
      = (converterArrival ch code s).front.sensorFault := by
  have judged : hasFlag (arrivalJudged ch code s).notice.conditions .sensorFault
      = (arrivalJudged ch code s).front.sensorFault := by
    simp [arrivalJudged]
  rw [converterArrival_eq]
  split <;> simpa using judged

/-! ### The particle input (R9 to R12, R25) -/

/-- The part at a window end before the air mover's report. -/
def windowJudged (s : State) : State :=
  let f := { s.front with particle := s.front.particle.windowEnd s.path.working.kp }
  reportChange .sensorFault f.sensorFault (s.setFront f)

theorem particleWindowEnd_eq (s : State) :
    particleWindowEnd s = airWindowEnd (particleInUse (windowJudged s).front (windowJudged s).path.working)
      (windowJudged s) := by
  simp [particleWindowEnd, windowJudged]

@[simp] theorem windowJudged_front (s : State) :
    (windowJudged s).front = { s.front with particle := s.front.particle.windowEnd s.path.working.kp } := by
  simp [windowJudged]

theorem windowJudged_frame (s : State) :
    (windowJudged s).filter = s.filter ∧ (windowJudged s).tank = s.tank ∧ (windowJudged s).path = s.path
      ∧ (windowJudged s).memory = s.memory ∧ (windowJudged s).pending = s.pending := by
  simp [windowJudged]

theorem windowJudged_air (s : State) : s.air.Undisturbed (windowJudged s).air := by
  have reported (b : Bool) (f : FrontEnd) : s.air.Undisturbed (reportChange .sensorFault b (s.setFront f)).air :=
    (reportChange_undisturbed .sensorFault b (s.setFront f)).air
  exact reported _ _

theorem airWindowEnd_band (p : Nat) (s : State) :
    (airWindowEnd p s).air.band = nextBand s.path.working s.air.band p :=
  (AirMover.arbitrate_undisturbed _).band

theorem airWindowEnd_auto (p : Nat) (s : State) :
    (airWindowEnd p s).air.auto = redo s.air.auto (s.path.working.speedDuty ((airWindowEnd p s).air.band + 1)) := by
  rw [airWindowEnd_band]
  exact (AirMover.arbitrate_undisturbed _).auto

@[simp] theorem particleWindowEnd_front (s : State) :
    (particleWindowEnd s).front = { s.front with particle := s.front.particle.windowEnd s.path.working.kp } := by
  simp [particleWindowEnd_eq]

theorem particleWindowEnd_frame (s : State) :
    (particleWindowEnd s).filter = s.filter ∧ (particleWindowEnd s).tank = s.tank ∧ (particleWindowEnd s).path = s.path
      ∧ (particleWindowEnd s).memory = s.memory ∧ (particleWindowEnd s).pending = s.pending := by
  simp [particleWindowEnd_eq, windowJudged_frame]

theorem particleWindowEnd_band (s : State) :
    (particleWindowEnd s).air.band
      = nextBand s.path.working s.air.band (particleInUse (particleWindowEnd s).front s.path.working) := by
  rw [particleWindowEnd_front, particleWindowEnd_eq, airWindowEnd_band, (windowJudged_air s).band, windowJudged_front]
  simp [windowJudged_frame]

theorem particleWindowEnd_auto (s : State) :
    (particleWindowEnd s).air.auto
      = redo s.air.auto (s.path.working.speedDuty ((particleWindowEnd s).air.band + 1)) := by
  simp only [particleWindowEnd_eq, airWindowEnd_auto, (windowJudged_air s).auto, windowJudged_frame]

/-- R8: after a window end SENSOR_FAULT stands for the channels. -/
theorem particleWindowEnd_sensorFault (s : State) :
    hasFlag (particleWindowEnd s).notice.conditions .sensorFault = (particleWindowEnd s).front.sensorFault := by
  rw [particleWindowEnd_front, particleWindowEnd_eq]
  simp [windowJudged]

namespace ParticleState

variable (p : ParticleState) (kp : Nat)

theorem windowEnd_counts : (p.windowEnd kp).occupancy = p.accumulator ∧ (p.windowEnd kp).accumulator = 0 := by
  simp only [windowEnd]
  repeat' split
  all_goals simp

theorem windowEnd_of_warmUp (h : p.status = .warmUp) :
    p.windowEnd kp = { p with status := .awaiting, accumulator := 0, occupancy := p.accumulator } := by
  simp [windowEnd, h]

/-- R11, R12: an unsaturated window after the warm-up gives a value. -/
theorem windowEnd_of_unsaturated (h : p.status ≠ .warmUp) (hr : p.accumulator < 10000) :
    p.windowEnd kp = { p with status := .valid, value := particleValue p.accumulator kp, saturated := 0,
                              accumulator := 0, occupancy := p.accumulator } := by
  cases hs : p.status <;> simp_all [windowEnd]

/-- R12: the first saturated window is counted. -/
theorem windowEnd_of_saturated (h : p.status = .awaiting ∨ p.status = .valid) (hr : 10000 ≤ p.accumulator)
    (hs : p.saturated = 0) :
    p.windowEnd kp = { p with saturated := 1, accumulator := 0, occupancy := p.accumulator } := by
  obtain h | h := h
  · simp [windowEnd, h, hs, Nat.not_lt.mpr hr]
  · simp [windowEnd, h, hs, Nat.not_lt.mpr hr]

/-- R12: the second consecutive saturated window is the fault. -/
theorem windowEnd_of_saturated_again (h : p.status = .awaiting ∨ p.status = .valid) (hr : 10000 ≤ p.accumulator)
    (hs : p.saturated = 1) :
    p.windowEnd kp
      = { p with status := .faulted, saturated := 2, accumulator := 0, occupancy := p.accumulator } := by
  obtain h | h := h
  · simp [windowEnd, h, hs, Nat.not_lt.mpr hr]
  · simp [windowEnd, h, hs, Nat.not_lt.mpr hr]

theorem windowEnd_of_faulted (h : p.status = .faulted) (hr : 10000 ≤ p.accumulator) :
    p.windowEnd kp = { p with accumulator := 0, occupancy := p.accumulator } := by
  simp [windowEnd, h, Nat.not_lt.mpr hr]

theorem sample_eq (active : Bool) (h : p.accumulator < 10000) :
    p.sample active = { p with accumulator := p.accumulator + if active then 1 else 0 } := by
  cases active
  · rfl
  · simp [sample, satAdd, Nat.min_eq_right h]

end ParticleState

/-! ### The tachometer (R13 to R16) -/

namespace TachState

variable (t : TachState) (ppr k : Nat)

theorem counted_timing : (t.counted ppr k).timing = true ∧ (t.counted ppr k).stopTimer = startTimer 1000 := by
  simp only [counted]
  repeat' split
  all_goals simp_all

/-- R13: the first edge after a stop starts the timing of a period and gives none. -/
theorem counted_of_idle (h : t.timing = false) :
    t.counted ppr k = { t with timing := true, stopTimer := startTimer 1000 } := by
  simp [counted, h]

theorem counted_of_few (h : t.timing = true) (hp : t.periods.length < 7) :
    t.counted ppr k
      = { t with periods := t.periods ++ [clampNat 1 1000000 k], stopTimer := startTimer 1000 } := by
  have short : t.periods.length ≠ 7 := by omega
  simp [counted, h, joinNewest_of_lt _ (show t.periods.length < 8 by omega), short]

/-- R14: eight periods give a speed. -/
theorem counted_of_many (h : t.timing = true) (hp : t.periods.length = 7 ∨ t.periods.length = 8) :
    t.counted ppr k
      = { timing := true, periods := joinNewest 8 t.periods (clampNat 1 1000000 k),
          rpm := speedOf (joinNewest 8 t.periods (clampNat 1 1000000 k)) ppr, valid := true,
          stopTimer := startTimer 1000 } := by
  have full : (joinNewest 8 t.periods (clampNat 1 1000000 k)).length = 8 := by
    simp only [joinNewest, List.length_drop, List.length_append, List.length_singleton]
    omega
  simp [counted, h, full]

end TachState

end Sys2Proof.Machine
end

section
/-! SUPPORT. The statements of the measurement inputs that one event of the running part settles: the converter channels,
the particle input, the tachometer and the power-fail warning. -/

namespace Sys2Proof.Machine

theorem exec_converterArrival (ch : Channel) (code : BitVec 10) (s : State) (h : s.phase = .running) :
    exec (.converterArrival ch code) s = .next (converterArrival ch code s) := by
  simp [exec, execConverterArrival, whenRunning, h]

theorem exec_particleSample (high : Bool) (s : State) (h : s.phase = .running) :
    exec (.particleSample high) s = .next (s.setFront { s.front with
      particle := s.front.particle.sample (particleActive s.path.working high) }) := by
  simp [exec, execParticleSample, whenRunning, h]

theorem exec_particleWindowEnd (s : State) (h : s.phase = .running) :
    exec .particleWindowEnd s = .next (particleWindowEnd s) := by
  simp [exec, execParticleWindowEnd, whenRunning, h]

/-! ### Converter channels -/

theorem FrontEnd.setSupplyLow_channel (f : FrontEnd) (low : Bool) (ch : Channel) :
    ({ f with supplyLow := low } : FrontEnd).channel ch = f.channel ch := by
  cases ch <;> rfl

theorem converterArrival_channel (ch ch' : Channel) (code : BitVec 10) (s : State) :
    (converterArrival ch code s).front.channel ch'
      = if ch' = ch then (s.front.channel ch).arrival s.path.working ch code else s.front.channel ch' := by
  rw [converterArrival_front, FrontEnd.setSupplyLow_channel, FrontEnd.channel_setChannel]

theorem converterArrival_otherInputs (ch : Channel) (code : BitVec 10) (s : State) :
    (converterArrival ch code s).front.particle = s.front.particle
      ∧ (converterArrival ch code s).front.tach = s.front.tach
      ∧ (∀ sw, (converterArrival ch code s).front.switch sw = s.front.switch sw)
      ∧ (converterArrival ch code s).front.settling = s.front.settling := by
  obtain ⟨hparticle, htach, hswitch, hsettling, -⟩ :=
    s.front.setChannel_others ch ((s.front.channel ch).arrival s.path.working ch code)
  rw [converterArrival_front]
  refine ⟨hparticle, htach, fun sw => ?_, hsettling⟩
  rw [← hswitch sw]
  cases sw <;> rfl

/-- Settles O10: the channel's arrival by status and code, with the frame of one arrival. -/
theorem arrivalStepsChannel : Obligations.ArrivalStepsChannel := by
  refine ⟨fun ch code s hrun => ⟨_, exec_converterArrival ch code s hrun, ?good, ?bad, ?other, ?frame⟩, ?scaling,
    fun codes code => ⟨rfl, fun h => joinNewest_of_lt code h, fun h => joinNewest_of_full code h⟩⟩
  case good =>
    intro hcode
    simp only [converterArrival_channel, if_true, ChannelState.arrival_of_good _ _ _ _ hcode]
    exact ⟨ChannelState.good_of_unmeasured _ _ _ _, ChannelState.good_of_valid _ _ _ _,
      ChannelState.good_of_recovered _ _ _ _, ChannelState.good_of_recovering _ _ _ _⟩
  case bad =>
    intro hcode
    simp only [converterArrival_channel, if_true, ChannelState.arrival_of_outOfRange _ _ _ _ hcode]
    exact ⟨ChannelState.outOfRange_of_faulted _, ChannelState.outOfRange_of_few _, ChannelState.outOfRange_of_third _⟩
  case other =>
    intro ch' hne
    rw [converterArrival_channel, if_neg hne]
  case frame =>
    obtain ⟨hparticle, htach, hswitch, hsettling⟩ := converterArrival_otherInputs ch code s
    exact ⟨hparticle, htach, hswitch, hsettling, converterArrival_frame ch code s⟩
  case scaling => exact fun w m => ⟨rfl, rfl, rfl, rfl, rfl⟩

/-! ### The particle input -/

/-- Settles O12: the sample, the five cases of a window end, and the band of the value in use. -/
theorem particleChannelMeasures : Obligations.ParticleChannelMeasures := by
  refine ⟨fun high s hrun hacc => ?sample, fun s hrun => ?window⟩
  case sample =>
    refine ⟨_, exec_particleSample high s hrun, rfl, ?_⟩
    simp [ParticleState.sample_eq _ _ hacc, particleActive]
  case window =>
    obtain ⟨hocc, hacc⟩ := s.front.particle.windowEnd_counts s.path.working.kp
    refine ⟨_, exec_particleWindowEnd s hrun, by simpa using hocc, by simpa using hacc, ?_, ?_, ?_, ?_, ?_, by simp,
      ?band, ?auto, ?noAuto, particleWindowEnd_frame s⟩
    · intro h
      simp [ParticleState.windowEnd_of_warmUp _ _ h]
    · intro h hr
      simp [ParticleState.windowEnd_of_unsaturated _ _ h hr, particleValue]
    · intro h hr hs
      simp [ParticleState.windowEnd_of_saturated _ _ h hr hs]
    · intro h hr hs
      simp [ParticleState.windowEnd_of_saturated_again _ _ h hr hs]
    · intro h hr
      simp [ParticleState.windowEnd_of_faulted _ _ h hr, h]
    case band =>
      rintro p implied lower rfl rfl rfl
      exact particleWindowEnd_band s
    case auto =>
      intro d hd
      have offset : 0x06 + ((particleWindowEnd s).air.band + 1) = 0x07 + (particleWindowEnd s).air.band := by omega
      rw [particleWindowEnd_auto, hd, Settings.speedDuty, offset]
      rfl
    case noAuto =>
      intro hd
      rw [particleWindowEnd_auto, hd]
      rfl

/-! ### The tachometer -/

/-- R13: the polarity of TACH decides which direction is counted. -/
theorem edgeCounted_eq_false_iff (w : Settings) (e : Edge) :
    edgeCounted w e = false ↔ (e = .falling ↔ w.inverted 0 = true) := by
  cases e <;> simp [edgeCounted]

theorem edgeCounted_iff (w : Settings) (e : Edge) :
    edgeCounted w e = true ↔ (e = .falling ↔ w.inverted 0 = false) := by
  cases e <;> simp [edgeCounted]

theorem exec_tachEdge (e : Edge) (k : Nat) (s : State) (h : s.phase = .running) :
    exec (.tachEdge e k) s = .next (s.setFront { s.front with
      tach := if edgeCounted s.path.working e then s.front.tach.counted s.path.working.ppr k else s.front.tach }) := by
  simp only [exec, execTachEdge, whenRunning, h, if_true]
  split <;> rfl

theorem exec_stoppedReport (s : State) (h : s.front.tach.stopTimer.isSome = true) :
    exec .stoppedReport s = .next (s.setFront { s.front with tach := s.front.tach.stopped }) := by
  simp [exec, execStoppedReport, h]

/-- Settles O13: a counted edge by the periods held, an uncounted one, and the stopped report. -/
theorem tachTimesFan : Obligations.TachTimesFan := by
  refine ⟨fun e k s hrun => ⟨_, exec_tachEdge e k s hrun, rfl, rfl, fun h => ?ignored, fun h => ?counted⟩,
    fun s h => ?stopped⟩
  case ignored => simp [(edgeCounted_eq_false_iff _ _).mpr h]
  case counted =>
    obtain ⟨htiming, hstop⟩ := s.front.tach.counted_timing s.path.working.ppr k
    simp only [(edgeCounted_iff _ _).mpr h, if_true, State.setFront_front]
    refine ⟨htiming, hstop, fun hidle => ?_, fun ht hp => ?_, fun ht hp => ?_⟩
    · simp [TachState.counted_of_idle _ _ _ hidle]
    · simp [TachState.counted_of_few _ _ _ ht hp, clampNat]
    · have drops : s.front.tach.periods.length + 1 - 8 = s.front.tach.periods.length - 7 := by omega
      simp [TachState.counted_of_many _ _ _ ht hp, joinNewest, clampNat, speedOf, drops]
  case stopped =>
    exact ⟨_, exec_stoppedReport s h, rfl, rfl⟩

/-! ### The power-fail warning -/

namespace StoredImages

variable (x : StoredImages) (ack : Bool)

theorem ask_keeps : (x.ask ack).queue = x.queue ∧ (x.ask ack).changed = x.changed ∧ (x.ask ack).service = x.service
    ∧ (x.ask ack).refusals = x.refusals := by
  unfold ask
  split
  · exact ⟨rfl, rfl, rfl, rfl⟩
  · exact ⟨rfl, rfl, rfl, rfl⟩

/-- R150: an idle unit with a job and HOLDACK low asks. -/
theorem ask_of_idle (h : x.hold = .idle) (hq : x.queue ≠ []) : x.ask false = x.enterRequesting := by
  simp [ask, h, hq]

/-- R150: outside IDLE, or with HOLDACK high, the unit does not ask. -/
theorem ask_of_kept (h : x.hold ≠ .idle ∨ ack = true) : x.ask ack = x := by
  obtain h | rfl := h
  · simp [ask, h]
  · simp [ask]

end StoredImages

theorem exec_npfwAssert (s : State) (h : s.phase = .running) :
    exec .npfwAssert s = .next ((s.setPins { s.pins with npfwLow := true }).setStore
      (s.store.requestUrgentSave.ask s.pins.holdAck)) := by
  simp [exec, execNpfwAssert, whenRunning, h, requestUrgent]

/-- Settles O16: the urgent request makes the queue non-empty, so an idle unit asks when HOLDACK is low. -/
theorem powerFailQueuesUrgentSave : Obligations.PowerFailQueuesUrgentSave := by
  intro s hrun
  obtain ⟨hqueue, hchanged, hservice, hrefusals⟩ := s.store.requestUrgentSave.ask_keeps s.pins.holdAck
  refine ⟨_, exec_npfwAssert s hrun, hqueue, fun hidle hack => ?asks, fun hkept => ?keeps, hchanged, hservice,
    hrefusals, rfl⟩
  case asks =>
    have job : s.store.requestUrgentSave.queue ≠ [] := List.cons_ne_nil _ _
    simp only [State.setStore_store, hack, StoredImages.ask_of_idle s.store.requestUrgentSave hidle job]
    exact ⟨rfl, rfl, rfl⟩
  case keeps =>
    simp only [State.setStore_store, StoredImages.ask_of_kept s.store.requestUrgentSave _ hkept]
    exact ⟨rfl, rfl⟩

end Sys2Proof.Machine
end

section
/-! SUPPORT. What a taken setting write, a switch event, a tank event and a door report make of the state. -/

namespace Sys2Proof.Machine

/-! ### A setting write up to its delivery (R135 to R138) -/

/-- The part with a setting write taken by the memory and the memory path and judged, before its delivery. -/
def judgedWrite (off v : Byte) (s : State) : State :=
  let bus := busWrite (address s.path.page off) v (takenWriteWaits s.path.working) s
  judgeClamp s.path.working off.toNat (bus.setPath (s.path.takeSetting off.toNat v))

@[simp] theorem recordClamp_keeps (clamped : Option Nat) (s : State) :
    (recordClamp clamped s).front = s.front ∧ (recordClamp clamped s).air = s.air ∧ (recordClamp clamped s).dry = s.dry
      ∧ (recordClamp clamped s).path.working = s.path.working := by
  cases clamped <;> simp [recordClamp]

theorem judgedWrite_frame (off v : Byte) (s : State) :
    (judgedWrite off v s).front = s.front ∧ (judgedWrite off v s).air = s.air ∧ (judgedWrite off v s).dry = s.dry
      ∧ (judgedWrite off v s).path.working = (s.path.takeSetting off.toNat v).working := by
  simp [judgedWrite, judgeClamp, busWrite]

@[simp] theorem settingTaken_keeps (s : State) :
    (settingTaken s).front = s.front ∧ (settingTaken s).air = s.air ∧ (settingTaken s).dry = s.dry
      ∧ (settingTaken s).notice = s.notice ∧ (settingTaken s).path.working = s.path.working := by
  simp only [settingTaken]
  split <;> simp

/-- R135: a setting write is its delivery, followed by the restarts of supervision and of the quiet timer. -/
theorem exec_settingWrite (off v : Byte) (s : State) (hs : s.takesCycles = true) (hoff : off.toNat < 0x40)
    (hlow : off.toNat ≠ 0x18) (hhigh : off.toNat ≠ 0x19) :
    exec (.settingWrite off v) s
      = .next (restartQuiet (settingTaken (deliverSetting s.path.working off.toNat (judgedWrite off v s)))) := by
  have place : classify s.path.page (address s.path.page off) = .setting off := by
    rw [classify_address _ _ (by omega), windowPlace, if_pos hoff]
  have taken : exec (.settingWrite off v) s = .next (controllerWrite (address s.path.page off) v s) := by
    rw [← windowWrite_eq off v s hs]
    rfl
  simp only [taken, controllerWrite, place, if_neg hlow, if_neg hhigh]
  rfl

/-- The blocks after a setting write are those its delivery leaves. -/
theorem exec_settingWrite_blocks (off v : Byte) (s : State) (hs : s.takesCycles = true) (hoff : off.toNat < 0x40)
    (hlow : off.toNat ≠ 0x18) (hhigh : off.toNat ≠ 0x19) :
    ∃ t, exec (.settingWrite off v) s = .next t
      ∧ t.front = (deliverSetting s.path.working off.toNat (judgedWrite off v s)).front
      ∧ t.air = (deliverSetting s.path.working off.toNat (judgedWrite off v s)).air
      ∧ t.dry = (deliverSetting s.path.working off.toNat (judgedWrite off v s)).dry
      ∧ t.notice = (deliverSetting s.path.working off.toNat (judgedWrite off v s)).notice
      ∧ t.path.working = (deliverSetting s.path.working off.toNat (judgedWrite off v s)).path.working := by
  refine ⟨_, exec_settingWrite off v s hs hoff hlow hhigh, ?_⟩
  simp [restartQuiet]

@[simp] theorem thresholdWritten_path (old : Settings) (s : State) : (thresholdWritten old s).path = s.path := by
  unfold thresholdWritten
  split <;> simp

/-- R137: a write at an offset that stands alone changes no other working byte. -/
theorem takeSetting_byte_of_ne (p : MemoryPath) (off m : Nat) (v : Byte) (hgroup : settingGroup off = [off])
    (hne : off ≠ m) : (p.takeSetting off v).working.byte m = p.working.byte m := by
  simp [MemoryPath.takeSetting, hgroup, Settings.byte, hne]

/-! ### The switches (R17) -/

/-- A settled switch with its debounce timer restarted. -/
def SwitchState.restart (x : SwitchState) (ms : Nat) : SwitchState :=
  if x.debounced.isSome then { x with timer := startTimer ms } else x

theorem SwitchState.restart_spec (x : SwitchState) (ms : Nat) :
    (x.restart ms).debounced = x.debounced
      ∧ (x.debounced.isSome = true → (x.restart ms).timer = startTimer ms)
      ∧ (x.debounced = none → (x.restart ms).timer = x.timer) := by
  unfold restart
  cases h : x.debounced <;> simp [h]

theorem restartDebounce_eq (sw : Switch) (s : State) :
    restartDebounce sw s
      = s.setFront (s.front.setSwitch sw ((s.front.switch sw).restart s.path.working.debounceMs)) := by
  unfold restartDebounce SwitchState.restart
  split
  · rfl
  · cases sw <;> rfl

@[simp] theorem restartDebounce_path (sw : Switch) (s : State) : (restartDebounce sw s).path = s.path := by
  simp [restartDebounce_eq]

theorem restartDebounce_switch (sw sw' : Switch) (s : State) :
    (restartDebounce sw s).front.switch sw'
      = if sw' = sw then (s.front.switch sw).restart s.path.working.debounceMs else s.front.switch sw' := by
  rw [restartDebounce_eq, State.setFront_front, FrontEnd.switch_setSwitch]

/-- One entry of the input polarity set in a write of it. -/
def polarityEntry (old : Settings) (s : State) (sw : Switch) : State :=
  if old.inverted (polarityBit sw) = s.path.working.inverted (polarityBit sw) then s else restartDebounce sw s

theorem polarityWritten_eq (old : Settings) (s : State) :
    polarityWritten old s = [Switch.highFloat, .fullFloat, .tankPresent, .door].foldl (polarityEntry old) s := rfl

@[simp] theorem polarityEntry_path (old : Settings) (s : State) (sw : Switch) :
    (polarityEntry old s sw).path = s.path := by
  unfold polarityEntry
  split <;> simp

theorem polarityEntry_switch (old : Settings) (s : State) (sw sw' : Switch) :
    (polarityEntry old s sw).front.switch sw'
      = if sw' = sw ∧ old.inverted (polarityBit sw) ≠ s.path.working.inverted (polarityBit sw) then
          (s.front.switch sw).restart s.path.working.debounceMs
        else s.front.switch sw' := by
  unfold polarityEntry
  split
  case isTrue h => simp [h]
  case isFalse h => simp [h, restartDebounce_switch]

/-- R17: a polarity write restarts the switches whose entry it changes. -/
theorem polarityWritten_switch (old : Settings) (s : State) (sw : Switch) :
    (polarityWritten old s).front.switch sw
      = if old.inverted (polarityBit sw) = s.path.working.inverted (polarityBit sw) then s.front.switch sw
        else (s.front.switch sw).restart s.path.working.debounceMs := by
  rw [polarityWritten_eq]
  cases sw <;> simp [polarityEntry_switch]

@[simp] theorem polarityWritten_path (old : Settings) (s : State) : (polarityWritten old s).path = s.path := by
  simp [polarityWritten_eq]

theorem Pins.level_setLevel (p : Pins) (sw sw' : Switch) (high : Bool) :
    (p.setLevel sw high).level sw' = if sw' = sw then high else p.level sw' := by
  cases sw <;> cases sw' <;> rfl

/-- R17: at one polarity the raw state changes as the level does. -/
theorem rawState_setLevel_eq_iff (p : Pins) (w : Settings) (sw : Switch) (high : Bool) :
    rawState (p.setLevel sw high) w sw = rawState p w sw ↔ high = p.level sw := by
  rw [rawState, rawState, Pins.level_setLevel, if_pos rfl]
  cases high <;> cases p.level sw <;> cases w.inverted (polarityBit sw) <;> decide

/-- R17: the timer restarts where the level changes. -/
theorem switchRawChange_eq (sw : Switch) (high : Bool) (s : State) (h : s.phase = .running) :
    switchRawChange sw high s
      = if high = s.pins.level sw then s.setPins (s.pins.setLevel sw high)
        else restartDebounce sw (s.setPins (s.pins.setLevel sw high)) := by
  simp only [switchRawChange, State.setPins_phase, State.setPins_pins, State.setPins_path, h, true_and, ne_eq,
    rawState_setLevel_eq_iff, ite_not]

theorem switchRawChange_frame (sw : Switch) (high : Bool) (s : State) (h : s.phase = .running) :
    (switchRawChange sw high s).pins = s.pins.setLevel sw high
      ∧ switchRawChange sw high s
        = (s.setPins (switchRawChange sw high s).pins).setFront (switchRawChange sw high s).front := by
  rw [switchRawChange_eq sw high s h]
  split
  · exact ⟨rfl, rfl⟩
  · rw [restartDebounce_eq]
    exact ⟨rfl, rfl⟩

/-- R17: the switches after a change of one input's level. -/
theorem switchRawChange_switch (sw sw' : Switch) (high : Bool) (s : State) (h : s.phase = .running) :
    (switchRawChange sw high s).front.switch sw'
      = if sw' = sw ∧ high ≠ s.pins.level sw then (s.front.switch sw).restart s.path.working.debounceMs
        else s.front.switch sw' := by
  rw [switchRawChange_eq sw high s h]
  split
  case isTrue hl => simp [hl]
  case isFalse hl => simp [hl, restartDebounce_switch]

/-! ### The tank block's copies of its switches (R95) -/

namespace TankBlock

/-- The three switch copies stand. -/
structure SameCopies (t u : TankBlock) : Prop where
  highFloat : u.highFloat = t.highFloat
  fullFloat : u.fullFloat = t.fullFloat
  present : u.present = t.present

theorem SameCopies.refl (t : TankBlock) : t.SameCopies t := ⟨rfl, rfl, rfl⟩

theorem SameCopies.trans {t u v : TankBlock} (h : t.SameCopies u) (k : u.SameCopies v) : t.SameCopies v :=
  ⟨k.highFloat.trans h.highFloat, k.fullFloat.trans h.fullFloat, k.present.trans h.present⟩

variable (t : TankBlock) (w : Settings)

theorem start_copies : t.SameCopies (t.start w) := by
  unfold start
  split
  · exact ⟨rfl, rfl, rfl⟩
  · exact .refl t

theorem removal_copies (was : Option Bool) (e : TankEvent) : t.SameCopies (t.removal was e) := by
  unfold removal
  split
  · exact ⟨rfl, rfl, rfl⟩
  · split
    · exact ⟨rfl, rfl, rfl⟩
    · exact .refl t
  · exact .refl t

theorem floatMove_copies : t.SameCopies (t.floatMove w) := by
  unfold floatMove
  repeat' split
  all_goals exact ⟨rfl, rfl, rfl⟩

theorem endOnTime_copies : t.SameCopies t.endOnTime := by
  unfold endOnTime
  split
  all_goals exact ⟨rfl, rfl, rfl⟩

theorem endAfterRun_copies : t.SameCopies t.endAfterRun := by
  unfold endAfterRun
  split
  all_goals exact ⟨rfl, rfl, rfl⟩

theorem settingMove_copies (off : Nat) : t.SameCopies (t.settingMove w off) := by
  unfold settingMove
  split
  · split
    · exact .refl t
    · exact ⟨rfl, rfl, rfl⟩
  · split
    · split
      · exact t.endOnTime_copies
      · exact .refl t
    · split
      · split
        · exact t.endAfterRun_copies
        · exact .refl t
      · exact .refl t

theorem movePump_copies (e : TankEvent) : t.SameCopies (t.movePump w e) := by
  refine SameCopies.trans ?_ (start_copies _ w)
  cases e with
  | highFloat => exact t.floatMove_copies w
  | fullFloat => exact t.floatMove_copies w
  | onTimeEnd => exact t.endOnTime_copies
  | afterRunEnd => exact t.endAfterRun_copies
  | setting off => exact t.settingMove_copies w off
  | present | settle | runMinute => exact .refl t

theorem judgeEstimate_copies : t.SameCopies (t.judgeEstimate w) := by
  simp only [judgeEstimate]
  split
  · refine SameCopies.trans ?_ (start_copies _ w)
    exact ⟨rfl, rfl, rfl⟩
  · exact ⟨rfl, rfl, rfl⟩

/-- R95: only step 1 of an event touches the switch copies. -/
theorem after_copies (e : TankEvent) : (t.own w e).SameCopies (t.after w e) := by
  have moved : (t.own w e).SameCopies (t.moved w e) := (removal_copies _ _ _).trans (movePump_copies _ _ _)
  have judged : (t.moved w e).SameCopies (t.judged w e) := by
    unfold judged
    split
    · exact judgeEstimate_copies _ w
    · exact .refl _
  exact (moved.trans judged).trans ⟨rfl, rfl, rfl⟩

end TankBlock

theorem tankEvent_tank (e : TankEvent) (s : State) : (tankEvent e s).tank = s.tank.after s.path.working e := by
  simp only [tankEvent]
  repeat' split
  all_goals simp

theorem tankEvent_copies (e : TankEvent) (s : State) :
    (s.tank.own s.path.working e).SameCopies (tankEvent e s).tank := by
  rw [tankEvent_tank]
  exact s.tank.after_copies s.path.working e

/-- R18: the settling expiry reports the tank state to drying whether or not it changes. -/
theorem tankEvent_settle_dryTank (high full present : Bool) (s : State) :
    (tankEvent (.settle high full present) s).dry.tank
      = some (tankEvent (.settle high full present) s).tank.level := by
  have report (level : TankLevel) (u : State) : (dryingTankReport level u).dry.tank = some level := by
    simp only [dryingTankReport]
    split
    · exact ((immediateStop_undisturbed _).trans (judgeDrying_undisturbed _)).dry.tank
    · exact (judgeDrying_undisturbed _).dry.tank
  rw [tankEvent_tank]
  simp [tankEvent, tankReports, report]

/-! ### The door report (R17, R26, R60) -/

theorem airDoorReport_undisturbed (isOpen : Bool) (s : State) : s.Undisturbed (airDoorReport isOpen s) := by
  have arbitrated : s.Undisturbed (s.setAir s.air.arbitrate) := .setAir s s.air.arbitrate_undisturbed
  simp only [airDoorReport]
  split
  · split
    · exact arbitrated.trans (abandonSweep_undisturbed _)
    · exact arbitrated
    · exact arbitrated
  · exact arbitrated.trans (leaveWaiting_undisturbed _)

theorem filterDoorReport_undisturbed (isOpen : Bool) (s : State) : s.Undisturbed (filterDoorReport isOpen s) := by
  have door (f : FilterState) : s.Undisturbed (s.setFilter f) := .of_eq rfl rfl rfl
  exact (door _).trans (reportCondition_undisturbed _ _ _)

theorem dryingDoorReport_undisturbed (isOpen : Bool) (s : State) : s.Undisturbed (dryingDoorReport isOpen s) := by
  unfold dryingDoorReport
  split
  · exact (immediateStop_undisturbed s).trans (judgeDrying_undisturbed _)
  · exact judgeDrying_undisturbed s

/-- The meaning of a door report as a block's copy. -/
def DoorCopy.ofReport (isOpen : Bool) : DoorCopy := if isOpen then .opened else .closed

/-- The part with every block's door copy set, before any acts. -/
def doorCopied (isOpen : Bool) (s : State) : State :=
  updateLamps (fun l => { l with door := .ofReport isOpen })
    ((s.setAir { s.air with doorClosed := !isOpen }).setDry { s.dry with door := .ofReport isOpen })

theorem doorReport_eq (isOpen : Bool) (s : State) :
    doorReport isOpen s
      = dryingDoorReport isOpen (filterDoorReport isOpen (airDoorReport isOpen (doorCopied isOpen s))) := rfl

theorem doorReport_undisturbed (isOpen : Bool) (s : State) :
    (doorCopied isOpen s).Undisturbed (doorReport isOpen s) := by
  rw [doorReport_eq]
  exact ((airDoorReport_undisturbed isOpen _).trans (filterDoorReport_undisturbed isOpen _)).trans
    (dryingDoorReport_undisturbed isOpen _)

theorem doorReport_copies (isOpen : Bool) (s : State) :
    (doorReport isOpen s).air.doorClosed = (!isOpen) ∧ (doorReport isOpen s).dry.door = .ofReport isOpen
      ∧ (doorReport isOpen s).lamps.door = .ofReport isOpen ∧ (doorReport isOpen s).dry.tank = s.dry.tank := by
  have h := doorReport_undisturbed isOpen s
  exact ⟨h.air.door, h.dry.door, h.lampDoor, h.dry.tank⟩

theorem doorReport_filter (isOpen : Bool) (s : State) : (doorReport isOpen s).filter.door = .ofReport isOpen := by
  simp [doorReport_eq, filterDoorReport, DoorCopy.ofReport]

theorem doorReport_filterDoor (isOpen : Bool) (s : State) :
    hasFlag (doorReport isOpen s).notice.conditions .filterDoor = isOpen := by
  simp [doorReport_eq, filterDoorReport]

/-- R27: the open door takes the duty to 0 in the event, and nothing after it in the event raises it. -/
theorem doorReport_open_fan (s : State) : (doorReport true s).air.effective = 0 := by
  have overridden : (doorCopied true s).air.overridden = true := rfl
  have cut : (airDoorReport true (doorCopied true s)).air.effective = 0 := by
    have arbitrated := (doorCopied true s).air.arbitrate_effective_of_overridden overridden
    simp only [airDoorReport, if_true]
    split
    · exact (abandonSweep_undisturbed _).air.fanOff arbitrated
    · exact arbitrated
    · exact arbitrated
  rw [doorReport_eq]
  exact ((filterDoorReport_undisturbed true _).trans (dryingDoorReport_undisturbed true _)).air.fanOff cut

/-- R78: the open door stops a running compressor, and nothing after it in the event starts one. -/
theorem dryingDoorReport_open_comp (s : State) : (dryingDoorReport true s).dry.comp ≠ .running :=
  (judgeDrying_undisturbed (immediateStop s)).dry.compOff (immediateStop_comp s)

theorem doorReport_open_comp (s : State) : (doorReport true s).dry.comp ≠ .running := by
  rw [doorReport_eq]
  exact dryingDoorReport_open_comp _

end Sys2Proof.Machine
end

section
/-! SUPPORT. The statements of the measurement inputs that reach other blocks: SENSOR_FAULT and the supply-low detector, the
debounced switches and the settling expiry. -/

namespace Sys2Proof.Machine

/-! ### SENSOR_FAULT and the supply-low detector (R8, R20) -/

/-- SENSOR_FAULT follows the channels through a command of the measurement front end that can change one. -/
theorem sensorFault_follows (c : Instr) (s t : State)
    (hc : (∃ ch code, c = .converterArrival ch code) ∨ c = .particleWindowEnd)
    (hs : hasFlag s.notice.conditions .sensorFault = s.front.sensorFault) (ht : exec c s = .next t) :
    hasFlag t.notice.conditions .sensorFault = t.front.sensorFault := by
  obtain ⟨ch, code, rfl⟩ | rfl := hc
  · simp only [exec, execConverterArrival, whenRunning, Host.Outcome.next.injEq] at ht
    subst ht
    split
    · exact converterArrival_sensorFault ch code s
    · exact hs
  · simp only [exec, execParticleWindowEnd, whenRunning, Host.Outcome.next.injEq] at ht
    subst ht
    split
    · exact particleWindowEnd_sensorFault s
    · exact hs

/-- Settles O11: each arrival and each window end reports SENSOR_FAULT, and the detector is judged after an arrival of
SUPPLY and after a write that changes its threshold. -/
theorem frontEndJudgesArrivals : Obligations.FrontEndJudgesArrivals := by
  refine ⟨fun c s t hc hs ht => ?fault, fun code s hrun => ?arrival, fun v s ⟨hcycles, _, _⟩ => ?write⟩
  case fault =>
    rw [sensorFault_follows c s t hc hs ht, FrontEnd.sensorFault_iff]
  case arrival =>
    refine ⟨_, exec_converterArrival .supply code s hrun, ?_⟩
    have low : (arrivalJudged .supply code s).front.supplyLow = s.front.supplyLow := by
      rw [arrivalJudged_front]
      rfl
    have path : (arrivalJudged .supply code s).path = s.path := by simp
    have latches := judgeSupply_latches (arrivalJudged .supply code s)
    have reports := judgeSupply_reports (arrivalJudged .supply code s)
    obtain ⟨invalid, valid⟩ := nextSupplyLow_spec (arrivalJudged .supply code s).front.supply
      s.path.working.supplyLowThreshold s.front.supplyLow
    rw [low] at latches reports
    rw [converterArrival_supply]
    refine ⟨?_, ?_, latches, reports⟩
    · rw [judgeSupply_front, low, path]; exact invalid
    · rw [judgeSupply_front, low, path]; exact valid
  case write =>
    obtain ⟨t, ht, hfront, hair, hdry, hnotice, hworking⟩ :=
      exec_settingWrite_blocks 0x2F#8 v s hcycles (by decide) (by decide) (by decide)
    obtain ⟨hjfront, -, -, -⟩ := judgedWrite_frame 0x2F#8 v s
    have delivered : deliverSetting s.path.working (0x2F#8 : Byte).toNat (judgedWrite 0x2F#8 v s)
        = thresholdWritten s.path.working (judgedWrite 0x2F#8 v s) := rfl
    rw [delivered] at hfront hair hdry hnotice hworking
    rw [thresholdWritten_path] at hworking
    refine ⟨t, ht, ?_⟩
    rw [hfront, hair, hdry, hnotice, hworking]
    by_cases hsame : s.path.working.supplyLowThreshold = (judgedWrite 0x2F#8 v s).path.working.supplyLowThreshold
    · rw [thresholdWritten, if_pos hsame, hjfront]
      exact ⟨rfl, fun hne => absurd hsame.symm hne, fun hoff hon => absurd (hoff.symm.trans hon) (by decide),
        fun hne => absurd rfl hne⟩
    · rw [thresholdWritten, if_neg hsame]
      have latches := judgeSupply_latches (judgedWrite 0x2F#8 v s)
      have reports := judgeSupply_reports (judgedWrite 0x2F#8 v s)
      rw [hjfront] at latches reports
      refine ⟨?_, fun _ => ?_, latches, reports⟩
      · rw [judgeSupply_front, hjfront]
      · rw [judgeSupply_front, hjfront]
        exact nextSupplyLow_spec _ _ _

/-! ### The debounced switches (R17) -/

theorem switchReport_tank (sw : Switch) (b : Bool) (s : State) :
    (sw = .highFloat → (switchReport sw b s).tank.highFloat = some b)
      ∧ (sw = .fullFloat → (switchReport sw b s).tank.fullFloat = some b)
      ∧ (sw = .tankPresent → (switchReport sw b s).tank.present = some b) := by
  refine ⟨?_, ?_, ?_⟩
  · rintro rfl; exact (tankEvent_copies (.highFloat b) s).highFloat
  · rintro rfl; exact (tankEvent_copies (.fullFloat b) s).fullFloat
  · rintro rfl; exact (tankEvent_copies (.present b) s).present

theorem exec_debounceExpiry (sw : Switch) (s : State) (h : (s.front.switch sw).timer.isSome = true) :
    exec (.debounceExpiry sw) s = .next (debounceExpiry sw s) := by
  simp [exec, execDebounceExpiry, h]

/-- The switch with its raw state as the debounced one, before any report. -/
def takeRawState (sw : Switch) (s : State) : State :=
  s.setFront (s.front.setSwitch sw { debounced := some (rawState s.pins s.path.working sw), timer := none })

theorem debounceExpiry_of_same (sw : Switch) (s : State)
    (h : (s.front.switch sw).debounced = some (rawState s.pins s.path.working sw)) :
    debounceExpiry sw s = takeRawState sw s := by
  simp [debounceExpiry, takeRawState, h]

theorem debounceExpiry_of_changed (sw : Switch) (s : State)
    (h : (s.front.switch sw).debounced ≠ some (rawState s.pins s.path.working sw)) :
    debounceExpiry sw s = switchReport sw (rawState s.pins s.path.working sw) (takeRawState sw s) := by
  simp [debounceExpiry, takeRawState, h]

theorem debounceExpiry_frame (sw : Switch) (s : State) :
    (debounceExpiry sw s).front = (takeRawState sw s).front ∧ (debounceExpiry sw s).pins = s.pins
      ∧ (debounceExpiry sw s).path = s.path ∧ (debounceExpiry sw s).memory = s.memory
      ∧ (debounceExpiry sw s).phase = s.phase ∧ (debounceExpiry sw s).pending = s.pending := by
  by_cases h : (s.front.switch sw).debounced = some (rawState s.pins s.path.working sw)
  · simp [debounceExpiry_of_same sw s h, takeRawState]
  · simp [debounceExpiry_of_changed sw s h, takeRawState]

/-- R17: a changed state of the filter door at the air mover, and its stop of the fan and the compressor. -/
theorem switchReport_door (b : Bool) (s : State) :
    (switchReport .door b s).air.doorClosed = (!b)
      ∧ (b = true → (switchReport .door b s).fanPin = 0 ∧ (switchReport .door b s).compPin = false) := by
  refine ⟨(doorReport_copies b s).1, ?_⟩
  rintro rfl
  simp [switchReport, State.fanPin, State.compPin, doorReport_open_fan, doorReport_open_comp]

/-- Settles O14: the three events of a switch, each by whether the raw state differs. -/
theorem switchesDebounce : Obligations.SwitchesDebounce := by
  refine ⟨fun sw high s hrun => ⟨switchRawChange sw high s, rfl, ?raw⟩,
    fun sw s htimer => ⟨debounceExpiry sw s, exec_debounceExpiry sw s htimer, ?expiry⟩,
    fun v s ⟨hcycles, _, _⟩ => ?polarity⟩
  case raw =>
    obtain ⟨hsame, hsettled, hunsettled⟩ := (s.front.switch sw).restart_spec s.path.working.debounceMs
    obtain ⟨hpins, honly⟩ := switchRawChange_frame sw high s hrun
    simp only [hpins, Pins.level_setLevel, switchRawChange_switch sw _ high s hrun]
    refine ⟨if_pos trivial, fun sw' hne => ?_, ?_, fun hl hset => ?_, fun hstands => ?_, hpins ▸ honly⟩
    · simp [hne]
    · split
      · exact hsame
      · rfl
    · rw [if_pos ⟨trivial, hl⟩]
      exact hsettled hset
    · split
      case isTrue h => exact hunsettled (hstands.resolve_left h.2)
      case isFalse => rfl
  case expiry =>
    obtain ⟨hfront, hframe⟩ := debounceExpiry_frame sw s
    refine ⟨?_, fun sw' hne => ?_, fun hsame => ?_, fun hchanged => ⟨?_, ?_⟩, hframe⟩
    · rw [hfront, takeRawState, State.setFront_front, FrontEnd.switch_setSwitch, if_pos rfl]
    · rw [hfront, takeRawState, State.setFront_front, FrontEnd.switch_setSwitch, if_neg hne]
    · rw [debounceExpiry_of_same sw s hsame]
      rfl
    · rintro rfl
      rw [debounceExpiry_of_changed _ s hchanged]
      exact switchReport_door _ _
    · rw [debounceExpiry_of_changed _ s hchanged]
      exact switchReport_tank _ _ _
  case polarity =>
    obtain ⟨u, hu, hfront, -, -, -, hworking⟩ :=
      exec_settingWrite_blocks 0x29#8 v s hcycles (by decide) (by decide) (by decide)
    obtain ⟨hjfront, -, -, hjworking⟩ := judgedWrite_frame 0x29#8 v s
    have delivered : deliverSetting s.path.working (0x29#8 : Byte).toNat (judgedWrite 0x29#8 v s)
        = polarityWritten s.path.working (judgedWrite 0x29#8 v s) := rfl
    rw [delivered] at hfront hworking
    have debounce : (judgedWrite 0x29#8 v s).path.working.debounceMs = s.path.working.debounceMs := by
      rw [hjworking, Settings.debounceMs, Settings.nat, takeSetting_byte_of_ne _ _ _ _ rfl (by decide)]
      rfl
    refine ⟨u, hu, fun sw => ?_⟩
    obtain ⟨hsame, hsettled, hunsettled⟩ := (s.front.switch sw).restart_spec s.path.working.debounceMs
    rw [hfront, hworking, polarityWritten_path, polarityWritten_switch, hjfront, debounce]
    refine ⟨?_, fun hne hset => ?_, fun hstands => ?_⟩
    · split
      · rfl
      · exact hsame
    · rw [if_neg (Ne.symm hne)]
      exact hsettled hset
    · split
      case isTrue => rfl
      case isFalse h => exact hunsettled (hstands.resolve_left (Ne.symm h))

/-! ### The settling expiry (R18) -/

/-- The front end with every switch settled by its raw state. -/
def FrontEnd.settled (f : FrontEnd) (p : Pins) (w : Settings) : FrontEnd :=
  { f with
    highFloat := { debounced := some (rawState p w .highFloat), timer := none }
    fullFloat := { debounced := some (rawState p w .fullFloat), timer := none }
    tankPresent := { debounced := some (rawState p w .tankPresent), timer := none }
    door := { debounced := some (rawState p w .door), timer := none }
    settling := none }

theorem FrontEnd.settled_switch (f : FrontEnd) (p : Pins) (w : Settings) (sw : Switch) :
    (f.settled p w).switch sw = { debounced := some (rawState p w sw), timer := none } := by
  cases sw <;> rfl

/-- The tank event of the settling expiry. -/
def settleEvent (p : Pins) (w : Settings) : TankEvent :=
  .settle (rawState p w .highFloat) (rawState p w .fullFloat) (rawState p w .tankPresent)

theorem settlingExpiry_eq (s : State) :
    settlingExpiry s = doorReport (rawState s.pins s.path.working .door)
      (tankEvent (settleEvent s.pins s.path.working) (s.setFront (s.front.settled s.pins s.path.working))) := rfl

theorem exec_switchSettlingExpiry (s : State) (h : s.front.settling.isSome = true) :
    exec .switchSettlingExpiry s = .next (settlingExpiry s) := by
  simp [exec, execSwitchSettlingExpiry, h]

/-- Settles O15: the tank event of the first states, then the door report, which leaves the tank block alone. -/
theorem settlingReportsSwitches : Obligations.SettlingReportsSwitches := by
  intro s hs
  refine ⟨_, exec_switchSettlingExpiry s hs, ?_⟩
  rw [settlingExpiry_eq]
  generalize hu : tankEvent (settleEvent s.pins s.path.working)
    (s.setFront (s.front.settled s.pins s.path.working)) = u
  have front : u.front = s.front.settled s.pins s.path.working := by simp [← hu]
  have frame : u.path = s.path ∧ u.memory = s.memory ∧ u.pins = s.pins ∧ u.pending = s.pending := by simp [← hu]
  have copies : u.tank.highFloat = some (rawState s.pins s.path.working .highFloat)
      ∧ u.tank.fullFloat = some (rawState s.pins s.path.working .fullFloat)
      ∧ u.tank.present = some (rawState s.pins s.path.working .tankPresent) := by
    obtain ⟨hhigh, hfull, hpresent⟩ :=
      tankEvent_copies (settleEvent s.pins s.path.working) (s.setFront (s.front.settled s.pins s.path.working))
    rw [hu] at hhigh hfull hpresent
    exact ⟨hhigh, hfull, hpresent⟩
  have level : u.dry.tank = some u.tank.level := by
    rw [← hu]
    exact tankEvent_settle_dryTank _ _ _ _
  obtain ⟨hair, hdry, hlamps, htank⟩ := doorReport_copies (rawState s.pins s.path.working .door) u
  have hfilter := doorReport_filter (rawState s.pins s.path.working .door) u
  have hflag := doorReport_filterDoor (rawState s.pins s.path.working .door) u
  simp only [doorReport_outside, doorReport_keeps, front, frame, copies, level, hair, hdry, hlamps, htank, hfilter, hflag,
    FrontEnd.settled_switch, true_and, and_true, implies_true]
  exact ⟨rfl, rfl⟩

end Sys2Proof.Machine
end

section
/-! SUPPORT. The air mover's own operations: what arbitration and the moves built on it keep, and that they leave a fan
that R23, R27 and R28 call safe. -/

namespace Sys2Proof.Machine

namespace AirMover

/-! ### What arbitration keeps -/

/-- From `a` to `b` only the slots of the compressor and of the sweep, the copies of all-stop and of the compressor, and
what arbitration moves have changed: the target, the duty, the fan state, the settled state and the ramp, the monitor and
the sweep's phase. A stalled, stopped, unsettled or disarmed fan and an idle sweep stay so. -/
structure Follows (a b : AirMover) : Prop where
  user : b.user = a.user
  auto : b.auto = a.auto
  protect : b.protect = a.protect
  standalone : b.standalone = a.standalone
  band : b.band = a.band
  retries : b.retries = a.retries
  stallWait : b.stallWait = a.stallWait
  cleanRun : b.cleanRun = a.cleanRun
  baseline : b.baseline = a.baseline
  q : b.q = a.q
  scratch : b.scratch = a.scratch
  airflow : b.airflow = a.airflow
  confirmed : b.confirmed = a.confirmed
  doorClosed : b.doorClosed = a.doorClosed
  supplyLow : b.supplyLow = a.supplyLow
  fanStalled : a.stalled = true → b.fan = a.fan
  fanFree : a.stalled = false → b.stalled = false
  rampStopped : a.stalled = true → a.rampTimer = none → b.rampTimer = none
  fanOff : a.effective = 0 → b.effective = 0
  unsettled : a.settled = false → b.settled = false
  disarmed : a.armed = false → b.armed = false
  noZeroRun : a.zeroRun = 0 → b.zeroRun = 0
  sweepIdle : a.sweep = .none → b.sweep = .none
  learnIdle : a.sweep = .none → b.learn = a.learn

/-- From `a` to `b` only what arbitration moves has changed. -/
structure Kept (a b : AirMover) : Prop extends a.Follows b where
  drying : b.drying = a.drying
  defrost : b.defrost = a.defrost
  learn : b.learn = a.learn
  allStop : b.allStop = a.allStop
  compressor : b.compressor = a.compressor

variable {a b c : AirMover}

theorem stalled_congr (h : b.fan = a.fan) : b.stalled = a.stalled := by simp [stalled, h]

theorem Follows.refl (a : AirMover) : a.Follows a := by
  constructor <;> simp

theorem Follows.trans (h : a.Follows b) (k : b.Follows c) : a.Follows c where
  user := k.user.trans h.user
  auto := k.auto.trans h.auto
  protect := k.protect.trans h.protect
  standalone := k.standalone.trans h.standalone
  band := k.band.trans h.band
  retries := k.retries.trans h.retries
  stallWait := k.stallWait.trans h.stallWait
  cleanRun := k.cleanRun.trans h.cleanRun
  baseline := k.baseline.trans h.baseline
  q := k.q.trans h.q
  scratch := k.scratch.trans h.scratch
  airflow := k.airflow.trans h.airflow
  confirmed := k.confirmed.trans h.confirmed
  doorClosed := k.doorClosed.trans h.doorClosed
  supplyLow := k.supplyLow.trans h.supplyLow
  fanStalled ha := (k.fanStalled ((stalled_congr (h.fanStalled ha)).trans ha)).trans (h.fanStalled ha)
  fanFree := k.fanFree ∘ h.fanFree
  rampStopped ha hr := k.rampStopped ((stalled_congr (h.fanStalled ha)).trans ha) (h.rampStopped ha hr)
  fanOff := k.fanOff ∘ h.fanOff
  unsettled := k.unsettled ∘ h.unsettled
  disarmed := k.disarmed ∘ h.disarmed
  noZeroRun := k.noZeroRun ∘ h.noZeroRun
  sweepIdle := k.sweepIdle ∘ h.sweepIdle
  learnIdle ha := (k.learnIdle (h.sweepIdle ha)).trans (h.learnIdle ha)

theorem Kept.refl (a : AirMover) : a.Kept a := ⟨.refl a, rfl, rfl, rfl, rfl, rfl⟩

theorem Kept.trans (h : a.Kept b) (k : b.Kept c) : a.Kept c :=
  ⟨h.toFollows.trans k.toFollows, k.drying.trans h.drying, k.defrost.trans h.defrost, k.learn.trans h.learn,
    k.allStop.trans h.allStop, k.compressor.trans h.compressor⟩

theorem cutDuty_kept (a : AirMover) : a.Kept a.cutDuty :=
  ⟨by constructor <;> simp +contextual [cutDuty, disarm, stalled], rfl, rfl, rfl, rfl, rfl⟩

theorem unsettle_kept (a : AirMover) : a.Kept a.unsettle :=
  ⟨by constructor <;> simp +contextual [unsettle, stalled, Sweep.resettle], rfl, rfl, rfl, rfl, rfl⟩

theorem retarget_kept (a : AirMover) (d : Nat) : a.Kept (a.retarget d) := by
  have target (t : Timer) : a.unsettle.Kept { a.unsettle with target := d, settledTimer := t } :=
    ⟨by constructor <;> simp +contextual [stalled], rfl, rfl, rfl, rfl, rfl⟩
  simp only [retarget]
  split
  · exact .refl a
  · split
    · exact a.unsettle_kept.trans (target _)
    · exact a.unsettle_kept.trans (target a.unsettle.settledTimer)

theorem follow_kept (a : AirMover) : a.Kept a.follow := by
  unfold follow
  split
  · exact .refl a
  case isFalse h =>
    refine ⟨?_, rfl, rfl, rfl, rfl, rfl⟩
    constructor <;> simp [h]
    split <;> simp [stalled]

theorem driveRamp_kept (a : AirMover) : a.Kept a.driveRamp := by
  simp only [driveRamp]
  split
  · exact ⟨by constructor <;> simp +contextual [stalled], rfl, rfl, rfl, rfl, rfl⟩
  case isFalse h =>
    split
    · exact .refl a
    · exact ⟨by constructor <;> simp_all [stalled], rfl, rfl, rfl, rfl, rfl⟩

theorem arbitrate_kept (a : AirMover) : a.Kept a.arbitrate := by
  have tail (b : AirMover) : b.Kept ((b.retarget a.chosen).follow).driveRamp :=
    ((b.retarget_kept _).trans (follow_kept _)).trans (driveRamp_kept _)
  simp only [arbitrate]
  split
  · exact a.cutDuty_kept.trans (tail _)
  · exact tail a

/-! ### The target and the duty arbitration leaves -/

theorem retarget_target (a : AirMover) (d : Nat) : (a.retarget d).target = d := by
  simp only [retarget]
  split
  case isTrue h => exact h.symm
  case isFalse => split <;> rfl

theorem retarget_effective (a : AirMover) (d : Nat) : (a.retarget d).effective = a.effective := by
  simp only [retarget]
  split
  · rfl
  · split <;> rfl

@[simp] theorem follow_duties (a : AirMover) : a.follow.target = a.target ∧ a.follow.effective = a.effective := by
  unfold follow
  split <;> exact ⟨rfl, rfl⟩

@[simp] theorem driveRamp_duties (a : AirMover) :
    a.driveRamp.target = a.target ∧ a.driveRamp.effective = a.effective ∧ a.driveRamp.fan = a.fan := by
  unfold driveRamp
  split
  · exact ⟨rfl, rfl, rfl⟩
  · split <;> exact ⟨rfl, rfl, rfl⟩

theorem arbitrate_target (a : AirMover) : a.arbitrate.target = a.chosen := by
  simp [arbitrate, retarget_target]

theorem arbitrate_effective (a : AirMover) :
    a.arbitrate.effective = if a.overridden then 0 else a.effective := by
  simp only [arbitrate, driveRamp_duties, follow_duties, retarget_effective]
  split <;> rfl

theorem overridden_congr (hd : b.doorClosed = a.doorClosed) (hs : b.allStop = a.allStop) :
    b.overridden = a.overridden := by
  simp [overridden, hd, hs]

theorem Kept.slotsLegal (h : a.Kept b) (ha : a.slotsLegal) : b.slotsLegal := by
  simpa [AirMover.slotsLegal, h.user, h.auto, h.drying, h.defrost, h.protect, h.standalone, h.learn] using ha

theorem Kept.overridden (h : a.Kept b) : b.overridden = a.overridden := overridden_congr h.doorClosed h.allStop

/-! ### The safe fan (R23, R27, R28) -/

theorem slotDuty_eq_zero_or (slot : Option Nat) : slotDuty slot = 0 ∨ slot = some (slotDuty slot) := by
  cases slot
  · exact .inl rfl
  · exact .inr rfl

theorem slotDuty_legal {slot : Option Nat} (h : legalSlot slot) : legalDuty (slotDuty slot) :=
  (slotDuty_eq_zero_or slot).imp id (h _)

theorem highest_legal (h : a.slotsLegal) : legalDuty a.highest := by
  obtain ⟨user, auto, drying, defrost, protect, standalone, learn⟩ := h
  exact max_rec' legalDuty (slotDuty_legal user) (max_rec' legalDuty (slotDuty_legal auto)
    (max_rec' legalDuty (slotDuty_legal drying) (max_rec' legalDuty (slotDuty_legal defrost)
      (max_rec' legalDuty (slotDuty_legal protect)
        (max_rec' legalDuty (slotDuty_legal standalone) (slotDuty_legal learn))))))

theorem chosen_legal (h : a.slotsLegal) : legalDuty a.chosen := by
  unfold chosen
  split
  · exact .inl rfl
  · split
    case h_1 d hlearn => exact .inr (h.2.2.2.2.2.2 d hlearn)
    case h_2 => exact highest_legal h

/-- A duty of 0, or that of a slot other than LEARN. -/
def Offers (a : AirMover) (d : Nat) : Prop :=
  d = 0 ∨ a.user = some d ∨ a.auto = some d ∨ a.drying = some d ∨ a.defrost = some d ∨ a.protect = some d
    ∨ a.standalone = some d

/-- R27, step 3: no slot present lies above the highest. -/
theorem le_highest {d : Nat} (h : a.user = some d ∨ a.auto = some d ∨ a.drying = some d ∨ a.defrost = some d
    ∨ a.protect = some d ∨ a.standalone = some d) : d ≤ a.highest := by
  unfold highest
  obtain h | h | h | h | h | h := h <;> simp [h, slotDuty]

/-- R27, step 3: without LEARN the highest is 0 or the duty of a slot present. -/
theorem highest_offered (h : a.learn = none) : a.Offers a.highest := by
  have slot {x : Option Nat} (hx : ∀ d, x = some d → a.Offers d) : a.Offers (slotDuty x) :=
    (slotDuty_eq_zero_or x).elim .inl (hx _)
  exact max_rec' a.Offers (slot (by simp +contextual [Offers])) (max_rec' a.Offers (slot (by simp +contextual [Offers]))
    (max_rec' a.Offers (slot (by simp +contextual [Offers])) (max_rec' a.Offers (slot (by simp +contextual [Offers]))
      (max_rec' a.Offers (slot (by simp +contextual [Offers]))
        (max_rec' a.Offers (slot (by simp +contextual [Offers])) (slot (by simp [h])))))))

/-- What the air mover needs for arbitration to leave a safe fan. -/
structure Sound (a : AirMover) : Prop where
  slots : a.slotsLegal
  band : a.band ≤ 3
  duty : legalDuty a.effective

/-- The air mover's part of `State.fanSafe`. -/
structure Safe (a : AirMover) : Prop extends a.Sound where
  target : legalDuty a.target
  arbitrated : a.targetArbitrated
  held : a.overrideHeld

theorem targetArbitrated_of_chosen (h : b.target = b.chosen) : b.targetArbitrated := by
  refine ⟨fun ho => ?overridden, fun ho d hd => ?learn, fun ho hl => ?highest⟩
  case overridden => simp [h, chosen, ho]
  case learn => simp [h, chosen, ho, hd]
  case highest =>
    have target : b.target = b.highest := by simp [h, chosen, ho, hl]
    rw [target]
    exact ⟨fun d => le_highest, highest_offered hl⟩

theorem chosen_congr (hk : a.Kept b) : b.chosen = a.chosen := by
  simp [chosen, highest, hk.overridden, hk.user, hk.auto, hk.drying, hk.defrost, hk.protect, hk.standalone, hk.learn]

/-- R27: arbitration leaves a safe fan, whatever the target was. -/
theorem Sound.arbitrate (h : a.Sound) : a.arbitrate.Safe where
  slots := a.arbitrate_kept.slotsLegal h.slots
  band := a.arbitrate_kept.band ▸ h.band
  duty := by
    rw [arbitrate_effective]
    split
    · exact .inl rfl
    · exact h.duty
  target := a.arbitrate_target ▸ chosen_legal h.slots
  arbitrated := targetArbitrated_of_chosen (by rw [arbitrate_target, chosen_congr a.arbitrate_kept])
  held ho := by
    rw [a.arbitrate_kept.overridden] at ho
    exact ⟨by simp [arbitrate_target, chosen, ho], by simp [arbitrate_effective, ho]⟩

/-- The figures that make a fan safe. -/
def safetyFigures (a : AirMover) : List (Option Nat) × List Nat × Bool × Bool :=
  ([a.user, a.auto, a.drying, a.defrost, a.protect, a.standalone, a.learn], [a.band, a.target, a.effective],
    a.doorClosed, a.allStop)

theorem Safe.of_figures (h : a.Safe) (hb : b.safetyFigures = a.safetyFigures) : b.Safe := by
  cases a
  cases b
  simp only [safetyFigures, Prod.mk.injEq, List.cons.injEq, and_true, and_assoc] at hb
  obtain ⟨rfl, rfl, rfl, rfl, rfl, rfl, rfl, rfl, rfl, rfl, rfl, rfl⟩ := hb
  exact ⟨⟨h.slots, h.band, h.duty⟩, h.target, h.arbitrated, h.held⟩

/-- A safe fan stays safe while its slots, its target and its override stand and its duty stays legal. -/
theorem Safe.of_kept (h : a.Safe) (hk : a.Kept b) (ht : b.target = a.target) (he : legalDuty b.effective) : b.Safe where
  slots := hk.slotsLegal h.slots
  band := hk.band ▸ h.band
  duty := he
  target := ht ▸ h.target
  arbitrated := by
    simpa only [targetArbitrated, ht, hk.overridden, hk.user, hk.auto, hk.drying, hk.defrost, hk.protect,
      hk.standalone, hk.learn] using h.arbitrated
  held ho := by
    obtain ⟨target, duty⟩ := h.held (hk.overridden ▸ ho)
    exact ⟨ht.trans target, hk.fanOff duty⟩

end AirMover
end Sys2Proof.Machine
end

section
/-! SUPPORT. The duties of the formed working settings, and the air mover's moves that keep the fan safe. -/

namespace Sys2Proof.Machine

/-! ### Duties among the working settings (R136, Table 34) -/

theorem workingByte_range {lo hi off : Nat} (raw : List Byte) (hkind : settingKind off = .unsigned lo hi)
    (hlo : lo ≤ hi) (hhi : hi < 256) : lo ≤ (workingByte raw off).toNat ∧ (workingByte raw off).toNat ≤ hi := by
  simp only [workingByte, hkind, BitVec.toNat_ofNat, clampNat]
  omega

theorem workingImage_getD (raw : List Byte) (off : Nat) (h : off < 64) :
    (workingImage raw).getD off 0 = workingByte raw off := by
  simp [workingImage, List.getD_eq_getElem?_getD, h]

/-- R23: a duty a slot may hold. -/
def slotDutyLegal (d : Nat) : Prop := 31 ≤ d ∧ d ≤ 255

theorem legalSlot_some {d : Nat} : legalSlot (some d) ↔ slotDutyLegal d := by simp [legalSlot, slotDutyLegal]

theorem legalSlot_none : legalSlot none := by simp [legalSlot]

/-- The settings that the demand slots take lie in their ranges. -/
structure Settings.DutiesLegal (w : Settings) : Prop where
  speed : ∀ n, 1 ≤ n → n ≤ 4 → slotDutyLegal (w.speedDuty n)
  fanSpeed : w.fanSpeed ≤ 4
  dry : slotDutyLegal w.dryDuty
  defrost : slotDutyLegal w.defrostDuty
  standalone : slotDutyLegal w.standaloneDuty

theorem MemoryPath.settingsFormed.dutiesLegal {p : MemoryPath} (h : p.settingsFormed) : p.working.DutiesLegal := by
  have inRange {lo hi off : Nat} (hoff : off < 64) (hkind : settingKind off = .unsigned lo hi) (hlo : lo ≤ hi)
      (hhi : hi < 256) : lo ≤ p.working.nat off ∧ p.working.nat off ≤ hi := by
    rw [Settings.nat, Settings.byte, h.2.1, workingImage_getD _ _ hoff]
    exact workingByte_range p.raw hkind hlo hhi
  refine ⟨fun n h1 h4 => ?speed, (inRange (lo := 0) (by decide) rfl (by decide) (by decide)).2,
    inRange (by decide) rfl (by decide) (by decide), inRange (by decide) rfl (by decide) (by decide),
    inRange (by decide) rfl (by decide) (by decide)⟩
  case speed =>
    have kind : settingKind (0x06 + n) = .unsigned 31 255 := by
      obtain rfl | rfl | rfl | rfl : n = 1 ∨ n = 2 ∨ n = 3 ∨ n = 4 := by omega
      all_goals rfl
    exact inRange (by omega) kind (by decide) (by decide)

/-! ### Moves of the air mover -/

namespace AirMover

variable {a : AirMover} {w : Settings}

theorem dutyPoint_legal {i : Nat} (h : i ≤ 7) : slotDutyLegal (dutyPoint i) := by
  unfold slotDutyLegal dutyPoint
  omega

theorem redo_legal {slot : Option Nat} {d : Nat} (h : slotDutyLegal d) : legalSlot (redo slot d) := by
  cases slot
  · exact legalSlot_none
  · exact legalSlot_some.2 h

theorem beginHold_kept (a : AirMover) : a.Kept a.beginHold := by
  unfold beginHold
  split
  case h_1 hsweep =>
    split
    · exact ⟨by constructor <;> simp +contextual [stalled, hsweep], rfl, rfl, rfl, rfl, rfl⟩
    · exact .refl a
  case h_2 => exact .refl a

theorem beginHold_duties (a : AirMover) : a.beginHold.target = a.target ∧ a.beginHold.effective = a.effective := by
  unfold beginHold
  repeat' split
  all_goals exact ⟨rfl, rfl⟩

theorem Safe.beginHold (h : a.Safe) : a.beginHold.Safe :=
  h.of_kept a.beginHold_kept a.beginHold_duties.1 (a.beginHold_duties.2 ▸ h.duty)

/-- The air mover with a point's duty in the LEARN slot, before arbitration. -/
def measuring (a : AirMover) (i : Nat) : AirMover :=
  { a with sweep := .measuring i .settling, learn := some (dutyPoint i), learnTimer := none }

/-- The air mover with the slots of a compressor state, before arbitration (Table 9). -/
def compressorSlots (a : AirMover) (w : Settings) (c : CompState) : AirMover :=
  { a with compressor := c
           drying := if c = .preRun ∨ c = .running then some w.dryDuty else none
           defrost := if c = .defrost then some w.defrostDuty else none }

/-- The air mover without a sweep, before arbitration. -/
def swept (a : AirMover) : AirMover := { a with sweep := .none, scratch := [], learn := none, learnTimer := none }

theorem Sound.measure (h : a.Sound) {i : Nat} (hi : i ≤ 7) : (a.measure i).Safe := by
  obtain ⟨user, auto, drying, defrost, protect, standalone, -⟩ := h.slots
  have sound : (a.measuring i).Sound :=
    ⟨⟨user, auto, drying, defrost, protect, standalone, legalSlot_some.2 (dutyPoint_legal hi)⟩, h.band, h.duty⟩
  exact sound.arbitrate.beginHold

theorem Sound.takeCompressor (h : a.Sound) (hw : w.DutiesLegal) (c : CompState) : (a.takeCompressor w c).Safe := by
  obtain ⟨user, auto, -, -, protect, standalone, learn⟩ := h.slots
  have drying : legalSlot (if c = .preRun ∨ c = .running then some w.dryDuty else none) := by
    split
    · exact legalSlot_some.2 hw.dry
    · exact legalSlot_none
  have defrost : legalSlot (if c = .defrost then some w.defrostDuty else none) := by
    split
    · exact legalSlot_some.2 hw.defrost
    · exact legalSlot_none
  have sound : (a.compressorSlots w c).Sound :=
    ⟨⟨user, auto, drying, defrost, protect, standalone, learn⟩, h.band, h.duty⟩
  exact sound.arbitrate

theorem Sound.endSweep (h : a.Sound) : a.endSweep.Safe := by
  obtain ⟨user, auto, drying, defrost, protect, standalone, -⟩ := h.slots
  have sound : a.swept.Sound :=
    ⟨⟨user, auto, drying, defrost, protect, standalone, legalSlot_none⟩, h.band, h.duty⟩
  exact sound.arbitrate

theorem Sound.formUserAuto (h : a.Sound) (hw : w.DutiesLegal) (m : ModeState) : (a.formUserAuto w m).Sound := by
  obtain ⟨-, -, drying, defrost, protect, standalone, learn⟩ := h.slots
  have band := h.band
  have sound {user auto : Option Nat} (hu : legalSlot user) (ha : legalSlot auto) :
      Sound { a with user := user, auto := auto } :=
    ⟨⟨hu, ha, drying, defrost, protect, standalone, learn⟩, h.band, h.duty⟩
  have absent := sound legalSlot_none legalSlot_none
  have chosen : Sound (if w.fanSpeed = 0 then { a with user := none, auto := some (w.speedDuty (a.band + 1)) }
      else { a with user := some (w.speedDuty w.fanSpeed), auto := none }) := by
    split
    · exact sound legalSlot_none (legalSlot_some.2 (hw.speed _ (by omega) (by omega)))
    · exact sound (legalSlot_some.2 (hw.speed _ (by omega) hw.fanSpeed)) legalSlot_none
  unfold AirMover.formUserAuto
  split
  · exact absent
  · split
    case h_1 => exact absent
    case h_2 =>
      refine sound ?_ legalSlot_none
      split
      · exact legalSlot_some.2 (hw.speed 1 (by omega) (by omega))
      · exact legalSlot_none
    case h_3 => exact chosen
    case h_4 => exact chosen

/-- R28: from a legal duty and a legal target one ramp step leaves a legal duty. -/
theorem rampedDuty_legal {d t : Nat} (w : Settings) (hd : legalDuty d) (ht : legalDuty t) :
    legalDuty (rampedDuty w d t) := by
  unfold legalDuty rampedDuty at *
  repeat' split
  all_goals omega

theorem rampExpiry_fields (a : AirMover) (w : Settings) : ∃ armed armingTimer zeroRun rampTimer settledTimer,
    a.rampExpiry w = { a with
      effective := rampedDuty w a.effective a.target, armed := armed, armingTimer := armingTimer, zeroRun := zeroRun
      rampTimer := rampTimer, settledTimer := settledTimer } := by
  simp only [rampExpiry]
  repeat' split
  all_goals exact ⟨_, _, _, _, _, rfl⟩

theorem Safe.rampExpiry (h : a.Safe) (w : Settings) : (a.rampExpiry w).Safe := by
  obtain ⟨armed, armingTimer, zeroRun, rampTimer, settledTimer, eq⟩ := a.rampExpiry_fields w
  rw [eq]
  refine ⟨⟨h.slots, h.band, rampedDuty_legal w h.duty h.target⟩, h.target, h.arbitrated, fun ho => ?_⟩
  obtain ⟨target, duty⟩ := h.held ho
  exact ⟨target, by simp [rampedDuty, target, duty]⟩

theorem Safe.settle (h : a.Safe) : a.settle.Safe := by
  have settled : Safe { a with settled := true, settledTimer := none } := h.of_figures rfl
  exact settled.beginHold

theorem setSupplyLow_fields (a : AirMover) (low : Bool) : ∃ armingTimer,
    a.setSupplyLow low = { a with armed := false, armingTimer := armingTimer, zeroRun := 0, supplyLow := low } := by
  simp only [setSupplyLow]
  split <;> exact ⟨_, rfl⟩

theorem Safe.setSupplyLow (h : a.Safe) (low : Bool) : (a.setSupplyLow low).Safe := by
  obtain ⟨armingTimer, eq⟩ := a.setSupplyLow_fields low
  rw [eq]
  exact h.of_figures rfl

theorem Safe.stall (h : a.Safe) : a.stall.Safe :=
  ⟨⟨h.slots, h.band, .inl rfl⟩, h.target, h.arbitrated, fun ho => ⟨(h.held ho).1, rfl⟩⟩

theorem Safe.leaveStall (h : a.Safe) : a.leaveStall.Safe := by
  have left : Safe { a with fan := if a.target = 0 then .stopped else .run, stallWait := none } := h.of_figures rfl
  obtain ⟨target, duty, -⟩ := driveRamp_duties { a with fan := if a.target = 0 then .stopped else .run, stallWait := none }
  exact left.of_kept (driveRamp_kept _) target (duty ▸ left.duty)

/-- R22: the air mover at reset is safe. -/
theorem atReset_safe : Safe atReset :=
  have none : atReset.Sound :=
    ⟨⟨legalSlot_none, legalSlot_none, legalSlot_none, legalSlot_none, legalSlot_none, legalSlot_none, legalSlot_none⟩,
      by decide, .inl rfl⟩
  ⟨none, .inl rfl, targetArbitrated_of_chosen rfl, fun _ => ⟨rfl, rfl⟩⟩

theorem ofLoad_safe (hw : w.DutiesLegal) (record : List Byte) : (AirMover.ofLoad w record).Safe := by
  have sound : Sound { atReset with baseline := baselineOf record, q := (record.getD 0x25 0).toNat } :=
    ⟨atReset_safe.slots, atReset_safe.band, atReset_safe.duty⟩
  exact (sound.formUserAuto hw .normal).arbitrate

end AirMover

end Sys2Proof.Machine
end

section
/-! SUPPORT. The follow-on work of an event as one relation: reports, drying's rules with their compressor states, and the
start of all-stop. What every such work keeps is proved once, by the cases of the relation. -/

namespace Sys2Proof.Machine

/-! ### What follow-on work keeps of drying and of the command block -/

/-- From `d` to `e` drying keeps its mode state, its copies of the fan and of the sweep, its trips and its extra hold; a
compressor that does not run stays so and its off time stands. -/
structure Drying.Follows (d e : Drying) : Prop where
  mode : e.mode = d.mode
  fanStall : e.fanStall = d.fanStall
  learnPending : e.learnPending = d.learnPending
  trips : e.trips = d.trips
  extraHold : e.extraHold = d.extraHold
  compOff : d.comp ≠ .running → e.comp ≠ .running
  offTime : d.comp ≠ .running → e.offTime = d.offTime

/-- From `c` to `d` the command block keeps its last command, its outcome, its mode state and its supervision count, and
all-stop begins in STANDALONE alone and does not end. -/
structure CommandBlock.Follows (c d : CommandBlock) : Prop where
  lastCode : d.lastCode = c.lastCode
  status : d.status = c.status
  awaited : d.awaited = c.awaited
  mode : d.mode = c.mode
  count : d.count = c.count
  counting : d.counting = c.counting
  allStopNormal : c.mode = .normal → d.allStop = c.allStop
  allStop : c.allStop = true → d.allStop = true

theorem Drying.Follows.refl (d : Drying) : d.Follows d := by constructor <;> simp

theorem Drying.Follows.trans {d e f : Drying} (h : d.Follows e) (k : e.Follows f) : d.Follows f where
  mode := k.mode.trans h.mode
  fanStall := k.fanStall.trans h.fanStall
  learnPending := k.learnPending.trans h.learnPending
  trips := k.trips.trans h.trips
  extraHold := k.extraHold.trans h.extraHold
  compOff := k.compOff ∘ h.compOff
  offTime hd := (k.offTime (h.compOff hd)).trans (h.offTime hd)

theorem Drying.Follows.holdDone {d e : Drying} (h : d.Follows e) (hd : d.comp ≠ .running) (w : Settings) :
    e.holdDone w = d.holdDone w := by
  simp [Drying.holdDone, h.offTime hd, h.extraHold]

theorem CommandBlock.Follows.refl (c : CommandBlock) : c.Follows c := by constructor <;> simp

theorem CommandBlock.Follows.trans {c d e : CommandBlock} (h : c.Follows d) (k : d.Follows e) : c.Follows e where
  lastCode := k.lastCode.trans h.lastCode
  status := k.status.trans h.status
  awaited := k.awaited.trans h.awaited
  mode := k.mode.trans h.mode
  count := k.count.trans h.count
  counting := k.counting.trans h.counting
  allStopNormal hc := (k.allStopNormal (h.mode.trans hc)).trans (h.allStopNormal hc)
  allStop := k.allStop ∘ h.allStop

/-- R166: the progress of a point that is measured completes no sweep and aborts none. -/
theorem CommandBlock.newProgress_of_measuring (c : CommandBlock) {p : Nat} (hp : p < 10) :
    c.newProgress p = { c with progress := p } := by
  have done : p ≠ 10 := by omega
  have aborted : p ≠ 11 := by omega
  simp [CommandBlock.newProgress, done, aborted]

/-! ### The compressor's states and the air mover -/

theorem AirMover.measure_kept (a : AirMover) (i : Nat) : (a.measuring i).Kept (a.measure i) :=
  (arbitrate_kept _).trans (beginHold_kept _)

theorem AirMover.measure_follows (a : AirMover) (i : Nat) (h : a.sweep ≠ .none) : a.Follows (a.measure i) := by
  have slot : a.Follows (a.measuring i) := by
    constructor <;> simp +contextual [AirMover.measuring, AirMover.stalled, h]
  exact slot.trans (a.measure_kept i).toFollows

theorem AirMover.takeCompressor_kept (a : AirMover) (w : Settings) (c : CompState) :
    (a.compressorSlots w c).Kept (a.takeCompressor w c) := arbitrate_kept _

theorem AirMover.takeCompressor_follows (a : AirMover) (w : Settings) (c : CompState) :
    a.Follows (a.takeCompressor w c) := by
  have slots : a.Follows (a.compressorSlots w c) := by
    constructor <;> simp +contextual [AirMover.compressorSlots, AirMover.stalled]
  exact slots.trans (a.takeCompressor_kept w c).toFollows

@[simp] theorem measurePoint_air (i : Nat) (s : State) : (measurePoint i s).air = s.air.measure i := by
  simp [measurePoint]

/-- The end of WAITING moves the air mover and reports a progress, and does so for a waiting sweep alone. -/
theorem leaveWaiting_follows (s : State) :
    s.air.Follows (leaveWaiting s).air ∧ s.cmd.Follows (leaveWaiting s).cmd
      ∧ (s.air.sweep = .none → leaveWaiting s = s) := by
  unfold leaveWaiting
  split
  case isFalse => exact ⟨.refl _, .refl _, fun _ => rfl⟩
  case isTrue h =>
    have busy : s.air.sweep ≠ .none := by simp [h.1]
    have cmd : (measurePoint 0 s).cmd = { s.cmd with progress := 2 } := by
      simp [measurePoint, reportProgress, CommandBlock.newProgress_of_measuring]
    rw [measurePoint_air, cmd]
    exact ⟨s.air.measure_follows 0 busy, by constructor <;> simp, fun h => absurd h busy⟩

/-- The air mover told of a compressor state, before a waiting sweep is looked at. -/
def compTold (c : CompState) (s : State) : State :=
  (s.setDry { s.dry with comp := c }).setAir (s.air.takeCompressor s.path.working c)

theorem setComp_eq (c : CompState) (s : State) : setComp c s = leaveWaiting (compTold c s) := rfl

theorem setComp_follows (c : CompState) (s : State) :
    s.air.Follows (setComp c s).air ∧ s.cmd.Follows (setComp c s).cmd := by
  obtain ⟨air, cmd, -⟩ := leaveWaiting_follows (compTold c s)
  exact ⟨(s.air.takeCompressor_follows s.path.working c).trans air, cmd⟩

/-- R72: without a sweep a compressor state is told to the air mover and to no other block. -/
theorem setComp_of_idle (c : CompState) (s : State) (h : s.air.sweep = .none) : setComp c s = compTold c s :=
  (leaveWaiting_follows (compTold c s)).2.2 ((s.air.takeCompressor_follows s.path.working c).sweepIdle h)

/-! ### The relation -/

/-- All-stop begun or ended, reported to the air mover and to drying, before drying acts on it (R26, R66). -/
def allStopTold (on : Bool) (s : State) : State :=
  ((s.setCmd { s.cmd with allStop := on }).setAir (AirMover.arbitrate { s.air with allStop := on })).setDry
    { s.dry with allStop := on }

theorem setAllStop_eq (on : Bool) (s : State) :
    setAllStop on s = judgeDrying (if on then immediateStop (allStopTold on s) else allStopTold on s) := rfl

/-- What an event leads to in the blocks after its own change: reports to blocks other than the air mover, drying and
commands; drying's own figures; compressor states other than RUNNING, OFF_HOLD being left in its hold alone when its times
are done; and the start of all-stop. -/
inductive FollowOn : State → State → Prop
  | refl (s : State) : FollowOn s s
  | trans {s t u : State} (h : FollowOn s t) (k : FollowOn t u) : FollowOn s u
  | report {s t : State} (air : t.air = s.air) (dry : t.dry = s.dry) (cmd : t.cmd = s.cmd) (path : t.path = s.path)
      (progress : t.lamps.progress = s.lamps.progress) : FollowOn s t
  | drying (s : State) {d : Drying} (h : s.dry.Follows d) (comp : d.comp = s.dry.comp) : FollowOn s (s.setDry d)
  | compressor (s : State) (c : CompState) (stops : c ≠ .running)
      (held : s.dry.comp = .offHold → s.dry.holdDone s.path.working = true) : FollowOn s (setComp c s)
  | allStop (s : State) (mode : s.cmd.mode = .standalone) : FollowOn s (allStopTold true s)

namespace FollowOn

variable {s t : State}

theorem path (h : FollowOn s t) : t.path = s.path := by
  induction h with
  | refl => rfl
  | trans _ _ h k => exact k.trans h
  | report _ _ _ path => exact path
  | drying => rfl
  | compressor s c => simp
  | allStop => rfl

theorem air (h : FollowOn s t) : s.air.Follows t.air := by
  induction h with
  | refl => exact .refl _
  | trans _ _ h k => exact h.trans k
  | report air => exact air ▸ .refl _
  | drying => exact .refl _
  | compressor s c => exact (setComp_follows c s).1
  | allStop s =>
    have told : s.air.Follows { s.air with allStop := true } := by constructor <;> simp +contextual [AirMover.stalled]
    exact told.trans (AirMover.arbitrate_kept _).toFollows

theorem dry (h : FollowOn s t) : s.dry.Follows t.dry := by
  induction h with
  | refl => exact .refl _
  | trans _ _ h k => exact h.trans k
  | report _ dry => exact dry ▸ .refl _
  | drying _ h => exact h
  | compressor s c stops => rw [setComp_dry]; constructor <;> simp [stops]
  | allStop s => constructor <;> simp [allStopTold]

theorem cmd (h : FollowOn s t) : s.cmd.Follows t.cmd := by
  induction h with
  | refl => exact .refl _
  | trans _ _ h k => exact h.trans k
  | report _ _ cmd => exact cmd ▸ .refl _
  | drying => exact .refl _
  | compressor s c => exact (setComp_follows c s).2
  | allStop s mode => constructor <;> simp [allStopTold, mode]

/-- Without a sweep no progress is reported. -/
theorem progress (h : FollowOn s t) (idle : s.air.sweep = .none) :
    t.cmd.progress = s.cmd.progress ∧ t.lamps.progress = s.lamps.progress := by
  induction h with
  | refl => exact ⟨rfl, rfl⟩
  | trans h _ ih ik =>
    obtain ⟨cmd, lamps⟩ := ih idle
    obtain ⟨cmd', lamps'⟩ := ik (h.air.sweepIdle idle)
    exact ⟨cmd'.trans cmd, lamps'.trans lamps⟩
  | report _ _ cmd _ progress => exact ⟨by rw [cmd], progress⟩
  | drying => exact ⟨rfl, rfl⟩
  | compressor s c => rw [setComp_of_idle c s idle]; exact ⟨rfl, rfl⟩
  | allStop => exact ⟨rfl, rfl⟩

/-- R73: a compressor in its hold stays in OFF_HOLD while its times are not done. -/
theorem offHold (h : FollowOn s t) (comp : s.dry.comp = .offHold) (hold : s.dry.holdDone s.path.working = false) :
    t.dry.comp = .offHold := by
  induction h with
  | refl => exact comp
  | trans h _ ih ik =>
    refine ik (ih comp hold) ?_
    rw [h.path, h.dry.holdDone (by simp [comp])]
    exact hold
  | report _ dry => rw [dry]; exact comp
  | drying _ _ same => exact same.trans comp
  | compressor s c _ held => simp [held comp] at hold
  | allStop => exact comp

theorem ite {c : Prop} [Decidable c] {t u : State} (h : FollowOn s t) (k : FollowOn s u) :
    FollowOn s (if c then t else u) := by
  split
  · exact h
  · exact k

end FollowOn

/-! ### Drying's rules -/

theorem judgeHold_followOn (s : State) : FollowOn s (judgeHold s) := by
  unfold judgeHold
  split
  case h_1 hc =>
    split
    case isTrue h => exact .compressor s _ (by decide) fun _ => h
    case isFalse => exact .refl s
  case h_2 hc => exact .ite (.compressor s _ (by decide) (by simp [hc])) (.refl s)
  case h_3 hc =>
    have timer : FollowOn s (s.setDry { s.dry with confirmTimer := none }) := .drying s (by constructor <;> simp) rfl
    exact .ite (timer.trans (.compressor _ _ (by decide) (by simp [hc]))) (.refl s)
  all_goals exact .refl s

theorem judgeStart_followOn (s : State) : FollowOn s (judgeStart s) := by
  have timer (t : Timer) : FollowOn s (s.setDry { s.dry with confirmTimer := t }) :=
    .drying s (by constructor <;> simp) rfl
  unfold judgeStart
  split
  case h_1 hc => exact .ite ((timer _).trans (.compressor _ _ (by decide) (by simp [hc]))) (.refl s)
  case h_2 hc => exact .ite (.refl s) ((timer _).trans (.compressor _ _ (by decide) (by simp [hc])))
  all_goals exact .refl s

theorem stopCompressor_followOn (s : State) (h : s.dry.comp = .running) : FollowOn s (stopCompressor s) := by
  have stopped : FollowOn s (s.setDry s.dry.stopRun) :=
    .drying s (by constructor <;> simp [h, Drying.stopRun, Drying.outputOff]) rfl
  exact (stopped.trans (.compressor _ _ (by decide) (by simp [h]))).trans (judgeHold_followOn _)

theorem immediateStop_followOn (s : State) : FollowOn s (immediateStop s) := by
  unfold immediateStop
  split
  case isTrue h => exact stopCompressor_followOn s h
  case isFalse => exact .refl s

theorem judgeDeferred_followOn (s : State) : FollowOn s (judgeDeferred s) := by
  unfold judgeDeferred
  split
  case isTrue h => exact stopCompressor_followOn s h.1
  case isFalse => exact .refl s

theorem judgeDrying_followOn (s : State) : FollowOn s (judgeDrying s) :=
  ((judgeDeferred_followOn s).trans (judgeHold_followOn _)).trans (judgeStart_followOn _)

theorem Drying.evaluateDemand_follows (d : Drying) (w : Settings) (rh : ChannelState) :
    d.Follows (d.evaluateDemand w rh) ∧ (d.evaluateDemand w rh).comp = d.comp := by
  have demand (x : Demand) (t : Timer) : d.Follows { d with demand := x, timedTimer := t } := by constructor <;> simp
  unfold Drying.evaluateDemand
  split
  case isFalse => exact ⟨demand _ _, rfl⟩
  case isTrue =>
    split
    · exact ⟨.refl d, rfl⟩
    · exact ⟨demand _ _, rfl⟩
    · split
      · exact ⟨.refl d, rfl⟩
      · exact ⟨demand _ _, rfl⟩

theorem evaluateDemand_followOn (s : State) : FollowOn s (evaluateDemand s) :=
  .drying s (s.dry.evaluateDemand_follows _ _).1 (s.dry.evaluateDemand_follows _ _).2

/-! ### Conditions, all-stop and reports -/

theorem raise_followOn (f : Flag) (s : State) : FollowOn s (raise f s) := .report rfl rfl rfl rfl rfl

theorem setCondition_followOn (f : Flag) (b : Bool) (s : State) : FollowOn s (setCondition f b s) :=
  .report rfl rfl rfl rfl rfl

theorem markChanged_followOn (s : State) : FollowOn s (markChanged s) := .report rfl rfl rfl rfl rfl

theorem markIf_followOn (b : Bool) (s : State) : FollowOn s (markIf b s) := .ite (markChanged_followOn s) (.refl s)

theorem requestJob_followOn (j : Job) (s : State) : FollowOn s (requestJob j s) := .report rfl rfl rfl rfl rfl

/-- A change of the lamp engine's copies other than the progress. -/
theorem updateLamps_followOn (g : LampEngine → LampEngine) (s : State) (h : (g s.lamps).progress = s.lamps.progress) :
    FollowOn s (updateLamps g s) := .report rfl rfl rfl rfl h

theorem judgeAllStop_followOn (s : State) : FollowOn s (judgeAllStop s) := by
  unfold judgeAllStop
  split
  case isFalse => exact .refl s
  case isTrue h => exact ((FollowOn.allStop s h.1).trans (immediateStop_followOn _)).trans (judgeDrying_followOn _)

theorem reportCondition_followOn (f : Flag) (b : Bool) (s : State) : FollowOn s (reportCondition f b s) :=
  (setCondition_followOn f b s).trans (judgeAllStop_followOn _)

theorem reportChange_followOn (f : Flag) (b : Bool) (s : State) : FollowOn s (reportChange f b s) :=
  .ite (.refl s) (reportCondition_followOn f b s)

theorem reportRise_followOn (stage : Stage) (s : State) : FollowOn s (reportRise stage s) := by
  have lamps : FollowOn s (updateLamps (fun e => { e with stage := stage }) (markChanged s)) :=
    (markChanged_followOn s).trans (updateLamps_followOn _ _ rfl)
  simp only [reportRise]
  split
  · exact lamps
  · exact lamps.trans (raise_followOn _ _)
  · exact lamps.trans (reportCondition_followOn _ _ _)

theorem evaluateFilter_followOn (s : State) : FollowOn s (evaluateFilter s) := by
  have filter (f : FilterState) : FollowOn s (s.setFilter f) := .report rfl rfl rfl rfl rfl
  exact .ite (filter _) ((filter _).trans (reportRise_followOn _ _))

theorem filterDoorReport_followOn (isOpen : Bool) (s : State) : FollowOn s (filterDoorReport isOpen s) := by
  have filter (f : FilterState) : FollowOn s (s.setFilter f) := .report rfl rfl rfl rfl rfl
  exact (filter _).trans (reportCondition_followOn _ _ _)

theorem dryingDoorReport_followOn (isOpen : Bool) (s : State) : FollowOn s (dryingDoorReport isOpen s) := by
  unfold dryingDoorReport
  split
  · exact (immediateStop_followOn s).trans (judgeDrying_followOn _)
  · exact judgeDrying_followOn s

theorem dryingTankReport_followOn (level : TankLevel) (s : State) : FollowOn s (dryingTankReport level s) := by
  have copied : FollowOn s (s.setDry { s.dry with tank := some level }) := .drying s (by constructor <;> simp) rfl
  simp only [dryingTankReport]
  split
  · exact (copied.trans (immediateStop_followOn _)).trans (judgeDrying_followOn _)
  · exact copied.trans (judgeDrying_followOn _)

theorem tankReports_followOn (before : TankBlock) (e : TankEvent) (forced : Bool) (s : State) :
    FollowOn s (tankReports before e forced s) := by
  simp only [tankReports]
  refine .trans ?_ (.ite (dryingTankReport_followOn _ _) (.refl _))
  refine .trans ?_ (updateLamps_followOn _ _ rfl)
  refine .trans (.trans (.trans (.trans ?_ (reportChange_followOn .tankAbsent _ _)) (reportChange_followOn .tankFull _ _))
    (reportChange_followOn .tankHigh _ _)) (reportChange_followOn .pumpFail _ _)
  exact (markIf_followOn _ s).trans (.ite (raise_followOn _ _) (.refl _))

theorem tankEvent_followOn (e : TankEvent) (s : State) : FollowOn s (tankEvent e s) := by
  have own (t : TankBlock) : FollowOn s (s.setTank t) := .report rfl rfl rfl rfl rfl
  simp only [tankEvent]
  split
  · exact (own _).trans (tankReports_followOn _ _ _ _)
  · exact .ite ((own _).trans (tankReports_followOn _ _ _ _)) (own _)

end Sys2Proof.Machine
end

section
/-! SUPPORT. The safe fan through every event: the working settings stay formed, and what the events do at the air mover
leaves it safe. One lemma per event, each from those of its parts. -/

namespace Sys2Proof.Machine

theorem State.fanSafe_iff (s : State) : s.fanSafe ↔ s.path.settingsFormed ∧ s.air.Safe := by
  constructor
  · rintro ⟨formed, slots, band, target, duty, arbitrated, held⟩
    exact ⟨formed, ⟨slots, band, duty⟩, target, arbitrated, held⟩
  · rintro ⟨formed, ⟨slots, band, duty⟩, target, arbitrated, held⟩
    exact ⟨formed, slots, band, target, duty, arbitrated, held⟩

/-! ### One stall check (R31, R34) -/

/-- The clean run a check leaves, counted while its timer is in use. -/
def cleanRunAfter (s : State) : Nat := if cleanRunInUse s then s.air.nextCleanRun s.front.tach.rpm else 0

/-- The part with a check's two runs counted. -/
def stallCounted (s : State) : State :=
  s.setAir { s.air with zeroRun := s.air.nextZeroRun s.front.tach.rpm, cleanRun := cleanRunAfter s }

theorem stallCheck_eq (s : State) :
    stallCheck s = if s.air.stallsAt s.front.tach.rpm then declareStall s
      else if 601 ≤ cleanRunAfter s then completeCleanRun (stallCounted s) else stallCounted s := rfl

namespace State.fanSafe

variable {s t : State}

/-! ### Changes of one block -/

theorem safe (h : s.fanSafe) : s.air.Safe := (s.fanSafe_iff.1 h).2

theorem duties (h : s.fanSafe) : s.path.working.DutiesLegal := (s.fanSafe_iff.1 h).1.dutiesLegal

/-- The fan is a matter of the memory path and of the air mover alone. -/
theorem congr (h : s.fanSafe) (path : t.path = s.path) (air : t.air = s.air) : t.fanSafe := by
  simpa only [State.fanSafe_iff, path, air] using h

theorem setAir (h : s.fanSafe) {a : AirMover} (ha : a.Safe) : (s.setAir a).fanSafe :=
  (fanSafe_iff _).2 ⟨h.1, ha⟩

theorem setDry (h : s.fanSafe) (d : Drying) : (s.setDry d).fanSafe := h
theorem setCmd (h : s.fanSafe) (c : CommandBlock) : (s.setCmd c).fanSafe := h
theorem setFilter (h : s.fanSafe) (f : FilterState) : (s.setFilter f).fanSafe := h
theorem setFront (h : s.fanSafe) (f : FrontEnd) : (s.setFront f).fanSafe := h
theorem setPins (h : s.fanSafe) (p : Pins) : (s.setPins p).fanSafe := h
theorem setStore (h : s.fanSafe) (x : StoredImages) : (s.setStore x).fanSafe := h

theorem ite {c : Prop} [Decidable c] {t u : State} (h : t.fanSafe) (k : u.fanSafe) : (if c then t else u).fanSafe := by
  split
  · exact h
  · exact k

theorem reportProgress (h : s.fanSafe) (p : Nat) : (reportProgress p s).fanSafe := h.congr (by simp) (by simp)

theorem measurePoint (h : s.fanSafe) {i : Nat} (hi : i ≤ 7) : (measurePoint i s).fanSafe :=
  (h.setAir (h.safe.measure hi)).reportProgress _

theorem leaveWaiting (h : s.fanSafe) : (leaveWaiting s).fanSafe := .ite (h.measurePoint (by decide)) h

theorem setComp (h : s.fanSafe) (c : CompState) : (setComp c s).fanSafe :=
  leaveWaiting (h.setAir (h.safe.takeCompressor h.duties c))

theorem setAllStop (h : s.fanSafe) (on : Bool) : (allStopTold on s).fanSafe := by
  have sound : AirMover.Sound { s.air with allStop := on } := ⟨h.safe.slots, h.safe.band, h.safe.duty⟩
  exact h.setAir sound.arbitrate

/-- Follow-on work keeps the fan safe. -/
theorem followOn (h : s.fanSafe) (hf : FollowOn s t) : t.fanSafe := by
  induction hf with
  | refl => exact h
  | trans _ _ ih ik => exact ik (ih h)
  | report air _ _ path => exact h.congr path air
  | drying => exact h
  | compressor s c => exact h.setComp c
  | allStop => exact h.setAllStop true

theorem judgeDrying (h : s.fanSafe) : (judgeDrying s).fanSafe := h.followOn (judgeDrying_followOn s)
theorem judgeHold (h : s.fanSafe) : (judgeHold s).fanSafe := h.followOn (judgeHold_followOn s)
theorem judgeStart (h : s.fanSafe) : (judgeStart s).fanSafe := h.followOn (judgeStart_followOn s)
theorem immediateStop (h : s.fanSafe) : (immediateStop s).fanSafe := h.followOn (immediateStop_followOn s)
theorem evaluateFilter (h : s.fanSafe) : (evaluateFilter s).fanSafe := h.followOn (evaluateFilter_followOn s)
theorem tankEvent (h : s.fanSafe) (e : TankEvent) : (tankEvent e s).fanSafe := h.followOn (tankEvent_followOn e s)

theorem reportCondition (h : s.fanSafe) (f : Flag) (b : Bool) : (reportCondition f b s).fanSafe :=
  h.followOn (reportCondition_followOn f b s)

theorem reportChange (h : s.fanSafe) (f : Flag) (b : Bool) : (reportChange f b s).fanSafe :=
  h.followOn (reportChange_followOn f b s)

theorem stopCompressor (h : s.fanSafe) : (stopCompressor s).fanSafe := ((h.setDry _).setComp _).judgeHold

theorem markIf (h : s.fanSafe) (b : Bool) : (markIf b s).fanSafe := h.followOn (markIf_followOn b s)

theorem whenRunning (h : s.fanSafe) {f : State → State} (hf : (f s).fanSafe) : (whenRunning s f).fanSafe := .ite hf h

/-! ### Drying (R66 to R90) -/

theorem dryingClearLockout (h : s.fanSafe) : (dryingClearLockout s).fanSafe :=
  .ite (((h.setDry _).setComp _).reportCondition _ _).judgeHold.judgeStart h

theorem tellLearnPending (h : s.fanSafe) (b : Bool) : (tellLearnPending b s).fanSafe := (h.setDry _).judgeDrying
theorem dryingFanStall (h : s.fanSafe) (b : Bool) : (dryingFanStall b s).fanSafe := (h.setDry _).judgeDrying
theorem dryingSupplyReport (h : s.fanSafe) (b : Bool) : (dryingSupplyReport b s).fanSafe := (h.setDry _).judgeDrying
theorem dryingModeReport (h : s.fanSafe) (m : ModeState) : (dryingModeReport m s).fanSafe :=
  ((h.setDry _).setDry _).judgeDrying

theorem tripCompressor (h : s.fanSafe) : (tripCompressor s).fanSafe := by
  have tripped := (h.setDry s.dry.trip).markIf (decide (s.dry.trip.tripTotal ≠ s.dry.tripTotal))
  have reported : State.fanSafe (if 3 ≤ s.dry.trip.trips.length then _ else _) :=
    .ite ((tripped.setComp .lockedOut).reportCondition .compLockout true)
      ((tripped.setComp .tripped).reportCondition .compTrip true)
  exact reported.followOn (requestJob_followOn _ _)

theorem checkTrip (h : s.fanSafe) : (checkTrip s).fanSafe := by
  unfold Machine.checkTrip
  split
  · exact .ite h.tripCompressor h
  · exact .ite ((h.setComp _).reportCondition _ _).judgeHold h
  all_goals exact h

theorem setWarning (h : s.fanSafe) (on : Bool) : (setWarning on s).fanSafe := by
  obtain ⟨user, auto, drying, defrost, -, standalone, learn⟩ := h.safe.slots
  have protect : legalSlot (if on then some 255 else none) := by
    split
    · exact legalSlot_some.2 ⟨by decide, by decide⟩
    · exact legalSlot_none
  have sound : AirMover.Sound { s.air with protect := if on then some 255 else none } :=
    ⟨⟨user, auto, drying, defrost, protect, standalone, learn⟩, h.safe.band, h.safe.duty⟩
  have moved : ((s.setDry { s.dry with warning := on }).setAir
      (AirMover.arbitrate { s.air with protect := if on then some 255 else none })).fanSafe :=
    (h.setDry _).setAir sound.arbitrate
  exact .ite (moved.followOn (raise_followOn _ _)) moved

theorem checkWarning (h : s.fanSafe) : (checkWarning s).fanSafe :=
  .ite (.ite (h.setWarning _) (.ite (h.setWarning _) h)) h

theorem enterDefrost (h : s.fanSafe) : (enterDefrost s).fanSafe := ((h.setDry _).markIf _).setComp _
theorem endDefrost (h : s.fanSafe) : (endDefrost s).fanSafe := ((h.setDry _).setComp _).judgeHold

theorem checkDefrost (h : s.fanSafe) : (checkDefrost s).fanSafe := by
  unfold Machine.checkDefrost
  split
  · exact .ite h.enterDefrost h
  · exact .ite h.endDefrost h
  all_goals exact h

theorem dryingCheck (h : s.fanSafe) : (dryingCheck s).fanSafe :=
  (h.checkTrip.checkWarning.checkDefrost.followOn (evaluateDemand_followOn _)).judgeDrying

theorem enterRunning (h : s.fanSafe) : (enterRunning s).fanSafe := ((h.setDry _).markIf _).setComp _

theorem airflowReport (h : s.fanSafe) : (airflowReport s).fanSafe := by
  unfold Machine.airflowReport
  split
  · exact .ite (h.enterRunning.reportCondition _ _) h
  · exact .ite (h.stopCompressor.reportCondition _ _) (.ite (h.reportCondition _ _) h)
  all_goals exact h

theorem offTimeExpiry (h : s.fanSafe) : (offTimeExpiry s).fanSafe :=
  .ite (h.setDry _).judgeHold.judgeStart (h.setDry _)

theorem confirmationExpiry (h : s.fanSafe) : (confirmationExpiry s).fanSafe :=
  ((h.setDry _).setComp _).reportCondition _ _

theorem runSecondExpiry (h : s.fanSafe) : (runSecondExpiry s).fanSafe := by
  simp only [Machine.runSecondExpiry]
  split
  · exact (h.setDry _).judgeDrying
  · exact (((h.setDry _).followOn (markChanged_followOn _)).tankEvent _).judgeDrying

/-! ### The air mover (R24 to R46) -/

theorem airWindowEnd (h : s.fanSafe) (p : Nat) : (airWindowEnd p s).fanSafe := by
  obtain ⟨user, auto, drying, defrost, protect, standalone, learn⟩ := h.safe.slots
  have band : nextBand s.path.working s.air.band p ≤ 3 := by
    have := h.safe.band
    unfold nextBand impliedBand
    split
    · split_ifs <;> omega
    · split_ifs <;> omega
  have duty := h.duties.speed (nextBand s.path.working s.air.band p + 1) (by omega) (by omega)
  have sound : AirMover.Sound { s.air with
      band := nextBand s.path.working s.air.band p
      auto := redo s.air.auto (s.path.working.speedDuty (nextBand s.path.working s.air.band p + 1)) } :=
    ⟨⟨user, AirMover.redo_legal duty, drying, defrost, protect, standalone, learn⟩, band, h.safe.duty⟩
  exact h.setAir sound.arbitrate

theorem airModeReport (h : s.fanSafe) (m : ModeState) : (airModeReport m s).fanSafe := by
  have formed := h.safe.formUserAuto h.duties m
  obtain ⟨user, auto, drying, defrost, protect, -, learn⟩ := formed.slots
  have standalone : legalSlot (if m = .standalone then some s.path.working.standaloneDuty else none) := by
    split
    · exact legalSlot_some.2 h.duties.standalone
    · exact legalSlot_none
  have sound : AirMover.Sound { s.air.formUserAuto s.path.working m with
      standalone := if m = .standalone then some s.path.working.standaloneDuty else none } :=
    ⟨⟨user, auto, drying, defrost, protect, standalone, learn⟩, formed.band, formed.duty⟩
  exact h.setAir sound.arbitrate

theorem abandonSweep (h : s.fanSafe) : (abandonSweep s).fanSafe := by
  have ended := h.setAir h.safe.endSweep
  exact .ite h (((ended.reportProgress 11).tellLearnPending false).followOn (raise_followOn _ _))

/-- The safe fan when a copy that needs arbitration has changed. -/
theorem airDoorReport (formed : s.path.settingsFormed) (sound : s.air.Sound) (isOpen : Bool) :
    (airDoorReport isOpen s).fanSafe := by
  have arbitrated : (s.setAir s.air.arbitrate).fanSafe := (fanSafe_iff _).2 ⟨formed, sound.arbitrate⟩
  simp only [Machine.airDoorReport]
  split
  · split
    · exact arbitrated.abandonSweep
    · exact arbitrated
    · exact arbitrated
  · exact arbitrated.leaveWaiting

theorem airSupplyReport (h : s.fanSafe) (low : Bool) : (airSupplyReport low s).fanSafe :=
  h.setAir (h.safe.setSupplyLow low)

theorem airClearLockout (h : s.fanSafe) : (airClearLockout s).fanSafe := by
  have cleared : AirMover.Safe { s.air with retries := 0 } := h.safe.of_figures rfl
  exact .ite (h.setAir cleared.leaveStall) h

theorem reportFanStall (h : s.fanSafe) (b : Bool) : (reportFanStall b s).fanSafe :=
  (h.reportCondition _ _).dryingFanStall b

theorem declareStall (h : s.fanSafe) : (declareStall s).fanSafe := by
  have stalled := h.setAir h.safe.stall
  exact (ite stalled (stalled.reportFanStall true)).immediateStop.abandonSweep

theorem completeCleanRun (h : s.fanSafe) : (completeCleanRun s).fanSafe := by
  have ended : (s.setAir { s.air with retries := 0, cleanRun := 0 }).fanSafe := h.setAir (h.safe.of_figures rfl)
  exact ended.reportFanStall false

theorem stallCheck (h : s.fanSafe) : (stallCheck s).fanSafe := by
  have counted : (stallCounted s).fanSafe := h.setAir (h.safe.of_figures rfl)
  rw [stallCheck_eq]
  exact .ite h.declareStall (.ite counted.completeCleanRun counted)

theorem airflowPeriod (h : s.fanSafe) : (airflowPeriod s).fanSafe := by
  have formed (valid : Bool) (rpm : Nat) : (s.setAir (s.air.airflowPeriod s.path.working valid rpm)).fanSafe :=
    h.setAir (h.safe.of_figures rfl)
  simp only [Machine.airflowPeriod]
  refine airflowReport ?_
  split
  · exact ((formed _ _).followOn (markChanged_followOn _)).evaluateFilter
  · exact formed _ _

theorem completeSweep (h : s.fanSafe) (results : List Nat) : (completeSweep results s).fanSafe := by
  have sound : AirMover.Sound { s.air with baseline := results.map some, q := 0 } :=
    ⟨h.safe.slots, h.safe.band, h.safe.duty⟩
  have ended := h.setAir sound.endSweep
  simp only [Machine.completeSweep]
  exact (((ended.markIf _).evaluateFilter.reportProgress 10).tellLearnPending false).followOn (requestJob_followOn _ _)

theorem placeResult (h : s.fanSafe) (i : Nat) (taken : List Nat) : (placeResult i taken s).fanSafe := by
  have placed (r : List Nat) : (s.setAir { s.air with scratch := r }).fanSafe := h.setAir (h.safe.of_figures rfl)
  simp only [Machine.placeResult]
  split
  · exact h.abandonSweep
  · split
    case isTrue hi => exact (placed _).measurePoint hi
    case isFalse => exact h.completeSweep _

theorem learnHoldExpiry (h : s.fanSafe) : (learnHoldExpiry s).fanSafe := by
  unfold Machine.learnHoldExpiry
  split
  · exact h.setAir (h.safe.of_figures rfl)
  · exact h

theorem learnReading (h : s.fanSafe) : (learnReading s).fanSafe := by
  unfold Machine.learnReading
  split
  · dsimp only
    split
    · exact h.setAir (h.safe.of_figures rfl)
    · exact h.placeResult _ _
  · exact h

theorem startSweep (h : s.fanSafe) : (startSweep s).fanSafe := by
  have emptied : (s.setAir { s.air with scratch := [] }).fanSafe := h.setAir (h.safe.of_figures rfl)
  have told := emptied.tellLearnPending true
  simp only [Machine.startSweep]
  split
  · exact (told.setAir (told.safe.of_figures rfl)).reportProgress 1
  · exact told.measurePoint (by decide)

end State.fanSafe

end Sys2Proof.Machine
end

section
/-! SUPPORT. What a setting write makes of the working settings, and what its delivery can do: one inversion for the whole
table of deliveries (R135 to R141). -/

namespace Sys2Proof.Machine

/-! ### The working values of a group (R136, R137) -/

theorem getD_set (b : List Byte) (k m : Nat) (v : Byte) :
    (b.set k v).getD m 0 = if m = k ∧ m < b.length then v else b.getD m 0 := by
  simp only [List.getD_eq_getElem?_getD, List.getElem?_set]
  by_cases hk : k = m
  · subst hk
    by_cases hm : k < b.length <;> simp [hm]
  · simp [hk, Ne.symm hk]

theorem getD_foldl_set (g : List Nat) (f : Nat → Byte) (b : List Byte) (m : Nat) :
    (g.foldl (fun b k => b.set k (f k)) b).getD m 0 = if m ∈ g ∧ m < b.length then f m else b.getD m 0 := by
  induction g generalizing b with
  | nil => simp
  | cons k rest ih =>
    rw [List.foldl_cons, ih, List.length_set, getD_set]
    by_cases hm : m < b.length
    · by_cases hrest : m ∈ rest
      · simp [hm, hrest]
      · by_cases hk : m = k
        · subst hk
          simp [hm, hrest]
        · simp [hrest, hk]
    · simp [hm]

theorem length_foldl_set (g : List Nat) (f : Nat → Byte) (b : List Byte) :
    (g.foldl (fun b k => b.set k (f k)) b).length = b.length := by
  induction g generalizing b with
  | nil => rfl
  | cons k rest ih => rw [List.foldl_cons, ih, List.length_set]

theorem mem_settingGroup_self (off : Nat) : off ∈ settingGroup off := by
  unfold settingGroup
  split_ifs <;> simp <;> omega

theorem mem_settingGroup_comm {m off : Nat} (h : off ∈ settingGroup m) : m ∈ settingGroup off := by
  unfold settingGroup at h ⊢
  split_ifs at h ⊢ <;> simp at h ⊢ <;> omega

theorem lt_of_mem_settingGroup {m off : Nat} (hoff : off < 64) (h : m ∈ settingGroup off) : m < 64 := by
  unfold settingGroup at h
  split_ifs at h <;> simp at h <;> omega

/-- R137: the kinds that are formed with other settings stand in the two groups alone. -/
theorem settingKind_of_alone {m : Nat} (hm : m < 64) (h : settingGroup m = [m]) :
    settingKind m ≠ .autoT1 ∧ settingKind m ≠ .autoT2 ∧ settingKind m ≠ .autoT3 ∧ settingKind m ≠ .condWarn
      ∧ settingKind m ≠ .condTrip := by
  revert m
  decide

/-- R136, R137: a working byte is formed from the raw bytes of its group. -/
theorem workingByte_congr {raw raw' : List Byte} {m : Nat} (hm : m < 64)
    (h : ∀ k ∈ settingGroup m, raw'.getD k 0 = raw.getD k 0) : workingByte raw' m = workingByte raw m := by
  by_cases h5 : m = 0x0B ∨ m = 0x0C ∨ m = 0x0D ∨ m = 0x21 ∨ m = 0x22
  · obtain rfl | rfl | rfl | rfl | rfl := h5 <;> simp [settingGroup] at h <;>
      simp [workingByte, settingKind, workingT1, workingT2, workingT3, workingWarn, workingTrip, rawNat, h]
  · have alone : settingGroup m = [m] := by
      unfold settingGroup
      split_ifs <;> simp <;> omega
    have raw_eq : raw'.getD m 0 = raw.getD m 0 := h m (mem_settingGroup_self m)
    obtain ⟨h1, h2, h3, hw, ht⟩ := settingKind_of_alone hm alone
    unfold workingByte
    split <;> simp_all [rawNat]

/-- A raw byte outside its group has no part in a working byte. -/
theorem workingByte_set {m off : Nat} (raw : List Byte) (v : Byte) (hm : m < 64) (h : m ∉ settingGroup off) :
    workingByte (raw.set off v) m = workingByte raw m := by
  refine workingByte_congr hm fun k hk => ?_
  have other : k ≠ off := fun e => h (mem_settingGroup_comm (e ▸ hk))
  rw [getD_set, if_neg fun h => other h.1]

/-- R135, R137: after a setting write the members of its group have their new working bytes, the others their old. -/
theorem takeSetting_byte (p : MemoryPath) (off m : Nat) (v : Byte) :
    (p.takeSetting off v).working.byte m
      = if m ∈ settingGroup off ∧ m < p.working.bytes.length then workingByte (p.raw.set off v) m
        else p.working.byte m :=
  getD_foldl_set _ _ _ _

theorem MemoryPath.settingsFormed_of_ofRaw (p : MemoryPath) (hraw : p.raw.length = 64) (hw : p.working = Settings.ofRaw p.raw) :
    p.settingsFormed := by
  refine ⟨hraw, by rw [hw]; rfl, ?_⟩
  rw [hw]
  simp only [Settings.ofRaw, workingHexh, clampNat]
  omega

theorem MemoryPath.settingsFormed.takeSetting {p : MemoryPath} (h : p.settingsFormed) (off : Nat)
    (v : Byte) : (p.takeSetting off v).settingsFormed := by
  obtain ⟨hraw, hbytes, hhexh⟩ := h
  have length : p.working.bytes.length = 64 := by simp [hbytes, workingImage]
  refine ⟨by simp [MemoryPath.takeSetting, hraw], ?_, hhexh⟩
  have length' : (p.takeSetting off v).working.bytes.length = 64 := (length_foldl_set _ _ _).trans length
  refine List.ext_getElem (by simp [length', workingImage]) fun m hm _ => ?_
  have hm' : m < 64 := length' ▸ hm
  have formed := takeSetting_byte p off m v
  rw [Settings.byte, List.getD_eq_getElem _ _ hm] at formed
  rw [formed]
  by_cases hg : m ∈ settingGroup off
  · simp [hg, length, hm', workingImage, MemoryPath.takeSetting]
  · rw [if_neg (fun h => hg h.1), Settings.byte, hbytes, workingImage_getD _ _ hm']
    simp [workingImage, MemoryPath.takeSetting, workingByte_set p.raw v hm' hg]

/-- R140, R141: a byte of Hexh stands in no working byte. -/
theorem workingImage_set_of_pair (raw : List Byte) {off : Nat} (v : Byte) (h : settingKind off = .pair)
    (alone : settingGroup off = [off]) : workingImage (raw.set off v) = workingImage raw := by
  refine List.map_congr_left fun m hm => ?_
  by_cases hoff : m = off
  · subst hoff
    simp [workingByte, h]
  · exact workingByte_set raw v (List.mem_range.1 hm) (by simpa [alone] using hoff)

theorem MemoryPath.settingsFormed.setPair {p : MemoryPath} (h : p.settingsFormed) {off hexh : Nat} (v : Byte)
    (stage : Option Byte) (kind : settingKind off = .pair) (alone : settingGroup off = [off])
    (hhexh : 1 ≤ hexh ∧ hexh ≤ 730) :
    MemoryPath.settingsFormed
      { p with raw := p.raw.set off v, hexhStage := stage, working := { p.working with hexh := hexh } } := by
  refine ⟨by simpa using h.1, ?_, hhexh⟩
  exact h.2.1.trans (workingImage_set_of_pair p.raw v kind alone).symm

/-! ### The deliveries (R135, step 4) -/

/-- What the delivery of a setting write can be, with `old` the working settings before the write: the deliveries of
`deliverSetting`, each once. -/
inductive Delivered (old : Settings) (s : State) : State → Prop
  | readWhereUsed : Delivered old s s
  | mode : Delivered old s (judgeDrying (reconsiderAllowed old (changeSlots (·.formUserAuto s.path.working s.cmd.mode) s)))
  | speeds : Delivered old s (changeSlots (·.formUserAuto s.path.working s.cmd.mode) s)
  | setpoint (m : ModeState) : Delivered old s (judgeDrying (setpointWritten m s))
  | band : Delivered old s (judgeDrying (evaluateDemand s))
  | drying : Delivered old s (judgeDrying s)
  | dryDuty : Delivered old s
      (judgeDrying (changeSlots (fun a => { a with drying := redo a.drying s.path.working.dryDuty }) s))
  | defrostDuty : Delivered old s
      (changeSlots (fun a => { a with defrost := redo a.defrost s.path.working.defrostDuty }) s)
  | standaloneDuty : Delivered old s
      (changeSlots (fun a => { a with standalone := redo a.standalone s.path.working.standaloneDuty }) s)
  | filter : Delivered old s (evaluateFilter s)
  | tank (off : Nat) : Delivered old s (tankSettingWritten old off s)
  | polarity : Delivered old s (polarityWritten old s)
  | threshold : Delivered old s (thresholdWritten old s)
  | lamps : Delivered old s (updateLamps id s)
  | lampLevel : Delivered old s (levelWritten s)
  | policy : Delivered old s (judgeAllStop s)

theorem deliverSetting_delivered (old : Settings) (off : Nat) (s : State) :
    Delivered old s (deliverSetting old off s) := by
  simp only [deliverSetting]
  split
  all_goals with_reducible constructor

end Sys2Proof.Machine
end

section
/-! SUPPORT. The safe fan through the measurement front end, the commands, the memory path and the resets. -/

namespace Sys2Proof.Machine

namespace State.fanSafe

variable {s t : State}

/-! ### The measurement front end -/

theorem judgeSupply (h : s.fanSafe) : (judgeSupply s).fanSafe := by
  have detected (low : Bool) : (s.setFront { s.front with supplyLow := low }).fanSafe := h.setFront _
  simp only [Machine.judgeSupply]
  split
  · exact h
  · refine dryingSupplyReport (airSupplyReport ?_ _) _
    exact .ite ((detected _).followOn (raise_followOn _ _)) (detected _)

theorem statusReport (h : s.fanSafe) (ch : Channel) : (statusReport ch s).fanSafe := by
  cases ch with
  | rh => exact (h.followOn (evaluateDemand_followOn s)).judgeDrying
  | troom => exact h.judgeDrying
  | tevap => exact judgeDrying (.ite h h)
  | tcond => exact h.judgeDrying
  | supply => exact h

theorem converterArrival (h : s.fanSafe) (ch : Channel) (code : BitVec 10) : (converterArrival ch code s).fanSafe := by
  have judged : (arrivalJudged ch code s).fanSafe := (h.setFront _).reportChange _ _
  have reported : (arrivalReported ch code s).fanSafe := .ite judged (judged.statusReport ch)
  rw [converterArrival_eq]
  exact .ite reported.judgeSupply reported

theorem particleWindowEnd (h : s.fanSafe) : (particleWindowEnd s).fanSafe := by
  rw [particleWindowEnd_eq]
  exact ((h.setFront _).reportChange _ _).airWindowEnd _

theorem restartDebounce (h : s.fanSafe) (sw : Switch) : (restartDebounce sw s).fanSafe := .ite (h.setFront _) h

theorem switchRawChange (h : s.fanSafe) (sw : Switch) (high : Bool) : (switchRawChange sw high s).fanSafe := by
  simp only [Machine.switchRawChange]
  exact .ite ((h.setPins _).restartDebounce sw) (h.setPins _)

theorem doorReport (h : s.fanSafe) (isOpen : Bool) : (doorReport isOpen s).fanSafe := by
  have sound : (doorCopied isOpen s).air.Sound := ⟨h.safe.slots, h.safe.band, h.safe.duty⟩
  rw [doorReport_eq]
  exact ((airDoorReport (s := doorCopied isOpen s) h.1 sound isOpen).followOn
    (filterDoorReport_followOn _ _)).followOn (dryingDoorReport_followOn _ _)

theorem switchReport (h : s.fanSafe) (sw : Switch) (b : Bool) : (switchReport sw b s).fanSafe := by
  cases sw with
  | highFloat => exact h.tankEvent _
  | fullFloat => exact h.tankEvent _
  | tankPresent => exact h.tankEvent _
  | door => exact h.doorReport b

theorem debounceExpiry (h : s.fanSafe) (sw : Switch) : (debounceExpiry sw s).fanSafe := by
  simp only [Machine.debounceExpiry]
  exact .ite (h.setFront _) ((h.setFront _).switchReport _ _)

theorem settlingExpiry (h : s.fanSafe) : (settlingExpiry s).fanSafe := by
  rw [settlingExpiry_eq]
  exact ((h.setFront _).tankEvent _).doorReport _

/-! ### The commands of Table 30 -/

theorem accept (h : s.fanSafe) (status : CommandStatus) (awaited : Awaited) : (accept status awaited s).fanSafe :=
  h.setCmd _

theorem refuse (h : s.fanSafe) (status : CommandStatus) : (refuse status s).fanSafe :=
  (h.setCmd _).followOn (raise_followOn _ _)

theorem clearFilter (h : s.fanSafe) : (clearFilter s).fanSafe := by
  have newFilter : (s.setAir { s.air with q := 0 }).fanSafe := h.setAir (h.safe.of_figures rfl)
  simp only [Machine.clearFilter]
  exact ((((newFilter.setFilter _).markIf _).evaluateFilter.reportChange _ _).followOn
    (updateLamps_followOn _ _ rfl)).followOn (requestJob_followOn _ _)

theorem filterReset (h : s.fanSafe) : (filterReset s).fanSafe :=
  .ite (h.accept _ _).clearFilter.startSweep (h.accept _ _).clearFilter

theorem learnBaseline (h : s.fanSafe) : (learnBaseline s).fanSafe :=
  .ite (h.refuse _) (.ite (h.refuse _) (h.accept _ _).startSweep)

theorem abortLearn (h : s.fanSafe) : (abortLearn s).fanSafe := .ite (h.accept _ _).abandonSweep (h.refuse _)

theorem defrostNow (h : s.fanSafe) : (defrostNow s).fanSafe := .ite (h.accept _ _).enterDefrost (h.refuse _)

theorem clearLockout (h : s.fanSafe) : (clearLockout s).fanSafe :=
  .ite ((h.accept _ _).dryingClearLockout.airClearLockout.followOn (requestJob_followOn _ _)) (h.refuse _)

theorem endAllStop (h : s.fanSafe) : (Machine.setAllStop false s).fanSafe := (h.setAllStop false).judgeDrying

theorem leaveStandalone (h : s.fanSafe) : (leaveStandalone s).fanSafe := by
  have ended : State.fanSafe (if s.cmd.allStop then Machine.setAllStop false s else s) := .ite h.endAllStop h
  exact (((((ended.setCmd _).airModeReport .normal).dryingModeReport .normal).reportCondition _ _).setCmd
    _).accept _ _

theorem resume (h : s.fanSafe) : (resume s).fanSafe := .ite h.leaveStandalone (h.refuse _)

theorem judgeCommand (h : s.fanSafe) (code : Byte) : (judgeCommand code s).fanSafe :=
  .ite h.filterReset (.ite h.learnBaseline (.ite h.abortLearn (.ite h.defrostNow (.ite h.clearLockout (.ite h.resume
    (.ite ((h.accept _ _).followOn (requestJob_followOn _ _)) (.ite (h.accept _ _) (h.refuse _))))))))

theorem enterStandalone (h : s.fanSafe) : (enterStandalone s).fanSafe := by
  have entered (c : CommandBlock) : (setCondition .standalone true (s.setCmd c)).fanSafe := h
  have judged := (((entered { s.cmd with mode := .standalone, count := 0, counting := none }).airModeReport
    .standalone).abandonSweep.dryingModeReport .standalone).followOn (judgeAllStop_followOn _)
  exact .ite (judged.setStore _) judged

theorem supervisionCount (h : s.fanSafe) : (supervisionCount s).fanSafe := .ite h.enterStandalone (h.setCmd _)

/-! ### Resets, loads and the restart -/

/-- A part with the settings of one image formed and a safe air mover. -/
theorem of_image (path : t.path.working = Settings.ofRaw t.path.raw) (length : t.path.raw.length = 64)
    (air : t.air.Safe) : t.fanSafe :=
  (fanSafe_iff t).2 ⟨MemoryPath.settingsFormed_of_ofRaw _ length path, air⟩

theorem beginRestart (s : State) : (beginRestart s).fanSafe := of_image rfl rfl AirMover.atReset_safe

theorem wholeReset (cause : ResetCause) (written : Nat) (s : State) : (wholeReset cause written s).fanSafe :=
  of_image rfl rfl AirMover.atReset_safe

theorem loadReads_raw_length (m : Memory) : (loadReads m).raw.length = 64 := by
  simp only [loadReads]
  split
  · simp [readRun]
  · rfl

theorem takeLoad (l : LoadReads) (length : l.raw.length = 64) (s : State) : (takeLoad l s).fanSafe :=
  have formed : l.memoryPath.settingsFormed := MemoryPath.settingsFormed_of_ofRaw _ length rfl
  (fanSafe_iff _).2 ⟨formed, AirMover.ofLoad_safe formed.dutiesLegal l.record⟩

theorem judgeLoadedFilter (h : s.fanSafe) : (judgeLoadedFilter s).fanSafe := by
  simp only [Machine.judgeLoadedFilter]
  exact (h.evaluateFilter.reportChange _ _).followOn (updateLamps_followOn _ _ rfl)

theorem loadComplete (pfwLow : Bool) (s : State) : (loadComplete pfwLow s).fanSafe := by
  have loaded := (takeLoad _ (loadReads_raw_length s.memory)
    (loadOccurrences (loadReads s.memory) s)).judgeLoadedFilter.setPins
  exact .ite ((loaded _).setStore _) (loaded _)

theorem drainJobComplete (h : s.fanSafe) : (drainJobComplete s).fanSafe := by
  have taken (m : Memory) (sv : Service) : ((s.setMemory m).setPath (s.path.takeBurst sv)).fanSafe := by
    cases sv <;> exact h
  unfold Machine.drainJobComplete
  split
  case h_1 d j rest _ _ =>
    have written := taken (s.memory.writeAll (burstWrites s.path.page (drainService s.store d j)))
      (drainService s.store d j)
    exact .ite (written.congr rfl rfl) (written.congr rfl rfl)
  · exact h
  · exact h

/-! ### The stored-image unit -/

theorem holdackRise (h : s.fanSafe) : (holdackRise s).fanSafe := by
  unfold Machine.holdackRise
  split
  · exact h.setStore _
  all_goals exact h

theorem holdackFall (h : s.fanSafe) (written : Nat) : (holdackFall written s).fanSafe := by
  have cut (sv : Service) : (cutBurst sv written s).fanSafe := by cases sv <;> exact h
  unfold Machine.holdackFall
  split
  · split
    · exact cut _
    · exact h
  · exact h.setStore _
  · exact .ite h (h.setStore _)
  · exact h

theorem refuseHold (h : s.fanSafe) : (refuseHold s).fanSafe :=
  .ite (h.setStore _) ((h.setStore _).followOn (raise_followOn _ _))

theorem burstComplete (h : s.fanSafe) : (burstComplete s).fanSafe := by
  have finished (sv : Service) : (finishBurst sv s).fanSafe := by
    cases sv <;> exact h
  unfold Machine.burstComplete
  split
  · exact finished _
  all_goals exact h

theorem saveTimerExpiry (h : s.fanSafe) : (saveTimerExpiry s).fanSafe :=
  .ite (.ite ((h.setStore _).followOn (requestJob_followOn _ _)) ((h.setStore _).setStore _)) (h.setStore _)

/-! ### The memory path -/

theorem setPath (h : s.fanSafe) {p : MemoryPath} (hp : p.settingsFormed) : (s.setPath p).fanSafe :=
  (fanSafe_iff _).2 ⟨hp, h.safe⟩

theorem busWrite (h : s.fanSafe) (m : BitVec 15) (v : Byte) (waits : Nat) : (busWrite m v waits s).fanSafe := h

theorem recordClamp (h : s.fanSafe) (clamped : Option Nat) : (recordClamp clamped s).fanSafe := by
  cases clamped with
  | none => exact h
  | some off => exact (h.followOn (raise_followOn _ _)).setPath h.1

theorem settingTaken (h : s.fanSafe) : (settingTaken s).fanSafe :=
  .ite ((h.setPath (p := { s.path with armed := false }) h.1).setCmd _) (h.setCmd _)

theorem restartQuiet (h : s.fanSafe) : (restartQuiet s).fanSafe :=
  h.setPath (p := { s.path with quietTimer := startTimer 200 }) h.1

theorem changeSlots (h : s.fanSafe) {f : AirMover → AirMover} (hf : (f s.air).Sound) : (changeSlots f s).fanSafe :=
  h.setAir hf.arbitrate

theorem delivered (h : s.fanSafe) {old : Settings} (ht : Delivered old s t) : t.fanSafe := by
  obtain ⟨user, auto, drying, defrost, protect, standalone, learn⟩ := h.safe.slots
  have speeds := h.changeSlots (f := (·.formUserAuto s.path.working s.cmd.mode)) (h.safe.formUserAuto h.duties s.cmd.mode)
  cases ht with
  | readWhereUsed => exact h
  | mode => exact judgeDrying (.ite speeds (speeds.followOn (evaluateDemand_followOn _)))
  | speeds => exact speeds
  | setpoint m => exact judgeDrying (.ite (h.followOn (evaluateDemand_followOn s)) h)
  | band => exact (h.followOn (evaluateDemand_followOn s)).judgeDrying
  | drying => exact h.judgeDrying
  | dryDuty =>
    have slots : AirMover.slotsLegal { s.air with drying := redo s.air.drying s.path.working.dryDuty } :=
      ⟨user, auto, AirMover.redo_legal h.duties.dry, defrost, protect, standalone, learn⟩
    exact judgeDrying (h.changeSlots (f := fun a => { a with drying := redo a.drying s.path.working.dryDuty })
      ⟨slots, h.safe.band, h.safe.duty⟩)
  | defrostDuty =>
    have slots : AirMover.slotsLegal { s.air with defrost := redo s.air.defrost s.path.working.defrostDuty } :=
      ⟨user, auto, drying, AirMover.redo_legal h.duties.defrost, protect, standalone, learn⟩
    exact h.changeSlots (f := fun a => { a with defrost := redo a.defrost s.path.working.defrostDuty })
      ⟨slots, h.safe.band, h.safe.duty⟩
  | standaloneDuty =>
    have slots : AirMover.slotsLegal { s.air with standalone := redo s.air.standalone s.path.working.standaloneDuty } :=
      ⟨user, auto, drying, defrost, protect, AirMover.redo_legal h.duties.standalone, learn⟩
    exact h.changeSlots (f := fun a => { a with standalone := redo a.standalone s.path.working.standaloneDuty })
      ⟨slots, h.safe.band, h.safe.duty⟩
  | filter => exact h.evaluateFilter
  | tank off => exact .ite h (h.tankEvent _)
  | polarity =>
    have entry {u : State} (hu : u.fanSafe) (sw : Switch) : (polarityEntry old u sw).fanSafe :=
      .ite hu (hu.restartDebounce sw)
    exact entry (entry (entry (entry h .highFloat) .fullFloat) .tankPresent) .door
  | threshold => exact .ite h h.judgeSupply
  | lamps => exact h.followOn (updateLamps_followOn _ _ rfl)
  | lampLevel => exact h
  | policy => exact h.followOn (judgeAllStop_followOn s)

theorem takeSettingWrite (h : s.fanSafe) (off : Nat) (v : Byte) : (takeSettingWrite off v s).fanSafe := by
  have taken := (h.setPath (h.1.takeSetting off v)).recordClamp
    (clampedBy s.path.working.bytes (s.path.takeSetting off v).working.bytes (s.path.takeSetting off v).raw off)
  exact (taken.delivered (deliverSetting_delivered s.path.working off _)).settingTaken.restartQuiet

theorem takeHexhLow (h : s.fanSafe) (v : Byte) : (takeHexhLow v s).fanSafe :=
  (h.setPath (h.1.setPair v (some v) (off := 0x18) rfl rfl h.1.2.2)).settingTaken.restartQuiet

theorem takeHexhHigh (h : s.fanSafe) (v : Byte) : (takeHexhHigh v s).fanSafe := by
  have range : 1 ≤ clampNat 1 730 (s.path.hexhPair v) ∧ clampNat 1 730 (s.path.hexhPair v) ≤ 730 := by
    unfold clampNat
    omega
  have paired := h.setPath (h.1.setPair v none (off := 0x19) rfl rfl range)
  simp only [Machine.takeHexhHigh]
  exact (paired.recordClamp _).evaluateFilter.settingTaken.restartQuiet

theorem takeLatched (h : s.fanSafe) (off v : Byte) : (takeLatched off v s).fanSafe := h

theorem takeStray (h : s.fanSafe) (off : Byte) : (takeStray off s).fanSafe :=
  (h.setPath (p := { s.path with lastStray := off }) h.1).followOn (raise_followOn _ _)

theorem takeAnchor (h : s.fanSafe) (v : Byte) : (takeAnchor v s).fanSafe := .ite h (h.setStore _)

theorem commandByte (h : s.fanSafe) (code : Byte) : (commandByte code s).fanSafe := by
  have noted : (noteCommand code s).fanSafe := h.setCmd _
  simp only [Machine.commandByte]
  split
  · exact beginRestart _
  · exact (noted.setPath (p := { (noteCommand code s).path with armed := decide (code = codeRestartArm) })
      noted.1).judgeCommand code

theorem controllerWrite (h : s.fanSafe) (m : BitVec 15) (v : Byte) : (controllerWrite m v s).fanSafe := by
  simp only [Machine.controllerWrite]
  split
  · exact h.busWrite _ _ _
  · exact h.busWrite _ _ _
  · exact (h.busWrite _ _ _).takeAnchor _
  · exact .ite ((h.busWrite _ _ _).takeHexhLow _)
      (.ite ((h.busWrite _ _ _).takeHexhHigh _) ((h.busWrite _ _ _).takeSettingWrite _ _))
  · exact (h.busWrite _ _ _).commandByte _
  · exact (h.busWrite _ _ _).takeLatched _ _
  all_goals exact (h.busWrite _ _ _).takeStray _

theorem controllerRead (h : s.fanSafe) (m : BitVec 15) : (controllerRead m s).fanSafe := by
  have loaded (off : Byte) : (loadHolder off s).fanSafe := by
    unfold loadHolder
    split
    · exact .ite (h.setPath (p := { s.path with holders := _ }) h.1) h
    · exact h
  exact .ite (.ite (loaded _) (loaded _)) h

theorem windowWrite (h : s.fanSafe) (off v : Byte) : (windowWrite off v s).fanSafe := .ite (h.controllerWrite _ _) h

theorem windowRead (h : s.fanSafe) (off : Byte) : (windowRead off s).fanSafe := .ite (h.controllerRead _) h

end State.fanSafe

end Sys2Proof.Machine
end

section
/-! SUPPORT. The statement of the safe fan (R23, R27, R28): every command and every idle step keeps it. -/

namespace Sys2Proof.Machine

namespace State.fanSafe

variable {s t : State}

/-- Timers counting up are no figures of the fan's safety. -/
theorem tick (h : s.fanSafe) : (tick s).fanSafe := (fanSafe_iff _).2 ⟨h.1, h.safe.of_figures rfl⟩

/-- Every command keeps the fan safe. -/
theorem exec (h : s.fanSafe) (c : Instr) : ∃ t, exec c s = .next t ∧ t.fanSafe := by
  cases c with
  | powerOn n => exact ⟨_, rfl, wholeReset _ _ _⟩
  | nresetAssert n => exact ⟨_, rfl, wholeReset _ _ _⟩
  | nresetRelease => exact ⟨_, rfl, .ite h h⟩
  | loadDelayExpiry => exact ⟨_, rfl, .ite h h⟩
  | loadComplete pfwLow => exact ⟨_, rfl, .ite (loadComplete _ _) h⟩
  | converterArrival ch code => exact ⟨_, rfl, h.whenRunning (h.converterArrival _ _)⟩
  | particleWindowEnd => exact ⟨_, rfl, h.whenRunning h.particleWindowEnd⟩
  | tachEdge e k => exact ⟨_, rfl, h.whenRunning (.ite (h.setFront _) h)⟩
  | stoppedReport => exact ⟨_, rfl, .ite (h.setFront _) h⟩
  | switchRawChange sw high => exact ⟨_, rfl, h.switchRawChange _ _⟩
  | debounceExpiry sw => exact ⟨_, rfl, .ite (h.debounceExpiry _) h⟩
  | switchSettlingExpiry => exact ⟨_, rfl, .ite h.settlingExpiry h⟩
  | npfwAssert => exact ⟨_, rfl, (h.setPins _).whenRunning ((h.setPins _).setStore _)⟩
  | rampStep => exact ⟨_, rfl, .ite (h.setAir (h.safe.rampExpiry _)) h⟩
  | settledTimerExpiry => exact ⟨_, rfl, .ite (h.setAir h.safe.settle) h⟩
  | armingTimerExpiry => exact ⟨_, rfl, .ite (h.setAir (h.safe.of_figures rfl)) h⟩
  | stallCheck => exact ⟨_, rfl, h.whenRunning h.stallCheck⟩
  | stallWaitExpiry => exact ⟨_, rfl, .ite (h.setAir h.safe.leaveStall) h⟩
  | airflowPeriod => exact ⟨_, rfl, h.whenRunning h.airflowPeriod⟩
  | learnHoldExpiry => exact ⟨_, rfl, .ite h.learnHoldExpiry h⟩
  | learnReading => exact ⟨_, rfl, .ite h.learnReading h⟩
  | dosePeriod => exact ⟨_, rfl, h.whenRunning ((h.setFilter _).markIf _).evaluateFilter⟩
  | dryingCheck => exact ⟨_, rfl, h.whenRunning h.dryingCheck⟩
  | offTimeExpiry => exact ⟨_, rfl, .ite h.offTimeExpiry h⟩
  | confirmationTimerExpiry => exact ⟨_, rfl, .ite h.confirmationExpiry h⟩
  | extraHoldExpiry => exact ⟨_, rfl, .ite (h.setDry _).judgeHold.judgeStart h⟩
  | runSecondExpiry => exact ⟨_, rfl, .ite h.runSecondExpiry h⟩
  | defrostMaxExpiry =>
    exact ⟨_, rfl, .ite (h.endDefrost.followOn (raise_followOn _ _)).judgeStart h⟩
  | timedCycleExpiry => exact ⟨_, rfl, .ite (h.setDry _).judgeDrying h⟩
  | uptimeMinute => exact ⟨_, rfl, h.whenRunning (h.setDry _)⟩
  | onTimeEnd => exact ⟨_, rfl, .ite (h.tankEvent _) h⟩
  | afterRunExpiry => exact ⟨_, rfl, .ite (h.tankEvent _) h⟩
  | pulseTimerExpiry => exact ⟨_, rfl, .ite h h⟩
  | lampPhaseTimer lamp =>
    cases lamp with
    | filter => exact ⟨_, rfl, .ite h h⟩
    | tank => exact ⟨_, rfl, .ite h h⟩
  | settingWrite off v => exact ⟨_, rfl, h.windowWrite _ _⟩
  | hexhLowWrite v => exact ⟨_, rfl, h.windowWrite _ _⟩
  | hexhHighWrite v => exact ⟨_, rfl, h.windowWrite _ _⟩
  | quietTimerExpiry =>
    have stopped := h.setPath (p := { s.path with quietTimer := none }) h.1
    exact ⟨_, rfl, .ite (stopped.followOn (requestJob_followOn _ _)) h⟩
  | latchedWrite off v => exact ⟨_, rfl, h.windowWrite _ _⟩
  | summaryRead => exact ⟨_, rfl, h.windowRead _⟩
  | snapshotLoadRead off => exact ⟨_, rfl, h.windowRead _⟩
  | strayWrite off v => exact ⟨_, rfl, h.windowWrite _ _⟩
  | anchorWrite v => exact ⟨_, rfl, .ite (h.controllerWrite anchor v) h⟩
  | filterReset => exact ⟨_, rfl, h.windowWrite _ _⟩
  | learnBaseline => exact ⟨_, rfl, h.windowWrite _ _⟩
  | abortLearn => exact ⟨_, rfl, h.windowWrite _ _⟩
  | defrostNow => exact ⟨_, rfl, h.windowWrite _ _⟩
  | clearLockout => exact ⟨_, rfl, h.windowWrite _ _⟩
  | resume => exact ⟨_, rfl, h.windowWrite _ _⟩
  | saveNow => exact ⟨_, rfl, h.windowWrite _ _⟩
  | restartArm => exact ⟨_, rfl, h.windowWrite _ _⟩
  | restart => exact ⟨_, rfl, h.windowWrite _ _⟩
  | unknownCommand code => exact ⟨_, rfl, h.windowWrite _ _⟩
  | drainJobComplete => exact ⟨_, rfl, .ite h.drainJobComplete h⟩
  | holdackRise => exact ⟨_, rfl, (h.setPins _).whenRunning (h.setPins _).holdackRise⟩
  | holdackFall n => exact ⟨_, rfl, (h.setPins _).whenRunning ((h.setPins _).holdackFall _)⟩
  | ackTimerExpiry => exact ⟨_, rfl, .ite h.refuseHold h⟩
  | retryTimerExpiry => exact ⟨_, rfl, .ite (.ite (h.setStore _) (h.setStore _)) h⟩
  | burstComplete => exact ⟨_, rfl, h.whenRunning h.burstComplete⟩
  | saveTimerExpiry => exact ⟨_, rfl, .ite h.saveTimerExpiry h⟩
  | supervisionCount => exact ⟨_, rfl, .ite h.supervisionCount h⟩
  | supervisionPulseEnd => exact ⟨_, rfl, .ite (h.setStore _) h⟩
  | particleSample high => exact ⟨_, rfl, h.whenRunning (h.setFront _)⟩

end State.fanSafe

/-- Settles O22: the invariant carries through the idle step and, by the cases of the command, through every other. -/
theorem fanStaysSafe : Obligations.FanStaysSafe := by
  intro s t hs ht
  unfold step at ht
  split at ht
  case h_1 =>
    obtain rfl := Host.Outcome.next.inj ht
    exact hs.tick
  case h_2 c rest hpending =>
    have waiting : (s.setPending rest).fanSafe := hs
    obtain ⟨u, hu, safe⟩ := waiting.exec c
    obtain rfl := Host.Outcome.next.inj (hu.symm.trans ht)
    exact safe

end Sys2Proof.Machine
end

section
/-! SUPPORT. The ramp, the settled, arming and stall-wait timers and the stall check (R28 to R34), with their statements. -/

namespace Sys2Proof.Machine

/-! ### One ramp step (R28, R29, R31) -/

section Ramp

variable (w : Settings) {d t : Nat}

theorem rampedDuty_start (h : 31 ≤ t) : rampedDuty w 0 t = 31 := by
  have ne : 0 ≠ t := by omega
  simp [rampedDuty, ne]

theorem rampedDuty_rise (hd : 0 < d) (h : d < t) : rampedDuty w d t = min t (d + w.riseRate) := by
  have ne : d ≠ t := by omega
  have on : d ≠ 0 := by omega
  simp [rampedDuty, ne, on, h]

theorem rampedDuty_fall (h : t < d) (ht : 31 ≤ t) : rampedDuty w d t = max t (d - w.fallRate) := by
  have ne : d ≠ t := by omega
  have on : d ≠ 0 := by omega
  have above : ¬ d < t := by omega
  simp [rampedDuty, ne, on, above, ht]

theorem rampedDuty_stop (h : 0 < d) :
    rampedDuty w d 0 = if w.fallRate + 31 ≤ d then d - w.fallRate else 0 := by
  have on : d ≠ 0 := by omega
  simp [rampedDuty, on, Nat.add_comm]

end Ramp

namespace AirMover

variable (a : AirMover) (w : Settings)

theorem rampExpiry_effective : (a.rampExpiry w).effective = rampedDuty w a.effective a.target := by
  obtain ⟨_, _, _, _, _, eq⟩ := a.rampExpiry_fields w
  rw [eq]

/-- R28, R29: at the target the ramp stops and the settled timer starts; short of it the ramp runs on. -/
theorem rampExpiry_timers :
    ((a.rampExpiry w).effective = a.target → (a.rampExpiry w).rampTimer = none
        ∧ (a.rampExpiry w).settledTimer = if 31 ≤ a.target then startTimer 3000 else none)
      ∧ ((a.rampExpiry w).effective ≠ a.target → (a.rampExpiry w).rampTimer = startTimer 100
        ∧ (a.rampExpiry w).settledTimer = a.settledTimer) := by
  rw [rampExpiry_effective]
  refine ⟨fun h => by simp [rampExpiry, h], fun h => ?_⟩
  simp only [rampExpiry, if_neg h, true_and]
  split
  · rfl
  · split <;> rfl

/-- R31: the monitor is disarmed at 0, armed for by the first drive from 0, and stands in between. -/
theorem rampExpiry_monitor :
    ((a.rampExpiry w).effective = 0 → (a.rampExpiry w).armed = false ∧ (a.rampExpiry w).armingTimer = none
        ∧ (a.rampExpiry w).zeroRun = 0)
      ∧ (0 < (a.rampExpiry w).effective → a.effective = 0 → a.supplyLow = false →
        (a.rampExpiry w).armingTimer = startTimer 2000 ∧ (a.rampExpiry w).armed = a.armed)
      ∧ (0 < (a.rampExpiry w).effective → 0 < a.effective ∨ a.supplyLow = true →
        (a.rampExpiry w).armed = a.armed ∧ (a.rampExpiry w).armingTimer = a.armingTimer
          ∧ (a.rampExpiry w).zeroRun = a.zeroRun) := by
  rw [rampExpiry_effective]
  refine ⟨fun h => ?off, fun h hd hs => ?first, fun h hkept => ?stands⟩
  case off =>
    simp only [rampExpiry, h, if_true]
    split <;> exact ⟨rfl, rfl, rfl⟩
  case first =>
    simp only [rampExpiry, hd, hs, Nat.ne_of_gt (hd ▸ h), and_self, if_true, if_false]
    split <;> exact ⟨rfl, rfl⟩
  case stands =>
    have other : ¬ (a.effective = 0 ∧ a.supplyLow = false) := by
      rintro ⟨hd, hs⟩
      simp [hd, hs] at hkept
    simp only [rampExpiry, Nat.ne_of_gt h, other, if_false]
    split <;> exact ⟨rfl, rfl, rfl⟩

end AirMover

theorem exec_rampStep (s : State) (h : s.air.rampTimer.isSome = true) :
    exec .rampStep s = .next (s.setAir (s.air.rampExpiry s.path.working)) := by
  simp [exec, execRampStep, h]

/-- Settles O17: the duty by the rows of R28's table, the timers and the monitor by what a step leaves of each. -/
theorem rampStepMovesDuty : Obligations.RampStepMovesDuty := by
  intro s hs
  obtain ⟨atTarget, below⟩ := s.air.rampExpiry_timers s.path.working
  obtain ⟨off, first, stands⟩ := s.air.rampExpiry_monitor s.path.working
  have duty := s.air.rampExpiry_effective s.path.working
  refine ⟨_, exec_rampStep s hs, rfl, ?start, ?rise, ?fall, ?stop, fun h => (atTarget h).1, fun h => (below h).1, off,
    ?first, stands, ?settles, ?idle, fun h => (below h).2, ?frame⟩
  case start =>
    intro h0 ht
    exact duty.trans (h0 ▸ rampedDuty_start _ ht)
  case rise => exact fun hd h => duty.trans (rampedDuty_rise _ hd h)
  case fall => exact fun h ht => duty.trans (rampedDuty_fall _ h ht)
  case stop =>
    intro h h0
    refine duty.trans ?_
    rw [h0] at h ⊢
    exact rampedDuty_stop _ h
  case first =>
    intro h0 ht hs
    have driven : (s.air.rampExpiry s.path.working).effective = 31 := duty.trans (h0 ▸ rampedDuty_start _ ht)
    exact first (by simp [driven]) h0 hs
  case settles =>
    intro h ht
    exact (atTarget h).2.trans (if_pos ht)
  case idle =>
    intro h h0
    exact (atTarget h).2.trans (if_neg (by omega))
  case frame =>
    obtain ⟨_, _, _, _, _, eq⟩ := s.air.rampExpiry_fields s.path.working
    rw [State.setAir_air, eq]
    exact ⟨rfl, rfl, rfl, rfl, rfl, rfl, rfl⟩

/-! ### The settled, arming and stall-wait timers (R29, R31, R33) -/

theorem exec_settledTimerExpiry (s : State) (h : s.air.settledTimer.isSome = true) :
    exec .settledTimerExpiry s = .next (s.setAir s.air.settle) := by
  simp [exec, execSettledTimerExpiry, h]

theorem exec_armingTimerExpiry (s : State) (h : s.air.armingTimer.isSome = true) :
    exec .armingTimerExpiry s = .next (s.setAir { s.air with armed := true, armingTimer := none }) := by
  simp [exec, execArmingTimerExpiry, h]

theorem exec_stallWaitExpiry (s : State) (h : s.air.stallWait.isSome = true) :
    exec .stallWaitExpiry s = .next (s.setAir s.air.leaveStall) := by
  simp [exec, execStallWaitExpiry, h]

namespace AirMover

/-- R29, R44: a settling sweep point begins its hold. -/
theorem settle_of_settling (a : AirMover) {i : Nat} (h : a.sweep = .measuring i .settling) :
    a.settle = { a with
      settled := true, settledTimer := none, sweep := .measuring i .hold, learnTimer := startTimer 5000 } := by
  simp [settle, beginHold, h]

/-- R29: outside a settling sweep point the fan is settled and nothing more. -/
theorem settle_of_not_settling (a : AirMover) (h : ∀ i, a.sweep ≠ .measuring i .settling) :
    a.settle = { a with settled := true, settledTimer := none } := by
  unfold settle beginHold
  split
  case h_1 i hi => exact absurd hi (h i)
  case h_2 => rfl

/-- R33: the stall is left for RUN or STOPPED, by the target. -/
theorem leaveStall_fields (a : AirMover) :
    a.leaveStall.fan = (if a.target = 0 then .stopped else .run) ∧ a.leaveStall.effective = a.effective
      ∧ a.leaveStall.retries = a.retries ∧ a.leaveStall.stallWait = none := by
  have kept := driveRamp_kept { a with fan := if a.target = 0 then .stopped else .run, stallWait := none }
  obtain ⟨-, duty, fan⟩ := driveRamp_duties { a with fan := if a.target = 0 then .stopped else .run, stallWait := none }
  exact ⟨fan, duty, kept.retries, kept.stallWait⟩

/-- R28: outside a stall and an override the ramp runs while the duty differs from the target. -/
theorem driveRamp_runs (a : AirMover) (hs : a.stalled = false) (ho : a.overridden = false) (h : a.effective ≠ a.target) :
    a.driveRamp.rampTimer.isSome = true := by
  unfold driveRamp
  rw [if_neg (by simp [hs, ho, h])]
  split
  · assumption
  · rfl

end AirMover

/-- Settles O18: each of the three timers acts on the air mover alone. -/
theorem fanTimersExpire : Obligations.FanTimersExpire := by
  refine ⟨fun s hs => ?settled, fun s hs => ?arming, fun s hs => ?wait⟩
  case settled =>
    refine ⟨_, exec_settledTimerExpiry s hs, rfl, ?_⟩
    rw [State.setAir_air]
    by_cases h : ∃ i, s.air.sweep = .measuring i .settling
    · obtain ⟨i, hi⟩ := h
      rw [s.air.settle_of_settling hi]
      refine ⟨rfl, rfl, fun j hj => ?_, fun none => absurd hi (none i)⟩
      obtain rfl : i = j := by simpa [hi] using hj
      exact ⟨rfl, rfl⟩
    · have none : ∀ i, s.air.sweep ≠ .measuring i .settling := fun i hi => h ⟨i, hi⟩
      rw [s.air.settle_of_not_settling none]
      exact ⟨rfl, rfl, fun i hi => absurd hi (none i), fun _ => rfl⟩
  case arming => exact ⟨_, exec_armingTimerExpiry s hs, rfl, rfl⟩
  case wait =>
    obtain ⟨fan, duty, retries, wait⟩ := s.air.leaveStall_fields
    refine ⟨_, exec_stallWaitExpiry s hs, rfl, fun ht => ?run, fun ht => ?stopped, duty, retries, wait,
      fun ht hd hclosed hstop => ?ramp⟩
    case run => exact fan.trans (if_neg (by omega))
    case stopped => exact fan.trans (if_pos ht)
    case ramp =>
      have target : s.air.target ≠ 0 := by omega
      exact AirMover.driveRamp_runs _ (by simp [AirMover.stalled, target]) (by simp [AirMover.overridden, hclosed, hstop])
        (by simpa [hd] using target.symm)

end Sys2Proof.Machine
end

section
/-! SUPPORT. A sweep's end, a stall and the end of a stall episode (R32, R34, R46), with the statement of the stall
check. -/

namespace Sys2Proof.Machine

/-! ### Reports with a copy of their own at drying (R47, R66) -/

theorem tellLearnPending_followOn (b : Bool) (s : State) :
    FollowOn (s.setDry { s.dry with learnPending := b }) (tellLearnPending b s) := judgeDrying_followOn _

theorem dryingFanStall_followOn (b : Bool) (s : State) :
    FollowOn (s.setDry { s.dry with fanStall := b }) (dryingFanStall b s) := judgeDrying_followOn _

theorem dryingFanStall_fanStall (b : Bool) (s : State) : (dryingFanStall b s).dry.fanStall = b :=
  (dryingFanStall_followOn b s).dry.fanStall

theorem tellLearnPending_learnPending (b : Bool) (s : State) : (tellLearnPending b s).dry.learnPending = b :=
  (tellLearnPending_followOn b s).dry.learnPending

theorem tellLearnPending_air (b : Bool) (s : State) : s.air.Follows (tellLearnPending b s).air :=
  (tellLearnPending_followOn b s).air

theorem tellLearnPending_cmd (b : Bool) (s : State) : s.cmd.Follows (tellLearnPending b s).cmd :=
  (tellLearnPending_followOn b s).cmd

/-- R32: a change of FAN_STALL, as the notice unit, drying and the air mover hold it after the report. -/
theorem reportFanStall_spec (b : Bool) (s : State) :
    s.air.Follows (reportFanStall b s).air ∧ hasFlag (reportFanStall b s).notice.conditions .fanStall = b
      ∧ (reportFanStall b s).dry.fanStall = b := by
  have reported := (reportCondition_followOn .fanStall b s).air
  exact ⟨reported.trans (dryingFanStall_followOn b _).air, by simp [reportFanStall], dryingFanStall_fanStall b _⟩

/-- R111: a report that a condition has ended latches nothing. -/
@[simp] theorem reportCondition_false_latched (f : Flag) (s : State) :
    (reportCondition f false s).notice.latched = s.notice.latched := by
  simp [reportCondition, setCondition, NoticeUnit.condition]

/-! ### The end of a sweep (R45, R46) -/

theorem AirMover.endSweep_kept (a : AirMover) : a.swept.Kept a.endSweep := a.swept.arbitrate_kept

theorem AirMover.endSweep_fields (a : AirMover) :
    a.endSweep.sweep = .none ∧ a.endSweep.scratch = [] ∧ a.endSweep.learn = none :=
  ⟨a.endSweep_kept.sweepIdle rfl, a.endSweep_kept.scratch, a.endSweep_kept.learn⟩

/-- A progress value that ends a sweep, with drying told that no learn is pending (R47). -/
def sweepTold (p : Nat) (s : State) : State := tellLearnPending false (reportProgress p s)

theorem abandonSweep_of_idle (s : State) (h : s.air.sweep = .none) : abandonSweep s = s := if_pos h

theorem abandonSweep_of_busy (s : State) (h : s.air.sweep ≠ .none) :
    abandonSweep s = raise .learnAborted (sweepTold 11 (s.setAir s.air.endSweep)) := if_neg h

theorem CommandBlock.newProgress_progress (c : CommandBlock) (p : Nat) : (c.newProgress p).progress = p := by
  unfold CommandBlock.newProgress
  split_ifs <;> rfl

/-- Once the sweep has ended, nothing that drying does when told begins a point or reports a progress. -/
theorem sweepTold_spec (p : Nat) (s : State) (idle : s.air.sweep = .none) :
    s.air.Follows (sweepTold p s).air ∧ (s.cmd.newProgress p).Follows (sweepTold p s).cmd
      ∧ (sweepTold p s).cmd.progress = p ∧ (sweepTold p s).lamps.progress = p
      ∧ (sweepTold p s).dry.learnPending = false := by
  have told := tellLearnPending_followOn false (reportProgress p s)
  obtain ⟨cmd, lamps⟩ := told.progress (by simpa using idle)
  have air := tellLearnPending_air false (reportProgress p s)
  simp only [reportProgress_keeps] at air
  exact ⟨air, tellLearnPending_cmd false (reportProgress p s), cmd.trans (s.cmd.newProgress_progress p), lamps,
    tellLearnPending_learnPending _ _⟩

/-- R46: an abandoned sweep, at every block that is told. -/
theorem abandonSweep_spec (s : State) (h : s.air.sweep ≠ .none) :
    s.air.swept.Follows (abandonSweep s).air ∧ (abandonSweep s).air.sweep = .none ∧ (abandonSweep s).air.learn = none
      ∧ (s.cmd.newProgress 11).Follows (abandonSweep s).cmd ∧ (abandonSweep s).cmd.progress = 11
      ∧ (abandonSweep s).lamps.progress = 11 ∧ (abandonSweep s).dry.learnPending = false
      ∧ hasFlag (abandonSweep s).notice.latched .learnAborted = true := by
  obtain ⟨sweep, scratch, learn⟩ := s.air.endSweep_fields
  obtain ⟨air, cmd, progress, lamps, dry⟩ := sweepTold_spec 11 (s.setAir s.air.endSweep) sweep
  rw [abandonSweep_of_busy s h]
  exact ⟨s.air.endSweep_kept.toFollows.trans air, air.sweepIdle sweep, (air.learnIdle sweep).trans learn, cmd, progress,
    lamps, dry, by simp⟩

/-- R46: whatever the sweep did, none is left. -/
theorem abandonSweep_air (s : State) :
    (abandonSweep s).air.sweep = .none
      ∧ (s.air.Follows (abandonSweep s).air ∨ s.air.swept.Follows (abandonSweep s).air) := by
  by_cases h : s.air.sweep = .none
  · rw [abandonSweep_of_idle s h]
    exact ⟨h, .inl (.refl _)⟩
  · obtain ⟨air, sweep, -⟩ := abandonSweep_spec s h
    exact ⟨sweep, .inr air⟩

@[simp] theorem abandonSweep_conditions (s : State) : (abandonSweep s).notice.conditions = s.notice.conditions := by
  by_cases h : s.air.sweep = .none
  · rw [abandonSweep_of_idle s h]
  · simp [abandonSweep_of_busy s h, sweepTold]

/-! ### A stall (R32) -/

/-- The fan in a stall declared with `n` retries counted: at 0, disarmed and unsettled, in the wait or locked out. -/
structure AirMover.InStall (a : AirMover) (n : Nat) : Prop where
  retries : a.retries = n
  fan : a.fan = if 3 ≤ n then .stallLockout else .stallWait
  wait : a.stallWait = if 3 ≤ n then none else startTimer 30000
  duty : a.effective = 0
  ramp : a.rampTimer = none
  unsettled : a.settled = false
  disarmed : a.armed = false
  noZeroRun : a.zeroRun = 0
  noCleanRun : a.cleanRun = 0

namespace AirMover

variable {a b : AirMover} {n : Nat}

theorem stall_inStall (a : AirMover) : a.stall.InStall (a.retries + 1) := ⟨rfl, rfl, rfl, rfl, rfl, rfl, rfl, rfl, rfl⟩

theorem InStall.stalled (h : a.InStall n) : a.stalled = true := by
  simp only [AirMover.stalled, h.fan]
  split <;> rfl

theorem InStall.follows (h : a.InStall n) (k : a.Follows b) : b.InStall n where
  retries := k.retries.trans h.retries
  fan := (k.fanStalled h.stalled).trans h.fan
  wait := k.stallWait.trans h.wait
  duty := k.fanOff h.duty
  ramp := k.rampStopped h.stalled h.ramp
  unsettled := k.unsettled h.unsettled
  disarmed := k.disarmed h.disarmed
  noZeroRun := k.noZeroRun h.noZeroRun
  noCleanRun := k.cleanRun.trans h.noCleanRun

theorem InStall.swept (h : a.InStall n) : a.swept.InStall n := { h with }

end AirMover

/-- The part as a stall is declared, FAN_STALL reported if it was not present. -/
def stallReported (s : State) : State :=
  if hasFlag s.notice.conditions .fanStall then s.setAir s.air.stall else reportFanStall true (s.setAir s.air.stall)

theorem declareStall_eq (s : State) : declareStall s = abandonSweep (immediateStop (stallReported s)) := rfl

theorem stallReported_spec (s : State) :
    s.air.stall.Follows (stallReported s).air ∧ hasFlag (stallReported s).notice.conditions .fanStall = true := by
  unfold stallReported
  split
  case isTrue h => exact ⟨.refl _, h⟩
  case isFalse =>
    obtain ⟨air, present, -⟩ := reportFanStall_spec true (s.setAir s.air.stall)
    exact ⟨air, present⟩

/-- R32: a declared stall, at the air mover, the notice unit and the compressor. -/
theorem declareStall_spec (s : State) :
    (declareStall s).air.InStall (s.air.retries + 1) ∧ (declareStall s).air.sweep = .none
      ∧ hasFlag (declareStall s).notice.conditions .fanStall = true ∧ (declareStall s).dry.comp ≠ .running := by
  obtain ⟨air, present⟩ := stallReported_spec s
  have stopped := s.air.stall_inStall.follows (air.trans (immediateStop_followOn (stallReported s)).air)
  obtain ⟨sweep, kept | ended⟩ := abandonSweep_air (immediateStop (stallReported s))
  all_goals
    refine ⟨?_, sweep, by simpa [declareStall_eq] using present,
      (abandonSweep_undisturbed _).dry.compOff (immediateStop_comp _)⟩
  · exact stopped.follows kept
  · exact stopped.swept.follows ended

/-! ### The stall check (R31, R34) -/

theorem exec_stallCheck (s : State) (h : s.phase = .running) : exec .stallCheck s = .next (stallCheck s) := by
  simp [exec, execStallCheck, whenRunning, h]

theorem cleanRunInUse_iff (s : State) :
    cleanRunInUse s = true ↔ 0 < s.air.retries ∨ hasFlag s.notice.conditions .fanStall = true := by
  simp [cleanRunInUse]

/-- R34: a clean run is counted while its timer is in use and the fan turns under drive. -/
theorem cleanRunAfter_of_clean (s : State) (hu : 0 < s.air.retries ∨ hasFlag s.notice.conditions .fanStall = true)
    (hf : s.air.fan = .run) (hd : 31 ≤ s.air.effective) (hr : 0 < s.front.tach.rpm) :
    cleanRunAfter s = s.air.cleanRun + 1 := by
  rw [cleanRunAfter, if_pos ((cleanRunInUse_iff s).2 hu), AirMover.nextCleanRun, if_pos ⟨hf, hd, hr⟩]

theorem cleanRunAfter_of_unclean (s : State) (h : s.air.fan ≠ .run ∨ s.air.effective < 31 ∨ s.front.tach.rpm = 0
    ∨ (s.air.retries = 0 ∧ hasFlag s.notice.conditions .fanStall = false)) : cleanRunAfter s = 0 := by
  unfold cleanRunAfter
  split
  case isFalse => rfl
  case isTrue hu =>
    have unclean : ¬ (s.air.fan = .run ∧ 31 ≤ s.air.effective ∧ 0 < s.front.tach.rpm) := by
      rintro ⟨hf, hd, hr⟩
      obtain h | h | h | ⟨h, h'⟩ := h
      · exact h hf
      · omega
      · omega
      · simp [cleanRunInUse, h, h'] at hu
    simp [AirMover.nextCleanRun, unclean]

/-- R31, R34: a check that completes neither run counts both. -/
theorem stallCheck_of_counting (s : State) (hz : s.air.zeroRun < 30) (hc : cleanRunAfter s ≤ 600) :
    stallCheck s = stallCounted s := by
  have zero : s.air.nextZeroRun s.front.tach.rpm ≤ 30 := by
    unfold AirMover.nextZeroRun
    split <;> omega
  have noStall : s.air.stallsAt s.front.tach.rpm = false := by
    simp only [AirMover.stallsAt, decide_eq_false_iff_not]
    omega
  rw [stallCheck_eq, if_neg (by simp [noStall]), if_neg (by omega)]

theorem completeCleanRun_spec (s : State) :
    (completeCleanRun s).air.retries = 0 ∧ (completeCleanRun s).air.cleanRun = 0
      ∧ (s.air.zeroRun = 0 → (completeCleanRun s).air.zeroRun = 0)
      ∧ hasFlag (completeCleanRun s).notice.conditions .fanStall = false
      ∧ (completeCleanRun s).notice.latched = s.notice.latched ∧ (completeCleanRun s).dry.fanStall = false := by
  obtain ⟨air, present, dry⟩ := reportFanStall_spec false (s.setAir { s.air with retries := 0, cleanRun := 0 })
  exact ⟨air.retries, air.cleanRun, air.noZeroRun, present, by simp [completeCleanRun, reportFanStall], dry⟩

/-- Settles O19: the check by its three outcomes, each with what the outcome leaves. -/
theorem stallCheckSupervisesFan : Obligations.StallCheckSupervisesFan := by
  refine ⟨fun s hrun harmed hrpm hzero => ?stall, fun s hrun hzero hclean => ?count,
    fun s hrun hclean hfan hduty hrpm huse => ?ends⟩
  case stall =>
    have stalls : s.air.stallsAt s.front.tach.rpm = true := by
      simp [AirMover.stallsAt, AirMover.nextZeroRun, harmed, hrpm, hzero]
    obtain ⟨stall, sweep, present, stopped⟩ := declareStall_spec s
    refine ⟨_, exec_stallCheck s hrun, ?_⟩
    rw [stallCheck_eq, if_pos stalls]
    refine ⟨stall.retries, stall.fan, fun h => stall.wait.trans (if_neg (by omega)), stall.duty, stall.ramp,
      stall.unsettled, stall.disarmed, stall.noZeroRun, stall.noCleanRun, sweep, present,
      by simpa [State.compPin] using stopped, ?_⟩
    simp
  case count =>
    have few : cleanRunAfter s ≤ 600 := by
      obtain h | h := hclean
      · unfold cleanRunAfter AirMover.nextCleanRun
        split_ifs <;> omega
      · rw [cleanRunAfter_of_unclean s h]
        omega
    refine ⟨_, exec_stallCheck s hrun, ?_⟩
    rw [stallCheck_of_counting s hzero few]
    refine ⟨rfl, fun ha hr => by simp [stallCounted, AirMover.nextZeroRun, ha, hr], fun h => ?_,
      cleanRunAfter_of_clean s, cleanRunAfter_of_unclean s, rfl, rfl, rfl, rfl⟩
    obtain h | h := h
    · simp [stallCounted, AirMover.nextZeroRun, h]
    · simp [stallCounted, AirMover.nextZeroRun, Nat.ne_of_gt h]
  case ends =>
    have noZero : s.air.nextZeroRun s.front.tach.rpm = 0 := by simp [AirMover.nextZeroRun, Nat.ne_of_gt hrpm]
    have complete : 601 ≤ cleanRunAfter s := by
      rw [cleanRunAfter_of_clean s huse hfan hduty hrpm]
      omega
    obtain ⟨retries, clean, zero, present, latched, dry⟩ := completeCleanRun_spec (stallCounted s)
    refine ⟨_, exec_stallCheck s hrun, ?_⟩
    rw [stallCheck_eq, if_neg (by simp [AirMover.stallsAt, noZero]), if_pos complete]
    refine ⟨retries, clean, zero noZero, present, latched, dry, ?_⟩
    simp [onlyBlocks, stallCounted]

end Sys2Proof.Machine
end

section
/-! SUPPORT. The readings of a sweep point, its result and the end of the sweep (R44 to R46), with their statement. -/

namespace Sys2Proof.Machine

/-! ### A save request (R148) -/

theorem StoredImages.mem_request (x : StoredImages) (j : Job) (h : x.movePending = false) : j ∈ (x.request j).queue := by
  unfold StoredImages.request
  rw [if_neg (by simp [h])]
  split
  case isTrue hq => simpa using hq
  case isFalse => simp

theorem mem_requestJob (j : Job) (s : State) (h : s.store.movePending = false) :
    j ∈ (requestJob j s).store.queue := by
  have queue := ((s.store.request j).ask_keeps s.pins.holdAck).1
  simp only [requestJob, State.setStore_store, queue]
  exact s.store.mem_request j h

/-! ### What an evaluation of W leaves in the stored-image unit (R59) -/

theorem reportRise_store (stage : Stage) (s : State) :
    (reportRise stage s).store = { s.store with changed := true } := by
  simp only [reportRise]
  split
  · rfl
  · rfl
  · simp [markChanged]

/-- R59: an evaluation of W touches the record-changed mark alone, and only sets it. -/
theorem evaluateFilter_store (s : State) : ∃ changed, (evaluateFilter s).store = { s.store with changed := changed }
    ∧ (s.store.changed = true → changed = true) := by
  simp only [evaluateFilter]
  split
  · exact ⟨s.store.changed, rfl, id⟩
  · exact ⟨true, reportRise_store _ _, fun _ => rfl⟩

/-! ### The phases of a sweep point (R44) -/

theorem measurePoint_spec (i : Nat) (s : State) (hi : i < 8) :
    (measurePoint i s).air.learn = some (dutyPoint i) ∧ (measurePoint i s).air.scratch = s.air.scratch
      ∧ (measurePoint i s).cmd = { s.cmd with progress := 2 + i } ∧ (measurePoint i s).lamps.progress = 2 + i := by
  have kept := s.air.measure_kept i
  have cmd : (measurePoint i s).cmd = s.cmd.newProgress (2 + i) := by simp [measurePoint, reportProgress]
  rw [measurePoint_air]
  exact ⟨kept.learn, kept.scratch, cmd.trans (s.cmd.newProgress_of_measuring (by omega)), rfl⟩

theorem exec_learnHoldExpiry (s : State) {i : Nat} (hsweep : s.air.sweep = .measuring i .hold)
    (ht : s.air.learnTimer.isSome = true) :
    exec .learnHoldExpiry s = .next (s.setAir
      { s.air with sweep := .measuring i (.readings [s.front.tach.rpm]), learnTimer := startTimer 500 }) := by
  simp [exec, execLearnHoldExpiry, ht, learnHoldExpiry, hsweep]

theorem exec_learnReading (s : State) {i : Nat} {taken : List Nat} (hsweep : s.air.sweep = .measuring i (.readings taken))
    (ht : s.air.learnTimer.isSome = true) :
    exec .learnReading s = .next
      (if (taken ++ [s.front.tach.rpm]).length < 4 then
        s.setAir { s.air with
          sweep := .measuring i (.readings (taken ++ [s.front.tach.rpm])), learnTimer := startTimer 500 }
      else placeResult i (taken ++ [s.front.tach.rpm]) s) := by
  simp [exec, execLearnReading, ht, learnReading, hsweep]

/-! ### The result of a point and the completion (R44, R45) -/

/-- The air mover with the new baseline and no restriction held, its sweep ended. -/
def AirMover.relearned (a : AirMover) (results : List Nat) : AirMover :=
  AirMover.endSweep { a with baseline := results.map some, q := 0 }

/-- A completing sweep up to the evaluation of W. -/
def sweepJudged (results : List Nat) (s : State) : State :=
  evaluateFilter (markIf (decide (results.map some ≠ s.air.baseline) || decide (s.air.q ≠ 0))
    (s.setAir (s.air.relearned results)))

theorem completeSweep_eq (results : List Nat) (s : State) :
    completeSweep results s = requestJob .wearSave (sweepTold 10 (sweepJudged results s)) := rfl

theorem sweepJudged_movePending (results : List Nat) (s : State) :
    (sweepJudged results s).store.movePending = s.store.movePending := by
  obtain ⟨changed, store, -⟩ := evaluateFilter_store
    (markIf (decide (results.map some ≠ s.air.baseline) || decide (s.air.q ≠ 0)) (s.setAir (s.air.relearned results)))
  rw [sweepJudged, store]
  unfold markIf
  split <;> rfl

/-- R45: a completed sweep, at every block that is told. -/
theorem completeSweep_spec (results : List Nat) (s : State) :
    (completeSweep results s).air.baseline = results.map some ∧ (completeSweep results s).air.q = 0
      ∧ (completeSweep results s).air.sweep = .none ∧ (completeSweep results s).air.scratch = []
      ∧ (completeSweep results s).air.learn = none ∧ (completeSweep results s).cmd.progress = 10
      ∧ (completeSweep results s).dry.learnPending = false
      ∧ (s.store.movePending = false → .wearSave ∈ (completeSweep results s).store.queue) := by
  have ended := AirMover.endSweep_kept { s.air with baseline := results.map some, q := 0 }
  have judged : (s.air.relearned results).Follows (sweepJudged results s).air :=
    ((markIf_followOn _ (s.setAir (s.air.relearned results))).trans (evaluateFilter_followOn _)).air
  obtain ⟨sweep, scratch, learn⟩ := AirMover.endSweep_fields { s.air with baseline := results.map some, q := 0 }
  obtain ⟨told, -, progress, -, dry⟩ := sweepTold_spec 10 (sweepJudged results s) (judged.sweepIdle sweep)
  have air := judged.trans told
  have pending : (sweepTold 10 (sweepJudged results s)).store.movePending = s.store.movePending := by
    simp [sweepTold, sweepJudged_movePending]
  rw [completeSweep_eq]
  simp only [requestJob_keeps]
  exact ⟨air.baseline.trans ended.baseline, air.q.trans ended.q, air.sweepIdle sweep, air.scratch.trans scratch,
    (air.learnIdle sweep).trans learn, progress, dry, fun h => mem_requestJob _ _ (pending.trans h)⟩

/-- Settles O21: the hold's expiry takes the first reading, a reading short of four is kept, and the fourth gives the
result, which goes on to the next point, completes the sweep or abandons it. -/
theorem sweepTakesReadings : Obligations.SweepTakesReadings := by
  refine ⟨fun i s hsweep ht => ⟨_, exec_learnHoldExpiry s hsweep ht, rfl, rfl, rfl⟩, fun i taken s hsweep ht => ?_⟩
  have frame : (learnReading s).tank = s.tank ∧ onlyBlocks s (learnReading s) := by simp [onlyBlocks]
  have reading : exec .learnReading s = .next (learnReading s) := by simp [exec, execLearnReading, ht]
  have eq := Host.Outcome.next.inj (reading.symm.trans (exec_learnReading s hsweep ht))
  have length : (taken ++ [s.front.tach.rpm]).length = taken.length + 1 := by simp
  have sum : (taken ++ [s.front.tach.rpm]).sum = taken.sum + s.front.tach.rpm := by simp
  have fourth (h3 : taken.length = 3) : learnReading s = placeResult i (taken ++ [s.front.tach.rpm]) s := by
    rw [eq, if_neg (by omega)]
  refine ⟨_, reading, fun h => ?few, fun h3 h4 hi => ?next, fun h3 h4 hi => ?complete, fun h3 h4 => ?abandon, frame⟩
  case few =>
    rw [eq, if_pos (by omega)]
    exact ⟨rfl, rfl, rfl⟩
  case next =>
    rw [fourth h3]
    simp only [placeResult, sum]
    rw [if_neg (by omega), if_pos hi]
    obtain ⟨learn, scratch, cmd, lamps⟩ := measurePoint_spec (i + 1)
      (s.setAir { s.air with scratch := s.air.scratch ++ [(taken.sum + s.front.tach.rpm) / 4] }) (by omega)
    refine ⟨scratch, learn, ?_, lamps.trans (by omega)⟩
    rw [cmd]
    show 2 + (i + 1) = i + 3
    omega
  case complete =>
    rw [fourth h3]
    simp only [placeResult, sum]
    rw [if_neg (by omega), if_neg (by omega)]
    exact completeSweep_spec _ s
  case abandon =>
    obtain ⟨air, sweep, learn, -, progress, -, dry, latched⟩ := abandonSweep_spec s (by simp [hsweep])
    rw [fourth h3]
    simp only [placeResult, sum]
    rw [if_pos (by omega)]
    exact ⟨air.baseline, sweep, air.scratch, learn, progress, dry, latched⟩

end Sys2Proof.Machine
end

section
/-! SUPPORT. The airflow period: the base of the baseline, the restriction, the airflow, and the wear index of a changed
restriction (R36 to R40, R55), with their statement. -/

namespace Sys2Proof.Machine

/-! ### The base (R37) -/

section Base

variable {baseline : List (Option Nat)} {d : Nat}

theorem baseAt_of_low (h : d < 31) : baseAt baseline d = none := by simp [baseAt, h]

theorem baseAt_of_top (h : 31 ≤ d) (hi : (d - 31) / 32 = 7) :
    baseAt baseline d = (baseline.getD 7 none).map fun v => (v : Int) := by
  simp only [baseAt, if_neg (Nat.not_lt.2 h), hi, if_true]
  cases baseline.getD 7 none <;> rfl

theorem baseAt_of_absent (h : 31 ≤ d) {i : Nat} (hi : i = (d - 31) / 32) (h7 : i < 7)
    (absent : baseline.getD i none = none ∨ baseline.getD (i + 1) none = none) : baseAt baseline d = none := by
  simp only [baseAt, if_neg (Nat.not_lt.2 h), ← hi, if_neg (Nat.ne_of_lt h7)]
  obtain absent | absent := absent
  · rw [absent]
  · rw [absent]
    split
    case h_1 hsome => cases hsome
    case h_2 => rfl

theorem baseAt_of_between (h : 31 ≤ d) {i lo hi : Nat} (hi' : i = (d - 31) / 32) (h7 : i < 7)
    (hlo : baseline.getD i none = some lo) (hhi : baseline.getD (i + 1) none = some hi) :
    baseAt baseline d = some ((lo : Int) + ((hi : Int) - lo) * ((d : Int) - (32 * i + 31)) / 32) := by
  simp only [baseAt, if_neg (Nat.not_lt.2 h), ← hi', if_neg (Nat.ne_of_lt h7), hlo, hhi, dutyPoint, Nat.cast_add,
    Nat.cast_mul, Nat.cast_ofNat]

end Base

/-! ### The restriction and the airflow (R38, R39) -/

theorem restriction_of_le {rpm : Nat} {b : Int} (h : (rpm : Int) ≤ b) : restriction rpm b = 0 := by
  rw [restriction, if_pos (by omega)]

theorem restriction_of_lt {rpm : Nat} {b : Int} (hb : 1 ≤ b) (h : b < (rpm : Int)) :
    (restriction rpm b : Int) = min 255 (((rpm : Int) - b) * 1024 / b) := by
  have quotient : 0 ≤ ((rpm : Int) - b) * 1024 / b := Int.ediv_nonneg (by omega) (by omega)
  rw [restriction, if_neg (by omega), Int.toNat_of_nonneg (by omega)]

theorem AirMover.computedQ_of_measured (a : AirMover) (rpm : Nat) {b : Int} (hbase : baseAt a.baseline a.effective = some b)
    (hb : 1 ≤ b) (hs : a.settled = true) : a.computedQ true rpm = some (restriction rpm b) := by
  simp [AirMover.computedQ, hbase, hs, hb]

theorem AirMover.computedQ_of_unmeasured (a : AirMover) (valid : Bool) (rpm : Nat)
    (h : a.settled = false ∨ valid = false ∨ baseAt a.baseline a.effective = none
      ∨ ∃ b : Int, baseAt a.baseline a.effective = some b ∧ b < 1) : a.computedQ valid rpm = none := by
  unfold AirMover.computedQ
  split
  case h_1 => rfl
  case h_2 b hbase =>
    rw [if_neg]
    rintro ⟨hs, hv, hb⟩
    obtain h | h | h | ⟨c, h, hc⟩ := h
    · simp [hs] at h
    · simp [hv] at h
    · simp [hbase] at h
    · obtain rfl : b = c := by simpa [hbase] using h
      omega

/-! ### The reports of a period (R40, R59) -/

theorem evaluateFilter_filter (s : State) :
    (evaluateFilter s).filter = s.filter.evaluated s.path.working s.air.q := by
  simp only [evaluateFilter]
  split
  · rfl
  · simp

/-- R55, R56: W after an evaluation, with the stage by the thresholds, never lowered. -/
theorem FilterState.evaluated_spec (f : FilterState) (w : Settings) (q : Nat) :
    (f.evaluated w q).wear = wearIndex w f q
      ∧ ((f.evaluated w q).wear = 100 → (f.evaluated w q).stage = .exhausted)
      ∧ ((f.evaluated w q).wear < 100 → w.wworn ≤ (f.evaluated w q).wear → f.stage ≠ .exhausted →
          (f.evaluated w q).stage = .worn)
      ∧ ((f.evaluated w q).wear < 100 → (f.evaluated w q).wear < w.wworn ∨ f.stage = .exhausted →
          (f.evaluated w q).stage = f.stage) := by
  refine ⟨rfl, fun h => ?_, fun h hw hs => ?_, fun h hw => ?_⟩
  all_goals
    simp only [FilterState.evaluated] at h ⊢
    unfold impliedStage
  · rw [if_pos h]
    cases f.stage <;> rfl
  · rw [if_neg (by omega), if_pos (by exact hw)]
    cases hf : f.stage
    · rfl
    · rfl
    · exact absurd hf hs
  · rw [if_neg (by omega)]
    obtain hw | hw := hw
    · rw [if_neg (by simpa [FilterState.evaluated] using hw)]
      cases f.stage <;> rfl
    · rw [hw]
      split <;> rfl

theorem airflowReport_air (s : State) : s.air.Follows (airflowReport s).air := by
  have report (u : State) (b : Bool) : u.air.Follows (reportCondition .airflowLow b u).air :=
    (reportCondition_followOn _ _ u).air
  have started : s.air.Follows (enterRunning s).air :=
    (markIf_followOn _ (s.setDry s.dry.startRun)).air.trans (setComp_follows .running _).1
  unfold airflowReport
  split
  case h_1 =>
    split
    · exact started.trans (report _ _)
    · exact .refl _
  case h_2 hc =>
    split
    · exact (stopCompressor_followOn s hc).air.trans (report _ _)
    · split
      · exact report _ _
      · exact .refl _
  all_goals exact .refl _

/-- R149: an airflow report does not clear the record-changed mark. -/
theorem airflowReport_changed (s : State) (h : s.store.changed = true) : (airflowReport s).store.changed = true := by
  have started : (enterRunning s).store.changed = true := by
    simp only [enterRunning, setComp_keeps, markIf]
    split
    · rfl
    · exact h
  unfold airflowReport
  repeat' split
  all_goals simp [h, started]

/-- The part at a period before drying judges its report. -/
def periodJudged (s : State) : State :=
  let a := s.air.airflowPeriod s.path.working s.front.tach.valid s.front.tach.rpm
  if a.q = s.air.q then s.setAir a else evaluateFilter (markChanged (s.setAir a))

theorem airflowPeriod_eq (s : State) : airflowPeriod s = airflowReport (periodJudged s) := by
  simp [airflowPeriod, periodJudged, ite_not]

theorem periodJudged_air (s : State) :
    (s.air.airflowPeriod s.path.working s.front.tach.valid s.front.tach.rpm).Follows (periodJudged s).air := by
  simp only [periodJudged]
  split
  · exact .refl _
  · exact ((markChanged_followOn (s.setAir _)).trans (evaluateFilter_followOn _)).air

theorem periodJudged_filter (s : State) :
    (periodJudged s).filter
      = if (s.air.airflowPeriod s.path.working s.front.tach.valid s.front.tach.rpm).q = s.air.q then s.filter
        else s.filter.evaluated s.path.working
          (s.air.airflowPeriod s.path.working s.front.tach.valid s.front.tach.rpm).q := by
  simp only [periodJudged]
  split
  · rfl
  · rw [evaluateFilter_filter]
    rfl

theorem periodJudged_changed (s : State)
    (h : (s.air.airflowPeriod s.path.working s.front.tach.valid s.front.tach.rpm).q ≠ s.air.q) :
    (periodJudged s).store.changed = true := by
  simp only [periodJudged, if_neg h]
  obtain ⟨changed, store, kept⟩ := evaluateFilter_store
    (markChanged (s.setAir (s.air.airflowPeriod s.path.working s.front.tach.valid s.front.tach.rpm)))
  rw [store]
  exact kept rfl

theorem exec_airflowPeriod (s : State) (h : s.phase = .running) : exec .airflowPeriod s = .next (airflowPeriod s) := by
  simp [exec, execAirflowPeriod, whenRunning, h]

/-- Settles O20: Q, F and the confirmation are those of the air mover's own period, and the reports that follow it keep
them; W is that of the evaluation a changed Q asks for. -/
theorem airflowPeriodFormsQAndF : Obligations.AirflowPeriodFormsQAndF := by
  intro s hrun
  have air := (periodJudged_air s).trans (airflowReport_air (periodJudged s))
  have filter := periodJudged_filter s
  have changed := periodJudged_changed s
  generalize ha : s.air.airflowPeriod s.path.working s.front.tach.valid s.front.tach.rpm = a at air filter changed
  have frame : (airflowPeriod s).front = s.front ∧ (airflowPeriod s).tank = s.tank ∧ (airflowPeriod s).path = s.path
      ∧ (airflowPeriod s).memory = s.memory ∧ (airflowPeriod s).pending = s.pending := by simp
  refine ⟨_, exec_airflowPeriod s hrun, ?_⟩
  rw [airflowPeriod_eq] at frame ⊢
  rw [air.q, air.confirmed, air.airflow, (airflowReport_keeps _).1, filter]
  refine ⟨fun b hbase hb hs hv => ?measured, fun h => ?unmeasured, baseAt_of_low, fun h31 i hi => ?base, ?airflow,
    fun h0 => ?still, fun h => airflowReport_changed _ (changed h), fun h => if_pos h, fun h => ?wear, frame⟩
  case measured =>
    have computed := s.air.computedQ_of_measured s.front.tach.rpm hbase hb hs
    have q : a.q = restriction s.front.tach.rpm b := by simp [← ha, AirMover.airflowPeriod, hv, computed]
    refine ⟨by simp [← ha, AirMover.airflowPeriod, hv, computed], fun h => q.trans (restriction_of_le h), fun h => ?_⟩
    rw [q]
    exact restriction_of_lt hb h
  case unmeasured =>
    simp [← ha, AirMover.airflowPeriod, s.air.computedQ_of_unmeasured _ s.front.tach.rpm h]
  case base =>
    exact ⟨fun h7 => baseAt_of_top h31 (hi ▸ h7), fun h7 => ⟨baseAt_of_absent h31 hi h7,
      fun lo hi' => baseAt_of_between h31 hi h7⟩⟩
  case airflow => rw [← ha]; rfl
  case still => simp [← ha, AirMover.airflowPeriod, airflowAt, nominalAirflow, h0]
  case wear =>
    rw [if_neg h]
    obtain ⟨wear, exhausted, worn, kept⟩ := s.filter.evaluated_spec s.path.working a.q
    exact ⟨rfl, wear, exhausted, worn, kept⟩

end Sys2Proof.Machine
end

section
/-! SUPPORT. What a write of the command cell does before its command is judged (R131, R163, R168), and the sweep's two
commands (R42, R46), with their statement. -/

namespace Sys2Proof.Machine

/-! ### The command cell -/

/-- The part with a code taken from the command cell, before the command is judged. -/
def commandNoted (code : Byte) (s : State) : State :=
  (noteCommand code (busWrite (address s.path.page 0x40#8) 0 (takenWriteWaits s.path.working) s)).setPath
    { s.path with armed := decide (code = codeRestartArm) }

/-- R131, R163: a code that begins no restart is noted and judged. -/
theorem windowWrite_commandCell (code : Byte) (s : State) (hs : s.takesCycles = true) (hc : code ≠ codeRestart) :
    windowWrite 0x40#8 code s = judgeCommand code (commandNoted code s) := by
  have place : classify s.path.page (address s.path.page 0x40#8) = .commandCell := classify_address _ _ (by decide)
  simp only [windowWrite_eq _ _ _ hs, controllerWrite, place, commandByte, hc, and_false, if_false]
  rfl

@[simp] theorem commandNoted_keeps (code : Byte) (s : State) :
    (commandNoted code s).air = s.air ∧ (commandNoted code s).filter = s.filter ∧ (commandNoted code s).dry = s.dry
      ∧ (commandNoted code s).tank = s.tank ∧ (commandNoted code s).notice = s.notice
      ∧ (commandNoted code s).lamps = s.lamps ∧ (commandNoted code s).store = s.store := by
  exact ⟨rfl, rfl, rfl, rfl, rfl, rfl, rfl⟩

@[simp] theorem commandNoted_path (code : Byte) (s : State) :
    (commandNoted code s).path = { s.path with armed := decide (code = codeRestartArm) } := rfl

theorem commandNoted_cmd (code : Byte) (s : State) :
    (commandNoted code s).cmd = CommandBlock.restartSupervision { s.cmd with lastCode := code } s.path.working := rfl

/-- R168: in NORMAL the count begins again under the working interval. -/
theorem CommandBlock.restartSupervision_of_normal {c : CommandBlock} (h : c.mode = .normal) (w : Settings) :
    c.restartSupervision w = { c with
      count := w.supervisionInterval
      counting := if w.supervisionInterval = 0 then none else startTimer 1000 } := by
  obtain ⟨⟩ := c
  cases h
  rfl

/-- R168: in STANDALONE no count runs. -/
theorem CommandBlock.restartSupervision_of_standalone {c : CommandBlock} (h : c.mode = .standalone) (w : Settings) :
    c.restartSupervision w = c := by
  obtain ⟨⟩ := c
  cases h
  rfl

/-- R168: a restart of supervision moves its count alone. -/
@[simp] theorem CommandBlock.restartSupervision_keeps (c : CommandBlock) (w : Settings) :
    (c.restartSupervision w).lastCode = c.lastCode ∧ (c.restartSupervision w).mode = c.mode
      ∧ (c.restartSupervision w).allStop = c.allStop ∧ (c.restartSupervision w).progress = c.progress := by
  unfold CommandBlock.restartSupervision
  split <;> exact ⟨rfl, rfl, rfl, rfl⟩

/-- R163: an accepted command's outcome is the command block's alone. -/
@[simp] theorem accept_blocks (status : CommandStatus) (awaited : Awaited) (s : State) :
    (accept status awaited s).cmd = s.cmd.outcome status awaited ∧ (accept status awaited s).path = s.path
      ∧ (accept status awaited s).air = s.air ∧ (accept status awaited s).filter = s.filter
      ∧ (accept status awaited s).dry = s.dry ∧ (accept status awaited s).tank = s.tank
      ∧ (accept status awaited s).notice = s.notice ∧ (accept status awaited s).store = s.store :=
  ⟨rfl, rfl, rfl, rfl, rfl, rfl, rfl, rfl⟩

/-- R163: a command that leaves the front end, the memory path, the pins, the memory and the last code as it found them is
taken. -/
theorem commandTaken_of {code : Byte} {s t : State} (hm : s.memory.wf = true) (blocks : onlyBlocks (commandNoted code s) t)
    (lastCode : t.cmd.lastCode = (commandNoted code s).cmd.lastCode) : commandTaken code s t := by
  obtain ⟨phase, delay, pins, front, path, -, memory, pending⟩ := blocks
  have cell : t.memory = s.memory.write (address s.path.page 0x40#8).toNat 0 := memory
  refine ⟨?_, by simpa [commandNoted_cmd] using lastCode, path, front, pins, phase, delay, pending⟩
  constructor
  · simp [cell, Memory.read_write _ _ _ hm]
  · intro a ha
    simp [cell, Memory.read_write _ _ _ hm, ha]

/-- R168: a command that keeps the settings and the supervision count it found leaves supervision restarted. -/
theorem supervisionRestarted_of {code : Byte} {s t : State} (path : t.path = (commandNoted code s).path)
    (count : t.cmd.count = (commandNoted code s).cmd.count)
    (counting : t.cmd.counting = (commandNoted code s).cmd.counting) : supervisionRestarted s t := by
  have noted : CommandBlock.mode { s.cmd with lastCode := code } = s.cmd.mode := rfl
  rw [supervisionRestarted, path, count, counting, commandNoted_cmd]
  refine ⟨fun mode => ?_, fun mode => ?_⟩
  · rw [CommandBlock.restartSupervision_of_normal (noted.trans mode)]
    exact ⟨rfl, rfl⟩
  · rw [CommandBlock.restartSupervision_of_standalone (noted.trans mode)]
    exact ⟨rfl, rfl⟩

/-! ### Drying's rules where they do not act -/

/-- R80: a RUNNING compressor short of its min run is left to run. -/
theorem judgeDrying_of_running (s : State) (h : s.dry.comp = .running) (run : s.dry.runTime < s.path.working.minRunSeconds) :
    judgeDrying s = s := by
  have early : ¬ s.path.working.minRunSeconds ≤ s.dry.runTime := by omega
  have deferred : judgeDeferred s = s := by simp [judgeDeferred, early]
  simp [judgeDrying, deferred, judgeHold, judgeStart, h]

theorem judgeDrying_of_defrost (s : State) (h : s.dry.comp = .defrost) : judgeDrying s = s := by
  have deferred : judgeDeferred s = s := by simp [judgeDeferred, h]
  simp [judgeDrying, deferred, judgeHold, judgeStart, h]

/-- R73, R74: from OFF_HOLD a pending sweep lets drying come as far as OFF_READY. -/
theorem judgeDrying_of_offHold (s : State) (h : s.dry.comp = .offHold) (pending : s.dry.learnPending = true) :
    judgeDrying s = s ∨ judgeDrying s = setComp .offReady s := by
  have deferred : judgeDeferred s = s := by simp [judgeDeferred, h]
  by_cases done : s.dry.holdDone s.path.working = true
  · exact .inr (by simp [judgeDrying, deferred, judgeHold, judgeStart, h, done, startHolds, permissions, pending])
  · exact .inl (by simp [judgeDrying, deferred, judgeHold, judgeStart, h, done])

/-! ### The start of a sweep (R42, R43) -/

/-- The part with the scratch table empty and drying told that a sweep is pending, before drying acts on it. -/
def sweepNoted (s : State) : State := (s.setAir { s.air with scratch := [] }).setDry { s.dry with learnPending := true }

@[simp] theorem sweepNoted_blocks (s : State) :
    (sweepNoted s).air = { s.air with scratch := [] } ∧ (sweepNoted s).dry = { s.dry with learnPending := true }
      ∧ (sweepNoted s).cmd = s.cmd ∧ (sweepNoted s).path = s.path := ⟨rfl, rfl, rfl, rfl⟩

/-- The part as a sweep chooses between waiting and measuring. -/
def sweepAsked (s : State) : State := judgeDrying (sweepNoted s)

theorem startSweep_eq (s : State) :
    startSweep s = if (sweepAsked s).air.compressor.occupied || !(sweepAsked s).air.doorClosed then
        reportProgress 1 ((sweepAsked s).setAir { (sweepAsked s).air with sweep := .waiting })
      else measurePoint 0 (sweepAsked s) := rfl

theorem startSweep_of_waiting (s : State)
    (h : (sweepAsked s).air.compressor.occupied = true ∨ (sweepAsked s).air.doorClosed = false) :
    startSweep s = reportProgress 1 ((sweepAsked s).setAir { (sweepAsked s).air with sweep := .waiting }) := by
  rw [startSweep_eq, if_pos (by simpa using h)]

theorem startSweep_of_free (s : State) (free : (sweepAsked s).air.compressor.occupied = false)
    (closed : (sweepAsked s).air.doorClosed = true) : startSweep s = measurePoint 0 (sweepAsked s) := by
  rw [startSweep_eq, if_neg (by simp [free, closed])]

theorem sweepAsked_followOn (s : State) : FollowOn (sweepNoted s) (sweepAsked s) := judgeDrying_followOn _

/-- The compressor stays where a sweep waits for it: RUNNING short of its min run, or DEFROST. -/
theorem sweepAsked_occupied (s : State) (h : s.air.compressor = .running ∨ s.air.compressor = .defrost)
    (comp : s.dry.comp = s.air.compressor) (run : s.dry.runTime < s.path.working.minRunSeconds) :
    (sweepAsked s).air.compressor.occupied = true := by
  obtain h | h := h
  · rw [sweepAsked, judgeDrying_of_running (sweepNoted s) (comp.trans h) run]
    simp [h, CompState.occupied]
  · rw [sweepAsked, judgeDrying_of_defrost (sweepNoted s) (comp.trans h)]
    simp [h, CompState.occupied]

theorem sweepAsked_free (s : State) (idle : s.air.sweep = .none) (comp : s.dry.comp = .offHold)
    (air : s.air.compressor = .offHold) : (sweepAsked s).air.compressor.occupied = false := by
  obtain same | ready := judgeDrying_of_offHold (sweepNoted s) comp rfl
  · rw [sweepAsked, same]
    simp [air, CompState.occupied]
  · rw [sweepAsked, ready, setComp_of_idle _ (sweepNoted s) idle]
    simp [compTold, (AirMover.takeCompressor_kept _ _ _).compressor, AirMover.compressorSlots, CompState.occupied]

/-- R42: what the start of a sweep keeps, and what it tells. -/
theorem startSweep_spec (s : State) :
    (startSweep s).air.baseline = s.air.baseline ∧ (startSweep s).air.q = s.air.q ∧ (startSweep s).air.scratch = []
      ∧ s.cmd.Follows (startSweep s).cmd ∧ (startSweep s).dry.learnPending = true := by
  have air := (sweepAsked_followOn s).air
  have cmd := (sweepAsked_followOn s).cmd
  have pending := (sweepAsked_followOn s).dry.learnPending
  have progressed (p : Nat) : (sweepAsked s).cmd.Follows { (sweepAsked s).cmd with progress := p } := by constructor <;> simp
  by_cases wait : (sweepAsked s).air.compressor.occupied = true ∨ (sweepAsked s).air.doorClosed = false
  · rw [startSweep_of_waiting s wait]
    refine ⟨by simpa using air.baseline, by simpa using air.q, by simpa using air.scratch, ?_,
      by simpa using pending⟩
    simpa [reportProgress, CommandBlock.newProgress_of_measuring] using cmd.trans (progressed 1)
  · obtain ⟨free, closed⟩ := not_or.1 wait
    obtain ⟨-, scratch, point, -⟩ := measurePoint_spec 0 (sweepAsked s) (by decide)
    have kept := (sweepAsked s).air.measure_kept 0
    rw [startSweep_of_free s (by simpa using free) (by simpa using closed), measurePoint_air, point]
    exact ⟨kept.baseline.trans air.baseline, kept.q.trans air.q, kept.scratch.trans air.scratch, cmd.trans (progressed 2),
      by simpa using pending⟩

/-- R43: a sweep waits for the compressor and for the door, at progress 1. -/
theorem startSweep_waiting (s : State) (idle : s.air.sweep = .none)
    (h : s.air.compressor = .running ∨ s.air.compressor = .defrost ∨ s.air.doorClosed = false)
    (comp : s.dry.comp = s.air.compressor) (run : s.dry.runTime < s.path.working.minRunSeconds) :
    (startSweep s).air.sweep = .waiting ∧ (startSweep s).cmd.progress = 1 ∧ (startSweep s).air.learn = s.air.learn := by
  have air := (sweepAsked_followOn s).air
  have wait : (sweepAsked s).air.compressor.occupied = true ∨ (sweepAsked s).air.doorClosed = false := by
    obtain h | h | h := h
    · exact .inl (sweepAsked_occupied s (.inl h) comp run)
    · exact .inl (sweepAsked_occupied s (.inr h) comp run)
    · exact .inr (air.doorClosed.trans h)
  rw [startSweep_of_waiting s wait]
  simpa [reportProgress, CommandBlock.newProgress_progress] using air.learnIdle idle

/-- R43, R44: a sweep that waits for nothing measures its first point, at progress 2. -/
theorem startSweep_measuring (s : State) (idle : s.air.sweep = .none) (comp : s.dry.comp = .offHold)
    (compressor : s.air.compressor = .offHold) (closed : s.air.doorClosed = true) :
    (startSweep s).cmd.progress = 2 ∧ (startSweep s).air.learn = some 31 := by
  obtain ⟨learn, -, point, -⟩ := measurePoint_spec 0 (sweepAsked s) (by decide)
  rw [startSweep_of_free s (sweepAsked_free s idle comp compressor) ((sweepAsked_followOn s).air.doorClosed.trans closed), point]
  exact ⟨rfl, learn⟩

/-! ### The commands of the sweep -/

theorem exec_learnBaseline (s : State) (hs : s.takesCycles = true) (idle : s.air.sweep = .none)
    (mode : s.cmd.mode = .normal) (fan : s.air.fan ≠ .stallLockout) :
    exec .learnBaseline s = .next (startSweep (accept .inProgress .sweep (commandNoted 0x12#8 s))) := by
  have judged : exec .learnBaseline s = .next (judgeCommand codeLearnBaseline (commandNoted codeLearnBaseline s)) := by
    rw [← windowWrite_commandCell _ s hs (by decide)]
    rfl
  have accepted : learnBaseline (commandNoted 0x12#8 s)
      = startSweep (accept .inProgress .sweep (commandNoted 0x12#8 s)) := by
    simp [learnBaseline, sweepBusy, idle, mode, fan, commandNoted_cmd]
  rw [judged, ← accepted]
  rfl

theorem exec_abortLearn (s : State) (hs : s.takesCycles = true) (busy : s.air.sweep ≠ .none) :
    exec .abortLearn s = .next (abandonSweep (accept .done .none (commandNoted 0x13#8 s))) := by
  have judged : exec .abortLearn s = .next (judgeCommand codeAbortLearn (commandNoted codeAbortLearn s)) := by
    rw [← windowWrite_commandCell _ s hs (by decide)]
    rfl
  have accepted : abortLearn (commandNoted 0x13#8 s) = abandonSweep (accept .done .none (commandNoted 0x13#8 s)) :=
    if_pos (by simp [sweepBusy, busy])
  rw [judged, ← accepted]
  rfl

/-- Settles O55: the start by what it asks of drying and where it leaves the sweep, the abort by the abandoned sweep. -/
theorem learnCommandsDriveSweep : Obligations.LearnCommandsDriveSweep := by
  refine ⟨fun s hs hm idle mode fan => ?start, fun s hs hm busy => ?abort⟩
  case start =>
    obtain ⟨baseline, q, scratch, cmd, pending⟩ := startSweep_spec (accept .inProgress .sweep (commandNoted 0x12#8 s))
    refine ⟨_, exec_learnBaseline s hs idle mode fan, commandTaken_of hm (by simp [onlyBlocks, accept]) cmd.lastCode,
      supervisionRestarted_of (by simp) cmd.count cmd.counting, cmd.status, cmd.awaited, pending, scratch,
      fun h comp run => ?_, fun comp compressor closed => ?_, baseline, q, by simp, by simp,
      by simp, by simp⟩
    · exact startSweep_waiting _ idle h comp run
    · exact startSweep_measuring _ idle comp compressor closed
  case abort =>
    obtain ⟨air, sweep, learn, cmd, progress, lamps, pending, aborted⟩ :=
      abandonSweep_spec (accept .done .none (commandNoted 0x13#8 s)) busy
    refine ⟨_, exec_abortLearn s hs busy, commandTaken_of hm (by simp [onlyBlocks, accept]) cmd.lastCode,
      supervisionRestarted_of (by simp) cmd.count cmd.counting, cmd.status, cmd.awaited, progress, lamps, sweep,
      air.scratch, learn, pending, aborted, air.baseline, air.q, by simp, by simp, by simp⟩

end Sys2Proof.Machine
end

section
/-! SUPPORT. The flags a report leaves as they are (R110, R111), and CLEAR_LOCKOUT at drying and at the air mover (R35, R90),
with its statement. -/

namespace Sys2Proof.Machine

/-! ### Other flags than the one reported -/

theorem Flag.ofNat_number (f : Flag) : Flag.ofNat (f.number - 1) = f := by
  cases f <;> rfl

theorem Flag.number_ne {f g : Flag} (h : f ≠ g) : g.number - 1 ≠ f.number - 1 := fun same =>
  h (by rw [← f.ofNat_number, ← same, g.ofNat_number])

theorem Flag.bit_other {f g : Flag} (h : f ≠ g) : f.bit.getLsbD (g.number - 1) = false := by
  have place := Flag.number_ne h
  simp only [Flag.bit, BitVec.getLsbD_shiftLeft, BitVec.getLsbD_one]
  simp only [Bool.and_eq_false_iff, decide_eq_false_iff_not, Bool.not_eq_false', decide_eq_true_eq]
  omega

theorem hasFlag_or_bit_of_ne (x : BitVec 24) {f g : Flag} (h : f ≠ g) : hasFlag (x ||| f.bit) g = hasFlag x g := by
  simp [hasFlag, Flag.bit_other h]

theorem hasFlag_and_not_bit_of_ne (x : BitVec 24) {f g : Flag} (h : f ≠ g) :
    hasFlag (x &&& ~~~f.bit) g = hasFlag x g := by
  simp only [hasFlag, BitVec.getLsbD_and, BitVec.getLsbD_not, Flag.bit_other h, g.number_sub_one_lt]
  simp

/-- R110, R111: the report of one condition leaves every other flag present or absent, latched or clear, as it was. -/
theorem hasFlag_condition_of_ne (n : NoticeUnit) {f g : Flag} (b : Bool) (h : f ≠ g) :
    hasFlag (n.condition f b).conditions g = hasFlag n.conditions g
      ∧ hasFlag (n.condition f b).latched g = hasFlag n.latched g := by
  unfold NoticeUnit.condition
  split
  · split
    · exact ⟨rfl, rfl⟩
    · exact ⟨hasFlag_or_bit_of_ne _ h, hasFlag_or_bit_of_ne _ h⟩
  · exact ⟨hasFlag_and_not_bit_of_ne _ h, rfl⟩

theorem reportCondition_notice (f : Flag) (b : Bool) (s : State) :
    (reportCondition f b s).notice = s.notice.condition f b := by
  simp [reportCondition, setCondition]

/-! ### The hold of a freed compressor (R73, R90) -/

theorem Drying.holdDone_eq_false (d : Drying) (w : Settings) :
    d.holdDone w = false ↔ d.offTime < w.minOffSeconds ∨ d.extraHold.isSome = true := by
  simp only [Drying.holdDone, Bool.and_eq_false_iff, decide_eq_false_iff_not, Nat.not_le, Option.isNone_eq_false_iff]

/-- R73: with its times done no compressor is in OFF_HOLD after the hold is judged. -/
theorem judgeHold_comp_of_done (s : State) (done : s.dry.holdDone s.path.working = true) :
    (judgeHold s).dry.comp ≠ .offHold := by
  have late : ¬ s.dry.offTime < s.path.working.minOffSeconds := by
    simp only [Drying.holdDone, Bool.and_eq_true, decide_eq_true_eq] at done
    omega
  unfold judgeHold
  split
  · simp [done]
  all_goals simp [*]

/-- R75: the start permissions move no compressor into OFF_HOLD. -/
theorem judgeStart_comp_offHold (s : State) (h : (judgeStart s).dry.comp = .offHold) : s.dry.comp = .offHold := by
  unfold judgeStart at h
  split at h
  · split at h
    · simp at h
    · exact h
  · split at h
    · exact h
    · simp at h
  all_goals exact h

/-- The part with the compressor freed from its lockout, before the hold and the start are judged. -/
def lockoutFreed (s : State) : State :=
  reportCondition .compLockout false (setComp .offHold (s.setDry { s.dry with trips := [] }))

theorem dryingClearLockout_of_lockedOut (s : State) (h : s.dry.comp = .lockedOut) :
    dryingClearLockout s = judgeStart (judgeHold (lockoutFreed s)) := if_pos h

theorem dryingClearLockout_of_free (s : State) (h : s.dry.comp ≠ .lockedOut) : dryingClearLockout s = s := if_neg h

/-- R90: what follows once the trips are forgotten. -/
theorem dryingClearLockout_followOn (s : State) (h : s.dry.comp = .lockedOut) :
    FollowOn (s.setDry { s.dry with trips := [] }) (dryingClearLockout s) := by
  have freed : FollowOn (s.setDry { s.dry with trips := [] }) (lockoutFreed s) :=
    .trans (.compressor _ .offHold (by decide) (by simp [h])) (reportCondition_followOn _ _ _)
  rw [dryingClearLockout_of_lockedOut s h]
  exact (freed.trans (judgeHold_followOn _)).trans (judgeStart_followOn _)

theorem dryingClearLockout_air (s : State) : s.air.Follows (dryingClearLockout s).air := by
  by_cases h : s.dry.comp = .lockedOut
  · exact (dryingClearLockout_followOn s h).air
  · rw [dryingClearLockout_of_free s h]
    exact .refl _

theorem dryingClearLockout_cmd (s : State) : s.cmd.Follows (dryingClearLockout s).cmd := by
  by_cases h : s.dry.comp = .lockedOut
  · exact (dryingClearLockout_followOn s h).cmd
  · rw [dryingClearLockout_of_free s h]
    exact .refl _

/-- R90: a freed compressor is in OFF_HOLD exactly while its times are not done. -/
theorem dryingClearLockout_offHold (s : State) (h : s.dry.comp = .lockedOut) :
    (dryingClearLockout s).dry.comp = .offHold ↔ s.dry.holdDone s.path.working = false := by
  have locked : s.dry.comp ≠ .running := by simp [h]
  have reported := reportCondition_followOn .compLockout false (setComp .offHold (s.setDry { s.dry with trips := [] }))
  have times : (lockoutFreed s).dry.holdDone (lockoutFreed s).path.working = s.dry.holdDone s.path.working := by
    have held : Drying.Follows { s.dry with trips := [], comp := .offHold } (lockoutFreed s).dry := by
      simpa [lockoutFreed] using reported.dry
    rw [lockoutFreed, reported.path, ← lockoutFreed, held.holdDone (by simp)]
    simp [Drying.holdDone]
  rw [dryingClearLockout_of_lockedOut s h]
  constructor
  · intro stays
    rw [← times, Bool.eq_false_iff]
    exact fun done => judgeHold_comp_of_done _ done (judgeStart_comp_offHold _ stays)
  · intro hold
    have held : (lockoutFreed s).dry.comp = .offHold := reported.offHold (by simp) (by simpa [Drying.holdDone] using hold)
    exact ((judgeHold_followOn _).trans (judgeStart_followOn _)).offHold held (times.trans hold)

theorem dryingClearLockout_conditions (s : State) :
    (s.dry.comp = .lockedOut → hasFlag (dryingClearLockout s).notice.conditions .compLockout = false)
      ∧ hasFlag (dryingClearLockout s).notice.conditions .fanStall = hasFlag s.notice.conditions .fanStall := by
  by_cases h : s.dry.comp = .lockedOut
  · rw [dryingClearLockout_of_lockedOut s h]
    simp [lockoutFreed, reportCondition_notice, hasFlag_condition_same, hasFlag_condition_of_ne]
  · rw [dryingClearLockout_of_free s h]
    exact ⟨fun h' => absurd h' h, rfl⟩

/-! ### A locked-out fan (R35) -/

theorem AirMover.Follows.lockedOut {a b : AirMover} (h : a.Follows b) : b.fan = .stallLockout ↔ a.fan = .stallLockout := by
  by_cases stalled : a.stalled = true
  · rw [h.fanStalled stalled]
  · have free := h.fanFree (by simpa using stalled)
    constructor <;> intro locked <;> simp_all [AirMover.stalled]

/-- R35: a locked-out fan begins again without a retry counted; another fan is left as it is. -/
theorem airClearLockout_fan (s : State) :
    (s.air.fan = .stallLockout → (airClearLockout s).air.retries = 0 ∧ (airClearLockout s).air.fan ≠ .stallLockout
        ∧ (airClearLockout s).air.fan ≠ .stallWait)
      ∧ (s.air.fan ≠ .stallLockout → (airClearLockout s).air.retries = s.air.retries) := by
  unfold airClearLockout
  split
  case isTrue h =>
    obtain ⟨fan, -, retries, -⟩ := AirMover.leaveStall_fields { s.air with retries := 0 }
    refine ⟨fun _ => ⟨retries, ?_⟩, fun h' => absurd h h'⟩
    simp only [State.setAir_air, fan]
    split <;> decide
  case isFalse h => exact ⟨fun h' => absurd h' h, fun _ => rfl⟩

/-! ### The command -/

/-- The part after an accepted CLEAR_LOCKOUT, before its save is asked for. -/
def bothFreed (s : State) : State := airClearLockout (dryingClearLockout (accept .accepted .save (commandNoted 0x22#8 s)))

theorem exec_clearLockout (s : State) (hs : s.takesCycles = true)
    (locked : s.dry.comp = .lockedOut ∨ s.air.fan = .stallLockout) :
    exec .clearLockout s = .next (requestJob .wearSave (bothFreed s)) := by
  have judged : exec .clearLockout s = .next (judgeCommand codeClearLockout (commandNoted codeClearLockout s)) := by
    rw [← windowWrite_commandCell _ s hs (by decide)]
    rfl
  have accepted : clearLockout (commandNoted 0x22#8 s) = requestJob .wearSave (bothFreed s) := if_pos locked
  rw [judged, ← accepted]
  rfl

/-- Settles O56: the compressor freed first, the fan by the copy it kept meanwhile. -/
theorem clearLockoutFreesBoth : Obligations.ClearLockoutFreesBoth := by
  intro s hs hm locked
  have air := dryingClearLockout_air (accept .accepted .save (commandNoted 0x22#8 s))
  have conditions := dryingClearLockout_conditions (accept .accepted .save (commandNoted 0x22#8 s))
  have cmd : ((commandNoted 0x22#8 s).cmd.outcome .accepted .save).Follows (requestJob .wearSave (bothFreed s)).cmd := by
    simpa [bothFreed] using dryingClearLockout_cmd (accept .accepted .save (commandNoted 0x22#8 s))
  have path : (requestJob .wearSave (bothFreed s)).path = (commandNoted 0x22#8 s).path := by simp [bothFreed]
  obtain ⟨freed, other⟩ := airClearLockout_fan (dryingClearLockout (accept .accepted .save (commandNoted 0x22#8 s)))
  refine ⟨_, exec_clearLockout s hs locked, commandTaken_of hm (by simp [onlyBlocks, accept, bothFreed]) cmd.lastCode,
    supervisionRestarted_of path cmd.count cmd.counting, cmd.status, cmd.awaited, fun h => ?compressor,
    fun h => ?free, fun h => ?fan, fun h => ?running, ?flag, fun h => ?save, by simp [bothFreed],
    by simp [bothFreed]⟩
  case compressor =>
    have dry := (dryingClearLockout_followOn (accept .accepted .save (commandNoted 0x22#8 s)) h).dry
    have locked : s.dry.comp ≠ .running := by simp [h]
    have hold := dryingClearLockout_offHold (accept .accepted .save (commandNoted 0x22#8 s)) h
    refine ⟨by simpa [bothFreed] using dry.trips, by simpa [bothFreed] using conditions.1 h, ?_,
      by simpa [bothFreed, State.compPin] using dry.compOff locked, by simpa [bothFreed] using dry.offTime locked⟩
    simpa [bothFreed, Drying.holdDone_eq_false] using hold
  case free => simp [bothFreed, dryingClearLockout_of_free, h]
  case fan => simpa [bothFreed] using freed (air.lockedOut.2 h)
  case running => simpa [bothFreed] using (other (mt air.lockedOut.1 h)).trans air.retries
  case flag => simpa [bothFreed] using conditions.2
  case save => exact mem_requestJob _ _ (by simpa [bothFreed] using h)

end Sys2Proof.Machine
end

section
/-! SUPPORT. RESUME (R172): the end of all-stop, and the two blocks told of NORMAL, with its statement. -/

namespace Sys2Proof.Machine

/-! ### All-stop is no concern of drying's rules (R171) -/

@[simp] theorem leaveWaiting_allStop (s : State) :
    (leaveWaiting s).cmd.allStop = s.cmd.allStop ∧ (leaveWaiting s).air.allStop = s.air.allStop := by
  unfold leaveWaiting
  split
  · have cmd := s.cmd.newProgress_of_measuring (p := 2) (by decide)
    simp [measurePoint, reportProgress, cmd, (s.air.measure_kept 0).allStop, AirMover.measuring]
  · exact ⟨rfl, rfl⟩

@[simp] theorem setComp_allStop (c : CompState) (s : State) :
    (setComp c s).cmd.allStop = s.cmd.allStop ∧ (setComp c s).air.allStop = s.air.allStop := by
  have slots := (s.air.takeCompressor_kept s.path.working c).allStop
  simp [setComp_eq, compTold, slots, AirMover.compressorSlots]

@[simp] theorem judgeHold_allStop (s : State) : (judgeHold s).cmd.allStop = s.cmd.allStop
    ∧ (judgeHold s).air.allStop = s.air.allStop ∧ (judgeHold s).dry.allStop = s.dry.allStop := by
  unfold judgeHold
  repeat' split
  all_goals simp

@[simp] theorem judgeStart_allStop (s : State) : (judgeStart s).cmd.allStop = s.cmd.allStop
    ∧ (judgeStart s).air.allStop = s.air.allStop ∧ (judgeStart s).dry.allStop = s.dry.allStop := by
  unfold judgeStart
  repeat' split
  all_goals simp

@[simp] theorem judgeDeferred_allStop (s : State) : (judgeDeferred s).cmd.allStop = s.cmd.allStop
    ∧ (judgeDeferred s).air.allStop = s.air.allStop ∧ (judgeDeferred s).dry.allStop = s.dry.allStop := by
  unfold judgeDeferred
  split
  · simp [stopCompressor, Drying.stopRun, Drying.outputOff]
  · simp

@[simp] theorem judgeDrying_allStop (s : State) : (judgeDrying s).cmd.allStop = s.cmd.allStop
    ∧ (judgeDrying s).air.allStop = s.air.allStop ∧ (judgeDrying s).dry.allStop = s.dry.allStop := by
  simp [judgeDrying]

/-- R171: in NORMAL no report begins all-stop. -/
theorem reportCondition_of_normal (f : Flag) (b : Bool) (s : State) (h : s.cmd.mode = .normal) :
    reportCondition f b s = setCondition f b s := by
  simp [reportCondition, judgeAllStop, h]

theorem onlyBlocks.trans {s t u : State} (h : onlyBlocks s t) (k : onlyBlocks t u) : onlyBlocks s u := by
  obtain ⟨phase, delay, pins, front, path, bus, memory, pending⟩ := h
  obtain ⟨phase', delay', pins', front', path', bus', memory', pending'⟩ := k
  exact ⟨phase'.trans phase, delay'.trans delay, pins'.trans pins, front'.trans front, path'.trans path, bus'.trans bus,
    memory'.trans memory, pending'.trans pending⟩

/-! ### The end of all-stop, and the reports of NORMAL (R172) -/

/-- The part with all-stop ended. -/
def allStopEnded (s : State) : State := if s.cmd.allStop then setAllStop false s else s

/-- R171, R172: all-stop is over at each block that held it, and nothing else of the commands has moved. -/
theorem allStopEnded_spec (s : State) :
    (allStopEnded s).cmd.allStop = false ∧ (allStopEnded s).cmd.lastCode = s.cmd.lastCode
      ∧ (s.cmd.allStop = true → (allStopEnded s).air.allStop = false ∧ (allStopEnded s).dry.allStop = false) := by
  unfold allStopEnded
  split
  case isTrue h =>
    have ended : (allStopTold false s).cmd.allStop = false ∧ (allStopTold false s).air.allStop = false
        ∧ (allStopTold false s).dry.allStop = false := ⟨rfl, (AirMover.arbitrate_kept _).allStop, rfl⟩
    have cmd := (judgeDrying_followOn (allStopTold false s)).cmd
    simp only [setAllStop_eq, Bool.false_eq_true, if_false, judgeDrying_allStop]
    exact ⟨ended.1, cmd.lastCode, fun _ => ended.2⟩
  case isFalse h => exact ⟨by simpa using h, rfl, fun h' => absurd h' h⟩

/-- The air mover with the slots of NORMAL, before arbitration (R24, R172). -/
def AirMover.normalSlots (a : AirMover) (w : Settings) : AirMover :=
  { a.formUserAuto w .normal with standalone := none }

theorem airModeReport_normal (s : State) :
    (s.air.normalSlots s.path.working).Kept (airModeReport .normal s).air := AirMover.arbitrate_kept _

theorem AirMover.normalSlots_allStop (a : AirMover) (w : Settings) : (a.normalSlots w).allStop = a.allStop := by
  simp only [AirMover.normalSlots, AirMover.formUserAuto]
  repeat' split
  all_goals rfl

/-- The part told of NORMAL at the commands, at the air mover and at drying, before drying acts on it. -/
def normalTold (s : State) : State :=
  evaluateDemand ((airModeReport .normal (s.setCmd { s.cmd with mode := .normal })).setDry { s.dry with mode := .normal })

/-- The part with NORMAL in force and STANDALONE's condition gone. -/
def standaloneLeft (s : State) : State := reportCondition .standalone false (judgeDrying (normalTold (allStopEnded s)))

/-- The part with supervision restarted and the command's outcome set, at the end of RESUME. -/
def resumeDone (s : State) : State := accept .done .none (s.setCmd (s.cmd.restartSupervision s.path.working))

theorem leaveStandalone_eq (s : State) : leaveStandalone s = resumeDone (standaloneLeft s) := by
  have reported : standaloneLeft s = reportCondition .standalone false (dryingModeReport .normal (airModeReport .normal
      ((allStopEnded s).setCmd { (allStopEnded s).cmd with mode := .normal }))) := by
    simp [standaloneLeft, normalTold, dryingModeReport]
  rw [reported]
  rfl

theorem resumeDone_keeps (s : State) :
    onlyBlocks s (resumeDone s) ∧ (resumeDone s).air = s.air ∧ (resumeDone s).dry = s.dry
      ∧ (resumeDone s).filter = s.filter ∧ (resumeDone s).tank = s.tank ∧ (resumeDone s).notice = s.notice
      ∧ (resumeDone s).store = s.store := by
  simp [resumeDone, onlyBlocks, accept]

/-- R168, R172: in NORMAL the count begins again under the working interval. -/
theorem resumeDone_cmd (s : State) (h : s.cmd.mode = .normal) :
    (resumeDone s).cmd = { s.cmd with
      status := .done
      awaited := .none
      count := s.path.working.supervisionInterval
      counting := if s.path.working.supervisionInterval = 0 then none else startTimer 1000 } := by
  simp only [resumeDone, accept_blocks, State.setCmd_cmd, CommandBlock.restartSupervision_of_normal h, CommandBlock.outcome]

@[simp] theorem Drying.evaluateDemand_allStop (d : Drying) (w : Settings) (rh : ChannelState) :
    (d.evaluateDemand w rh).allStop = d.allStop := by
  unfold Drying.evaluateDemand
  repeat' split
  all_goals rfl

theorem normalTold_spec (s : State) :
    (normalTold s).cmd = { s.cmd with mode := .normal } ∧ (normalTold s).dry.mode = .normal
      ∧ (normalTold s).dry.allStop = s.dry.allStop ∧ (s.air.normalSlots s.path.working).Kept (normalTold s).air := by
  have demand := (Drying.evaluateDemand_follows { s.dry with mode := .normal } s.path.working s.front.rh).1
  refine ⟨by simp [normalTold], by simpa [normalTold, evaluateDemand] using demand.mode,
    Drying.evaluateDemand_allStop _ _ _, ?_⟩
  · simpa [normalTold] using airModeReport_normal (s.setCmd { s.cmd with mode := .normal })

/-- R171: what the end of all-stop is told to no block of. -/
theorem allStopEnded_frame (s : State) :
    onlyBlocks s (allStopEnded s) ∧ (allStopEnded s).filter = s.filter ∧ (allStopEnded s).tank = s.tank
      ∧ (allStopEnded s).notice = s.notice ∧ (allStopEnded s).store = s.store := by
  unfold allStopEnded onlyBlocks
  split <;> simp

/-- R172: what the return to NORMAL leaves at the commands, at drying and at the air mover. -/
theorem standaloneLeft_spec (s : State) :
    (standaloneLeft s).cmd.mode = .normal ∧ (standaloneLeft s).cmd.allStop = false
      ∧ (standaloneLeft s).cmd.lastCode = s.cmd.lastCode ∧ (standaloneLeft s).dry.mode = .normal
      ∧ (s.cmd.allStop = true → (standaloneLeft s).air.allStop = false ∧ (standaloneLeft s).dry.allStop = false)
      ∧ ((allStopEnded s).air.normalSlots s.path.working).Follows (standaloneLeft s).air := by
  obtain ⟨ended, lastCode, copies⟩ := allStopEnded_spec s
  obtain ⟨cmd, mode, dry, air⟩ := normalTold_spec (allStopEnded s)
  have told := judgeDrying_followOn (normalTold (allStopEnded s))
  have normal : (judgeDrying (normalTold (allStopEnded s))).cmd.mode = .normal := by rw [told.cmd.mode, cmd]
  obtain ⟨⟨-, -, -, -, path, -⟩, -⟩ := allStopEnded_frame s
  have left : standaloneLeft s = setCondition .standalone false (judgeDrying (normalTold (allStopEnded s))) :=
    reportCondition_of_normal _ _ _ normal
  rw [left]
  simp only [setCondition_keeps, judgeDrying_allStop, told.dry.mode, told.cmd.lastCode, cmd, dry, air.allStop,
    AirMover.normalSlots_allStop]
  exact ⟨normal, ended, lastCode, mode, copies, path ▸ air.toFollows.trans told.air⟩

theorem standaloneLeft_frame (s : State) :
    onlyBlocks s (standaloneLeft s) ∧ (standaloneLeft s).filter = s.filter ∧ (standaloneLeft s).tank = s.tank
      ∧ (standaloneLeft s).notice.latched = s.notice.latched ∧ (standaloneLeft s).store = s.store
      ∧ hasFlag (standaloneLeft s).notice.conditions .standalone = false := by
  obtain ⟨blocks, filter, tank, notice, store⟩ := allStopEnded_frame s
  simpa [standaloneLeft, normalTold, onlyBlocks, filter, tank, notice, store] using blocks

/-- The slots of NORMAL by the working mode and the fan speed (R24). -/
theorem AirMover.normalSlots_slots (a : AirMover) (w : Settings) :
    (w.mode = .off → (a.normalSlots w).user = none ∧ (a.normalSlots w).auto = none)
      ∧ (w.mode = .cleanDry → 1 ≤ w.fanSpeed →
        (a.normalSlots w).user = some (w.speedDuty w.fanSpeed) ∧ (a.normalSlots w).auto = none) := by
  refine ⟨fun h => by simp [normalSlots, formUserAuto, h], fun h speed => ?_⟩
  have fixed : w.fanSpeed ≠ 0 := by omega
  simp [normalSlots, formUserAuto, h, fixed]

/-! ### The command -/

theorem exec_resume (s : State) (hs : s.takesCycles = true) (mode : s.cmd.mode = .standalone) :
    exec .resume s = .next (leaveStandalone (commandNoted 0x31#8 s)) := by
  have judged : exec .resume s = .next (judgeCommand codeResume (commandNoted codeResume s)) := by
    rw [← windowWrite_commandCell _ s hs (by decide)]
    rfl
  have accepted : resume (commandNoted 0x31#8 s) = leaveStandalone (commandNoted 0x31#8 s) :=
    if_pos (by simp [commandNoted_cmd, mode])
  rw [judged, ← accepted]
  rfl

/-- Settles O57: all-stop ended and NORMAL in force by what leaving STANDALONE leaves, and supervision restarted in it. -/
theorem resumeReturnsToNormal : Obligations.ResumeReturnsToNormal := by
  intro s hs hm hmode
  obtain ⟨mode, ended, lastCode, dry, copies, air⟩ := standaloneLeft_spec (commandNoted 0x31#8 s)
  obtain ⟨off, fixed⟩ := (allStopEnded (commandNoted 0x31#8 s)).air.normalSlots_slots s.path.working
  obtain ⟨blocks, filter, tank, latched, store, condition⟩ := standaloneLeft_frame (commandNoted 0x31#8 s)
  refine ⟨_, exec_resume s hs hmode, ?_⟩
  rw [leaveStandalone_eq]
  generalize standaloneLeft (commandNoted 0x31#8 s) = left at *
  obtain ⟨doneBlocks, doneAir, doneDry, doneFilter, doneTank, doneNotice, doneStore⟩ := resumeDone_keeps left
  rw [doneAir, doneDry, doneFilter, doneTank, doneNotice, doneStore, resumeDone_cmd left mode]
  have working : left.path.working = s.path.working := by
    obtain ⟨-, -, -, -, path, -⟩ := blocks
    rw [path, commandNoted_path]
  refine ⟨commandTaken_of hm (blocks.trans doneBlocks) ?_, mode, rfl, rfl, ended, dry,
    fun h => copies (by simpa [commandNoted_cmd] using h), air.standalone, condition,
    by rw [working], by rw [working], fun h => ?_, fun h speed => ?_, latched, filter, tank, store⟩
  · rw [resumeDone_cmd left mode, lastCode]
  · exact ⟨air.user.trans (off h).1, air.auto.trans (off h).2⟩
  · exact ⟨air.user.trans (fixed h speed).1, air.auto.trans (fixed h speed).2⟩

end Sys2Proof.Machine
end

section
/-! SUPPORT. What a setting write leaves at the memory path, the notice unit and the commands, whatever block it is
delivered to (R134, R135, R138, R139, R168). -/

namespace Sys2Proof.Machine

/-! ### The delivery leaves the memory path and the commands alone -/

/-- From `s` to `t` a delivery has moved neither the pins, the memory path, the memory nor the bus, has left the commands
as follow-on work leaves them, and has latched no SETTING_CLAMPED. -/
structure State.DeliveredTo (s t : State) : Prop where
  phase : t.phase = s.phase
  pins : t.pins = s.pins
  path : t.path = s.path
  bus : t.bus = s.bus
  memory : t.memory = s.memory
  pending : t.pending = s.pending
  cmd : s.cmd.Follows t.cmd
  clamped : hasFlag t.notice.latched .settingClamped = hasFlag s.notice.latched .settingClamped

namespace State.DeliveredTo

variable {s t u : State}

theorem refl (s : State) : s.DeliveredTo s := ⟨rfl, rfl, rfl, rfl, rfl, rfl, .refl _, rfl⟩

theorem trans (h : s.DeliveredTo t) (k : t.DeliveredTo u) : s.DeliveredTo u :=
  ⟨k.phase.trans h.phase, k.pins.trans h.pins, k.path.trans h.path, k.bus.trans h.bus, k.memory.trans h.memory,
    k.pending.trans h.pending, h.cmd.trans k.cmd, k.clamped.trans h.clamped⟩

theorem ite {c : Prop} [Decidable c] (h : s.DeliveredTo t) (k : s.DeliveredTo u) :
    s.DeliveredTo (if c then t else u) := by
  split
  · exact h
  · exact k

/-- Follow-on work is delivered so, if it latches no SETTING_CLAMPED. -/
theorem of_followOn (h : FollowOn s t) (blocks : onlyBlocks s t)
    (clamped : hasFlag t.notice.latched .settingClamped = hasFlag s.notice.latched .settingClamped) :
    s.DeliveredTo t := by
  obtain ⟨phase, -, pins, -, path, bus, memory, pending⟩ := blocks
  exact ⟨phase, pins, path, bus, memory, pending, h.cmd, clamped⟩

end State.DeliveredTo

open State (DeliveredTo)

variable (s : State)

theorem setAir_delivered (a : AirMover) : s.DeliveredTo (s.setAir a) := ⟨rfl, rfl, rfl, rfl, rfl, rfl, .refl _, rfl⟩
theorem setDry_delivered (d : Drying) : s.DeliveredTo (s.setDry d) := ⟨rfl, rfl, rfl, rfl, rfl, rfl, .refl _, rfl⟩
theorem setFront_delivered (f : FrontEnd) : s.DeliveredTo (s.setFront f) := ⟨rfl, rfl, rfl, rfl, rfl, rfl, .refl _, rfl⟩
theorem setTank_delivered (t : TankBlock) : s.DeliveredTo (s.setTank t) := ⟨rfl, rfl, rfl, rfl, rfl, rfl, .refl _, rfl⟩
theorem setFilter_delivered (f : FilterState) : s.DeliveredTo (s.setFilter f) := ⟨rfl, rfl, rfl, rfl, rfl, rfl, .refl _, rfl⟩

theorem judgeDrying_delivered : s.DeliveredTo (judgeDrying s) :=
  .of_followOn (judgeDrying_followOn s) (by simp [onlyBlocks]) (by simp)

theorem evaluateDemand_delivered : s.DeliveredTo (evaluateDemand s) := setDry_delivered s _

theorem reportCondition_delivered (f : Flag) (b : Bool) (h : f ≠ .settingClamped) :
    s.DeliveredTo (reportCondition f b s) :=
  .of_followOn (reportCondition_followOn f b s) (by simp [onlyBlocks])
    (by rw [reportCondition_notice]; exact (hasFlag_condition_of_ne s.notice b h).2)

theorem reportChange_delivered (f : Flag) (b : Bool) (h : f ≠ .settingClamped) : s.DeliveredTo (reportChange f b s) :=
  .ite (.refl s) (reportCondition_delivered s f b h)

theorem raise_delivered (f : Flag) (h : f ≠ .settingClamped) : s.DeliveredTo (raise f s) :=
  .of_followOn (raise_followOn f s) (by simp [onlyBlocks]) (hasFlag_or_bit_of_ne _ h)

theorem markIf_delivered (b : Bool) : s.DeliveredTo (markIf b s) :=
  .of_followOn (markIf_followOn b s) (by simp [onlyBlocks]) (by simp)

theorem updateLamps_delivered (g : LampEngine → LampEngine) : s.DeliveredTo (updateLamps g s) :=
  ⟨rfl, rfl, rfl, rfl, rfl, rfl, .refl _, rfl⟩

theorem reportRise_delivered (stage : Stage) : s.DeliveredTo (reportRise stage s) := by
  have lamps : s.DeliveredTo (updateLamps (fun e => { e with stage := stage }) (markChanged s)) :=
    ⟨rfl, rfl, rfl, rfl, rfl, rfl, .refl _, rfl⟩
  simp only [reportRise]
  split
  · exact lamps
  · exact lamps.trans (raise_delivered _ _ (by decide))
  · exact lamps.trans (reportCondition_delivered _ _ _ (by decide))

theorem evaluateFilter_delivered : s.DeliveredTo (evaluateFilter s) :=
  .ite (setFilter_delivered s _) ((setFilter_delivered s _).trans (reportRise_delivered _ _))

theorem dryingTankReport_delivered (level : TankLevel) : s.DeliveredTo (dryingTankReport level s) :=
  .of_followOn (dryingTankReport_followOn level s) (by simp [onlyBlocks]) (by simp)

theorem tankReports_delivered (before : TankBlock) (e : TankEvent) (forced : Bool) :
    s.DeliveredTo (tankReports before e forced s) := by
  simp only [tankReports]
  refine .trans ?_ (.ite (dryingTankReport_delivered _ _) (.refl _))
  refine .trans ?_ (updateLamps_delivered _ _)
  refine .trans (.trans (.trans (.trans ?_ (reportChange_delivered _ .tankAbsent _ (by decide)))
    (reportChange_delivered _ .tankFull _ (by decide))) (reportChange_delivered _ .tankHigh _ (by decide)))
    (reportChange_delivered _ .pumpFail _ (by decide))
  exact (markIf_delivered s _).trans (.ite (raise_delivered _ _ (by decide)) (.refl _))

theorem tankEvent_delivered (e : TankEvent) : s.DeliveredTo (tankEvent e s) := by
  simp only [tankEvent]
  split
  · exact (setTank_delivered s _).trans (tankReports_delivered _ _ _ _)
  · exact .ite ((setTank_delivered s _).trans (tankReports_delivered _ _ _ _)) (setTank_delivered s _)

theorem restartDebounce_delivered (sw : Switch) : s.DeliveredTo (restartDebounce sw s) := by
  rw [restartDebounce_eq]
  exact setFront_delivered s _

theorem polarityEntry_delivered (old : Settings) (sw : Switch) : s.DeliveredTo (polarityEntry old s sw) :=
  .ite (.refl s) (restartDebounce_delivered s sw)

theorem polarityWritten_delivered (old : Settings) : s.DeliveredTo (polarityWritten old s) :=
  (((polarityEntry_delivered s old _).trans (polarityEntry_delivered _ old _)).trans
    (polarityEntry_delivered _ old _)).trans (polarityEntry_delivered _ old _)

theorem judgeSupply_delivered : s.DeliveredTo (judgeSupply s) := by
  have moved (f : FrontEnd) (low : Bool) :
      s.DeliveredTo (if low = true then raise .supplyLow (s.setFront f) else s.setFront f) :=
    (setFront_delivered s f).trans (.ite (raise_delivered _ _ (by decide)) (.refl _))
  have reported (low : Bool) (u : State) : u.DeliveredTo (dryingSupplyReport low (airSupplyReport low u)) :=
    ((setAir_delivered u _).trans (setDry_delivered _ _)).trans (judgeDrying_delivered _)
  exact .ite (.refl s) ((moved _ _).trans (reported _ _))

theorem judgeAllStop_delivered : s.DeliveredTo (judgeAllStop s) :=
  .of_followOn (judgeAllStop_followOn s) (by simp [onlyBlocks]) (by simp)

variable {s} {t : State} {old : Settings}

/-- R135: what every delivery of a setting write leaves. -/
theorem Delivered.deliveredTo (h : Delivered old s t) : s.DeliveredTo t := by
  have slots (f : AirMover → AirMover) : s.DeliveredTo (changeSlots f s) := setAir_delivered s _
  cases h
  case readWhereUsed => exact .refl s
  case mode => exact ((slots _).trans (.ite (.refl _) (evaluateDemand_delivered _))).trans (judgeDrying_delivered _)
  case speeds => exact slots _
  case setpoint m => exact .trans (.ite (evaluateDemand_delivered s) (.refl s)) (judgeDrying_delivered _)
  case band => exact (evaluateDemand_delivered s).trans (judgeDrying_delivered _)
  case drying => exact judgeDrying_delivered s
  case dryDuty => exact (slots _).trans (judgeDrying_delivered _)
  case defrostDuty => exact slots _
  case standaloneDuty => exact slots _
  case filter => exact evaluateFilter_delivered s
  case tank off => exact .ite (.refl s) (tankEvent_delivered s _)
  case polarity => exact polarityWritten_delivered s old
  case threshold => exact .ite (.refl s) (judgeSupply_delivered s)
  case lamps => exact updateLamps_delivered s id
  case lampLevel => exact ⟨rfl, rfl, rfl, rfl, rfl, rfl, .refl _, rfl⟩
  case policy => exact judgeAllStop_delivered s

end Sys2Proof.Machine
end

section
/-! SUPPORT. A setting write at the memory path: the bytes it takes, the clamp it records and the restarts that end it
(R134 to R139, R167, R168), the first part of its statement. -/

namespace Sys2Proof.Machine

/-! ### The clamp a write records (R138) -/

theorem settingGroup_ascending (off : Nat) : (settingGroup off).Pairwise (· < ·) := by
  unfold settingGroup
  split_ifs <;> simp

/-- In an ascending list the search for a property finds its least member. -/
theorem find?_of_least {l : List Nat} {p : Nat → Bool} {m : Nat} (sorted : l.Pairwise (· < ·)) (hm : m ∈ l)
    (hp : p m = true) (least : ∀ k ∈ l, k < m → p k = false) : l.find? p = some m := by
  obtain ⟨before, after, rfl⟩ := List.append_of_mem hm
  have ordered := (List.pairwise_append.1 sorted).2.2
  refine List.find?_eq_some_iff_append.2 ⟨hp, before, after, rfl, fun k hk => ?_⟩
  simp [least k (by simp [hk]) (ordered k hk m (by simp))]

/-- Another member of the group of `off` is moved by the write and stands at a bound. -/
def otherClamped (old new raw : List Byte) (off m : Nat) : Bool :=
  m ≠ off && new.getD m 0 ≠ old.getD m 0 && new.getD m 0 ≠ raw.getD m 0

section Clamp

variable {old new raw : List Byte} {off : Nat}

theorem clampedBy_eq : clampedBy old new raw off = if new.getD off 0 ≠ raw.getD off 0 then some off
    else (settingGroup off).find? (otherClamped old new raw off) := rfl

theorem otherClamped_eq_true {m : Nat} : otherClamped old new raw off m = true ↔
    m ≠ off ∧ new.getD m 0 ≠ old.getD m 0 ∧ new.getD m 0 ≠ raw.getD m 0 := by
  simp only [otherClamped, Bool.and_eq_true, decide_eq_true_eq, and_assoc]

theorem otherClamped_eq_false {m : Nat}
    (h : m ≠ off → new.getD m 0 = old.getD m 0 ∨ new.getD m 0 = raw.getD m 0) :
    otherClamped old new raw off m = false := by
  rw [Bool.eq_false_iff, Ne, otherClamped_eq_true]
  rintro ⟨other, changed, clamped⟩
  obtain h | h := h other
  · exact changed h
  · exact clamped h

theorem clampedBy_own (h : new.getD off 0 ≠ raw.getD off 0) : clampedBy old new raw off = some off := if_pos h

theorem clampedBy_other (own : new.getD off 0 = raw.getD off 0) {m : Nat} (hm : m ∈ settingGroup off) (hne : m ≠ off)
    (changed : new.getD m 0 ≠ old.getD m 0) (clamped : new.getD m 0 ≠ raw.getD m 0)
    (least : ∀ k ∈ settingGroup off, k ≠ off → k < m → new.getD k 0 = old.getD k 0 ∨ new.getD k 0 = raw.getD k 0) :
    clampedBy old new raw off = some m := by
  rw [clampedBy_eq, if_neg (not_not.2 own)]
  exact find?_of_least (settingGroup_ascending off) hm (otherClamped_eq_true.2 ⟨hne, changed, clamped⟩)
    fun k hk hlt => otherClamped_eq_false fun other => least k hk other hlt

theorem clampedBy_none (own : new.getD off 0 = raw.getD off 0)
    (h : ∀ k ∈ settingGroup off, k ≠ off → new.getD k 0 = old.getD k 0 ∨ new.getD k 0 = raw.getD k 0) :
    clampedBy old new raw off = none := by
  rw [clampedBy_eq, if_neg (not_not.2 own), List.find?_eq_none]
  intro k hk
  rw [otherClamped_eq_false (h k hk)]
  decide

end Clamp

/-- The offset a setting write records as clamped, if any. -/
def settingClamp (off : Nat) (v : Byte) (s : State) : Option Nat :=
  clampedBy s.path.working.bytes (s.path.takeSetting off v).working.bytes (s.path.raw.set off v) off

theorem recordClamp_spec (clamped : Option Nat) (s : State) :
    onlyBlocks (s.setPath { s.path with lastClamped := (clamped.map (BitVec.ofNat 8)).getD s.path.lastClamped })
        (recordClamp clamped s)
      ∧ (recordClamp clamped s).cmd = s.cmd
      ∧ hasFlag (recordClamp clamped s).notice.latched .settingClamped
        = (clamped.isSome || hasFlag s.notice.latched .settingClamped) := by
  cases clamped <;> simp [recordClamp, onlyBlocks]

/-- R135, R138: a setting write up to its delivery, at the memory path, the memory and the notice unit. -/
theorem judgedWrite_spec (off v : Byte) (s : State) :
    onlyBlocks
        ((busWrite (address s.path.page off) v (takenWriteWaits s.path.working) s).setPath
          { s.path.takeSetting off.toNat v with
            lastClamped := ((settingClamp off.toNat v s).map (BitVec.ofNat 8)).getD s.path.lastClamped })
        (judgedWrite off v s)
      ∧ (judgedWrite off v s).cmd = s.cmd
      ∧ hasFlag (judgedWrite off v s).notice.latched .settingClamped
        = ((settingClamp off.toNat v s).isSome || hasFlag s.notice.latched .settingClamped) :=
  recordClamp_spec _ _

/-! ### The end of a setting write (R139, R167, R168) -/

/-- The restarts that end a setting write. -/
def settingEnded (s : State) : State := restartQuiet (settingTaken s)

/-- R167: a setting write cancels an armed restart. -/
def CommandBlock.disarmed (c : CommandBlock) (armed : Bool) : CommandBlock := if armed then { c with status := .idle } else c

theorem settingEnded_eq (s : State) :
    settingEnded s = (s.setPath { s.path with armed := false, quietTimer := startTimer 200 }).setCmd
      ((s.cmd.restartSupervision s.path.working).disarmed s.path.armed) := by
  by_cases h : s.path.armed = true
  · simp [settingEnded, restartQuiet, settingTaken, h, CommandBlock.disarmed, State.setPath, State.setCmd]
  · simp [settingEnded, restartQuiet, settingTaken, h, CommandBlock.disarmed, State.setPath, State.setCmd]

theorem CommandBlock.disarmed_keeps (c : CommandBlock) (armed : Bool) :
    (c.disarmed armed).mode = c.mode ∧ (c.disarmed armed).allStop = c.allStop ∧ (c.disarmed armed).count = c.count
      ∧ (c.disarmed armed).counting = c.counting ∧ (armed = true → (c.disarmed armed).status = .idle) := by
  cases armed <;> simp [CommandBlock.disarmed]

theorem settingEnded_path (s : State) :
    (settingEnded s).path = { s.path with armed := false, quietTimer := startTimer 200 } := by
  rw [settingEnded_eq]
  rfl

theorem settingEnded_cmd (s : State) :
    (settingEnded s).cmd.mode = s.cmd.mode ∧ (settingEnded s).cmd.allStop = s.cmd.allStop
      ∧ (settingEnded s).cmd.count = (s.cmd.restartSupervision s.path.working).count
      ∧ (settingEnded s).cmd.counting = (s.cmd.restartSupervision s.path.working).counting
      ∧ (s.path.armed = true → (settingEnded s).cmd.status = .idle) := by
  have kept := (s.cmd.restartSupervision s.path.working).disarmed_keeps s.path.armed
  simpa [settingEnded_eq] using kept

@[simp] theorem settingEnded_keeps (s : State) :
    (settingEnded s).phase = s.phase ∧ (settingEnded s).pins = s.pins ∧ (settingEnded s).memory = s.memory
      ∧ (settingEnded s).bus = s.bus ∧ (settingEnded s).pending = s.pending ∧ (settingEnded s).notice = s.notice
      ∧ (settingEnded s).air = s.air ∧ (settingEnded s).dry = s.dry := by
  simp [settingEnded_eq]

/-! ### The whole write -/

/-- The part after a setting write. -/
def settingWritten (off v : Byte) (s : State) : State :=
  settingEnded (deliverSetting s.path.working off.toNat (judgedWrite off v s))

/-- The memory path after a setting write. -/
def MemoryPath.written (p : MemoryPath) (off : Nat) (v : Byte) (clamped : Option Nat) : MemoryPath :=
  { p.takeSetting off v with
    lastClamped := (clamped.map (BitVec.ofNat 8)).getD p.lastClamped, armed := false, quietTimer := startTimer 200 }

/-- What a setting write leaves at the memory path, the memory, the bus, the notice unit and the commands. -/
theorem settingWritten_spec (off v : Byte) (s : State) :
    (settingWritten off v s).path = s.path.written off.toNat v (settingClamp off.toNat v s)
      ∧ (settingWritten off v s).memory = s.memory.write (address s.path.page off).toNat v
      ∧ (settingWritten off v s).bus.waits = takenWriteWaits s.path.working
      ∧ (settingWritten off v s).pins = s.pins ∧ (settingWritten off v s).phase = s.phase
      ∧ (settingWritten off v s).pending = s.pending
      ∧ hasFlag (settingWritten off v s).notice.latched .settingClamped
        = ((settingClamp off.toNat v s).isSome || hasFlag s.notice.latched .settingClamped)
      ∧ (s.path.armed = true → (settingWritten off v s).cmd.status = .idle)
      ∧ supervisionRestarted s (settingWritten off v s) := by
  obtain ⟨⟨phase, -, pins, -, path, bus, memory, pending⟩, cmd, flag⟩ := judgedWrite_spec off v s
  have delivered := (deliverSetting_delivered s.path.working off.toNat (judgedWrite off v s)).deliveredTo
  unfold settingWritten
  generalize deliverSetting s.path.working off.toNat (judgedWrite off v s) = d at *
  obtain ⟨endPhase, endPins, endMemory, endBus, endPending, endNotice, -⟩ := settingEnded_keeps d
  obtain ⟨-, -, count, counting, idle⟩ := settingEnded_cmd d
  have follows := cmd ▸ delivered.cmd
  have written := delivered.path.trans path
  rw [written] at count counting idle
  rw [endPhase, endPins, endMemory, endBus, endPending, endNotice, settingEnded_path, written, delivered.phase,
    delivered.pins, delivered.memory, delivered.bus, delivered.pending, delivered.clamped]
  refine ⟨rfl, memory, congrArg BusCycle.waits bus, pins, phase, pending, flag, idle, ?_⟩
  rw [supervisionRestarted, count, counting, settingEnded_path, written]
  refine ⟨fun mode => ?_, fun mode => ?_⟩
  · rw [CommandBlock.restartSupervision_of_normal (follows.mode.trans mode)]
    exact ⟨rfl, rfl⟩
  · rw [CommandBlock.restartSupervision_of_standalone (follows.mode.trans mode)]
    exact ⟨follows.count, follows.counting⟩

theorem exec_settingWrite_written (off v : Byte) (s : State) (hs : s.takesCycles = true) (hoff : off.toNat < 0x40)
    (hlow : off ≠ 0x18#8) (hhigh : off ≠ 0x19#8) : exec (.settingWrite off v) s = .next (settingWritten off v s) :=
  exec_settingWrite off v s hs hoff (fun h => hlow (BitVec.eq_of_toNat_eq h)) fun h => hhigh (BitVec.eq_of_toNat_eq h)

namespace MemoryPath

variable (p : MemoryPath) (off m : Nat) (v : Byte) (clamped : Option Nat)

theorem written_byte_of_mem (hlen : p.working.bytes.length = 64) (hoff : off < 64) (hm : m ∈ settingGroup off) :
    (p.written off v clamped).working.byte m = workingByte (p.raw.set off v) m := by
  have place := lt_of_mem_settingGroup hoff hm
  exact (takeSetting_byte p off m v).trans (if_pos ⟨hm, hlen ▸ place⟩)

theorem written_byte_of_notMem (hm : m ∉ settingGroup off) :
    (p.written off v clamped).working.byte m = p.working.byte m :=
  (takeSetting_byte p off m v).trans (if_neg fun h => hm h.1)

theorem written_raw_own (hlen : p.raw.length = 64) (hoff : off < 64) : (p.written off v clamped).raw.getD off 0 = v :=
  (getD_set p.raw off off v).trans (if_pos ⟨rfl, hlen ▸ hoff⟩)

end MemoryPath

/-- R138: the record of a clamp, by where the write leaves its group. -/
theorem settingWritten_clamp (off v : Byte) (s : State) (hoff : off.toNat < 0x40) (hraw : s.path.raw.length = 64) {t : State}
    (path : t.path = s.path.written off.toNat v (settingClamp off.toNat v s))
    (flag : hasFlag t.notice.latched .settingClamped
      = ((settingClamp off.toNat v s).isSome || hasFlag s.notice.latched .settingClamped)) :
    (t.path.working.byte off.toNat ≠ v → t.path.lastClamped = off ∧ hasFlag t.notice.latched .settingClamped = true)
      ∧ (t.path.working.byte off.toNat = v → ∀ m ∈ settingGroup off.toNat, m ≠ off.toNat →
        t.path.working.byte m ≠ s.path.working.byte m → t.path.working.byte m ≠ t.path.raw.getD m 0 →
        (∀ m' ∈ settingGroup off.toNat, m' ≠ off.toNat → m' < m →
          t.path.working.byte m' = s.path.working.byte m' ∨ t.path.working.byte m' = t.path.raw.getD m' 0) →
        t.path.lastClamped = BitVec.ofNat 8 m ∧ hasFlag t.notice.latched .settingClamped = true)
      ∧ (t.path.working.byte off.toNat = v → (∀ m ∈ settingGroup off.toNat, m ≠ off.toNat →
          t.path.working.byte m = s.path.working.byte m ∨ t.path.working.byte m = t.path.raw.getD m 0) →
        t.path.lastClamped = s.path.lastClamped
          ∧ hasFlag t.notice.latched .settingClamped = hasFlag s.notice.latched .settingClamped) := by
  have own := s.path.written_raw_own off.toNat v (settingClamp off.toNat v s) hraw hoff
  have recorded : t.path.lastClamped
      = ((settingClamp off.toNat v s).map (BitVec.ofNat 8)).getD s.path.lastClamped := by
    rw [path]
    rfl
  rw [flag, recorded, path]
  refine ⟨fun h => ?self, fun h m hm hne changed clamped least => ?other, fun h rest => ?none⟩
  case self =>
    have clamp : settingClamp off.toNat v s = some off.toNat := clampedBy_own (fun e => h (e.trans own))
    simp [clamp]
  case other =>
    have clamp : settingClamp off.toNat v s = some m := clampedBy_other (h.trans own.symm) hm hne changed clamped least
    simp [clamp]
  case none =>
    have clamp : settingClamp off.toNat v s = none := clampedBy_none (h.trans own.symm) rest
    simp [clamp]

end Sys2Proof.Machine
end

section
/-! SUPPORT. The delivery of a setting write to the air mover's slots and to the fault policy (R23, R24, R171), and the
statement of the setting write. -/

namespace Sys2Proof.Machine

/-! ### USER and AUTO (R24) -/

/-- R24: USER and AUTO as they are formed, and nothing else of the air mover. -/
theorem AirMover.formUserAuto_slots (a : AirMover) (w : Settings) (m : ModeState) :
    (a.formUserAuto w m).band = a.band
      ∧ (m = .standalone ∨ w.mode = .off → (a.formUserAuto w m).user = none ∧ (a.formUserAuto w m).auto = none)
      ∧ (m = .normal → w.mode = .dry →
        (a.formUserAuto w m).user = (if w.circulate then some (w.nat 0x07) else none) ∧ (a.formUserAuto w m).auto = none)
      ∧ (m = .normal → w.mode = .clean ∨ w.mode = .cleanDry →
        (w.fanSpeed = 0 → (a.formUserAuto w m).user = none ∧ (a.formUserAuto w m).auto = some (w.nat (0x07 + a.band)))
        ∧ (1 ≤ w.fanSpeed → (a.formUserAuto w m).auto = none
          ∧ (a.formUserAuto w m).user = some (w.nat (0x06 + w.fanSpeed)))) := by
  refine ⟨?band, ?absent, ?dry, ?clean⟩
  case band =>
    unfold formUserAuto
    repeat' split
    all_goals rfl
  case absent =>
    rintro (rfl | off)
    · exact ⟨rfl, rfl⟩
    · cases m <;> simp [formUserAuto, off]
  case dry =>
    rintro rfl mode
    simp [formUserAuto, mode, Settings.speedDuty]
  case clean =>
    rintro rfl mode
    refine ⟨fun speed => ?_, fun speed => ?_⟩
    · have band : 0x06 + (a.band + 1) = 0x07 + a.band := by omega
      obtain mode | mode := mode <;> simp [formUserAuto, mode, speed, Settings.speedDuty, band]
    · have fixed : w.fanSpeed ≠ 0 := by omega
      obtain mode | mode := mode <;> simp [formUserAuto, mode, fixed, Settings.speedDuty]

/-- R24: a write of the mode, the fan speed, circulate or a speed forms USER and AUTO. -/
theorem deliverSetting_userAuto (old : Settings) {off : Nat} (s : State) (h : off ≤ 0x02 ∨ (0x07 ≤ off ∧ off ≤ 0x0A)) :
    (s.air.formUserAuto s.path.working s.cmd.mode).Follows (deliverSetting old off s).air := by
  have slots := (AirMover.arbitrate_kept (s.air.formUserAuto s.path.working s.cmd.mode)).toFollows
  have cases : off = 0 ∨ off = 1 ∨ off = 2 ∨ off = 7 ∨ off = 8 ∨ off = 9 ∨ off = 10 := by omega
  obtain rfl | rfl | rfl | rfl | rfl | rfl | rfl := cases
  case inl =>
    have told (u : State) : FollowOn u (judgeDrying (reconsiderAllowed old u)) :=
      .trans (.ite (.refl u) (evaluateDemand_followOn u)) (judgeDrying_followOn _)
    exact slots.trans (told (changeSlots (·.formUserAuto s.path.working s.cmd.mode) s)).air
  all_goals exact slots

/-! ### The slot of drying (R23, R72) -/

/-- The DRYING slot is the one Table 9 gives the compressor's state. -/
def dryingSlotFormed (s : State) : Prop :=
  s.air.drying = if s.dry.comp = .preRun ∨ s.dry.comp = .running then some s.path.working.dryDuty else none

theorem dryingSlotFormed_setComp (c : CompState) (s : State) : dryingSlotFormed (setComp c s) := by
  have told : dryingSlotFormed (compTold c s) := (s.air.takeCompressor_kept s.path.working c).drying
  have left : (leaveWaiting (compTold c s)).air.drying = (compTold c s).air.drying := by
    unfold leaveWaiting
    split
    · rw [measurePoint_air]
      exact (AirMover.measure_kept _ 0).drying
    · rfl
  simpa [dryingSlotFormed, setComp_eq, left] using told

/-- Each of drying's rules leaves the part as it is or the slot formed. -/
def FormsSlot (f : State → State) : Prop := ∀ s, f s = s ∨ dryingSlotFormed (f s)

theorem FormsSlot.comp {f g : State → State} (hf : FormsSlot f) (hg : FormsSlot g) : FormsSlot (g ∘ f) := by
  intro s
  obtain same | formed := hg (f s)
  · simpa [same] using hf s
  · exact .inr formed

theorem judgeHold_formsSlot : FormsSlot judgeHold := by
  intro s
  unfold judgeHold
  repeat' split
  all_goals simp [dryingSlotFormed_setComp]

theorem judgeStart_formsSlot : FormsSlot judgeStart := by
  intro s
  unfold judgeStart
  repeat' split
  all_goals simp [dryingSlotFormed_setComp]

theorem judgeDeferred_formsSlot : FormsSlot judgeDeferred := by
  intro s
  unfold judgeDeferred
  split
  · obtain same | formed := judgeHold_formsSlot (setComp .offHold (s.setDry s.dry.stopRun))
    · exact .inr (by rw [stopCompressor, same]; exact dryingSlotFormed_setComp _ _)
    · exact .inr formed
  · exact .inl rfl

theorem judgeDrying_formsSlot : FormsSlot judgeDrying :=
  (judgeDeferred_formsSlot.comp judgeHold_formsSlot).comp judgeStart_formsSlot

/-- R73, R75, R80: drying's rules together bring the compressor back to no state that one of them left. -/
theorem judgeDrying_of_comp (s : State) (h : (judgeDrying s).dry.comp = s.dry.comp) : judgeDrying s = s := by
  have deferred : judgeDeferred s = s := by
    unfold judgeDeferred
    split
    case isTrue running =>
      have stopped := ((judgeHold_followOn (stopCompressor s)).trans (judgeStart_followOn _)).dry.compOff (stopCompressor_comp s)
      have same : judgeDrying s = judgeStart (judgeHold (stopCompressor s)) := by
        rw [judgeDrying, judgeDeferred, if_pos running]
      rw [← same, h, running.1] at stopped
      exact absurd rfl stopped
    case isFalse => rfl
  rw [judgeDrying, deferred] at h ⊢
  generalize comp : s.dry.comp = c at h
  cases c
  case offHold =>
    have held := judgeStart_comp_offHold _ h
    unfold judgeHold at held ⊢
    simp only [comp] at held ⊢
    split
    case isTrue done => simp [done] at held
    case isFalse => simp [judgeStart, comp]
  case offReady =>
    by_cases early : s.dry.offTime < s.path.working.minOffSeconds
    · simp [judgeHold, judgeStart, comp, early] at h
    · by_cases start : startHolds s = true
      · simp [judgeHold, judgeStart, comp, early, start] at h
      · simp [judgeHold, judgeStart, comp, early, start]
  case preRun =>
    by_cases early : s.dry.offTime < s.path.working.minOffSeconds
    · simp [judgeHold, judgeStart, comp, early] at h
    · by_cases start : startHolds s = true
      · simp [judgeHold, judgeStart, comp, early, start]
      · simp [judgeHold, judgeStart, comp, early, start] at h
  all_goals simp [judgeHold, judgeStart, comp]

/-- R23, R72: DRYING takes a new dry duty where it is present, unless the compressor leaves its state, which forms it. -/
theorem judgeDrying_slot (s : State) :
    ((judgeDrying s).dry.comp = s.dry.comp → (judgeDrying s).air.drying = s.air.drying)
      ∧ ((judgeDrying s).dry.comp ≠ s.dry.comp → (judgeDrying s).air.drying
        = if (judgeDrying s).dry.comp = .preRun then some s.path.working.dryDuty else none) := by
  refine ⟨fun stays => by rw [judgeDrying_of_comp s stays], fun leaves => ?_⟩
  have follow := judgeDrying_followOn s
  have notRunning : (judgeDrying s).dry.comp ≠ .running := by
    by_cases running : s.dry.comp = .running
    · exact running ▸ leaves
    · exact follow.dry.compOff running
  obtain same | formed := judgeDrying_formsSlot s
  · exact absurd (congrArg (·.dry.comp) same) leaves
  · rw [dryingSlotFormed, follow.path] at formed
    simpa [notRunning] using formed

/-- R23, R138: the slots that a written duty changes where they are present. -/
theorem deliverSetting_duties (old : Settings) (s : State) :
    (((deliverSetting old 0x0E s).dry.comp = s.dry.comp →
        (deliverSetting old 0x0E s).air.drying = s.air.drying.map fun _ => s.path.working.nat 0x0E)
      ∧ ((deliverSetting old 0x0E s).dry.comp ≠ s.dry.comp → (deliverSetting old 0x0E s).air.drying
        = if (deliverSetting old 0x0E s).dry.comp = .preRun then some (s.path.working.nat 0x0E) else none))
      ∧ (deliverSetting old 0x0F s).air.defrost = (s.air.defrost.map fun _ => s.path.working.nat 0x0F)
      ∧ (deliverSetting old 0x3B s).air.standalone = s.air.standalone.map fun _ => s.path.working.nat 0x3B := by
  obtain ⟨stays, leaves⟩ := judgeDrying_slot
    (changeSlots (fun a => { a with drying := redo a.drying s.path.working.dryDuty }) s)
  refine ⟨⟨fun same => (stays same).trans ?_, leaves⟩, ?_, ?_⟩
  · exact (AirMover.arbitrate_kept _).drying
  · exact (AirMover.arbitrate_kept _).defrost
  · exact (AirMover.arbitrate_kept _).standalone

/-! ### The fault policy (R171) -/

/-- R171: all-stop begins in STANDALONE under STOP_ALL with one of its conditions present, and in no other case. -/
theorem judgeAllStop_allStop (s : State) :
    (s.cmd.mode = .standalone → s.path.working.stopAll = true → s.notice.conditions &&& allStopConditions ≠ 0 →
        (judgeAllStop s).cmd.allStop = true)
      ∧ (s.cmd.mode = .normal ∨ s.path.working.stopAll = false ∨ s.notice.conditions &&& allStopConditions = 0 →
        (judgeAllStop s).cmd.allStop = s.cmd.allStop) := by
  unfold judgeAllStop
  split
  case isTrue starts =>
    obtain ⟨mode, policy, -, present⟩ := starts
    refine ⟨fun _ _ _ => ?_, fun h => ?_⟩
    · exact ((immediateStop_followOn (allStopTold true s)).trans (judgeDrying_followOn _)).cmd.allStop rfl
    · obtain h | h | h := h
      · simp [mode] at h
      · simp [policy] at h
      · exact absurd h present
  case isFalse none =>
    refine ⟨fun mode policy present => ?_, fun _ => rfl⟩
    by_contra clear
    exact none ⟨mode, policy, by simpa using clear, present⟩

/-! ### The write and its delivery -/

theorem judgedWrite_conditions (off v : Byte) (s : State) :
    (judgedWrite off v s).notice.conditions = s.notice.conditions := by
  simp only [judgedWrite, judgeClamp]
  unfold recordClamp
  split <;> rfl

theorem settingWritten_blocks (off v : Byte) (s : State) :
    (settingWritten off v s).air = (deliverSetting s.path.working off.toNat (judgedWrite off v s)).air
      ∧ (settingWritten off v s).dry = (deliverSetting s.path.working off.toNat (judgedWrite off v s)).dry
      ∧ (settingWritten off v s).cmd.allStop
        = (deliverSetting s.path.working off.toNat (judgedWrite off v s)).cmd.allStop := by
  obtain ⟨-, allStop, -⟩ := settingEnded_cmd (deliverSetting s.path.working off.toNat (judgedWrite off v s))
  exact ⟨by simp [settingWritten], by simp [settingWritten], allStop⟩

/-- The working settings after a write are those its delivery finds. -/
theorem settingWritten_working (off v : Byte) (s : State) :
    (settingWritten off v s).path.working = (judgedWrite off v s).path.working := by
  obtain ⟨path, -⟩ := settingWritten_spec off v s
  obtain ⟨-, -, -, working⟩ := judgedWrite_frame off v s
  rw [path, working]
  rfl

/-- R171: STOP_ALL is in force once any byte but 0 is written. -/
theorem settingWritten_stopAll (v : Byte) (s : State) (hlen : s.path.working.bytes.length = 64)
    (hraw : s.path.raw.length = 64) :
    (settingWritten 0x3D#8 v s).path.working.stopAll = decide (v ≠ 0#8) := by
  obtain ⟨path, -⟩ := settingWritten_spec 0x3D#8 v s
  have formed := s.path.written_byte_of_mem 0x3D 0x3D v (settingClamp 0x3D v s) hlen (by decide)
    (mem_settingGroup_self _)
  have raw : rawNat (s.path.raw.set 0x3D v) 0x3D = v.toNat := by
    rw [rawNat, getD_set, if_pos ⟨rfl, by omega⟩]
  have stop : workingByte (s.path.raw.set 0x3D v) 0x3D = BitVec.ofNat 8 (min 1 v.toNat) := by
    simp [workingByte, settingKind, raw]
  have working : (settingWritten 0x3D#8 v s).path.working.byte 0x3D = BitVec.ofNat 8 (min 1 v.toNat) := by
    rw [path]
    exact formed.trans stop
  rw [Settings.stopAll, Settings.flag, Settings.nat, working]
  have zero : v = 0#8 ↔ v.toNat = 0 := ⟨fun h => by simp [h], fun h => BitVec.eq_of_toNat_eq h⟩
  have least : min 1 v.toNat % 256 = min 1 v.toNat := Nat.mod_eq_of_lt (by omega)
  simp only [BitVec.toNat_ofNat, Nat.reducePow, least, ne_eq, zero, decide_eq_decide]
  omega

/-- Settles O42: the memory path by the write and its clamp, the slots and the fault policy by their deliveries. -/
theorem settingWriteTakesByte : Obligations.SettingWriteTakesByte := by
  refine ⟨fun off v s hs hm hoff hlow hhigh hraw hlen => ?path, fun off v s ⟨hs, hraw, hlen⟩ hoff => ?slots,
    fun v s ⟨hs, hraw, hlen⟩ => ⟨?dry, ?defrost, ?standalone, ?policy⟩⟩
  case path =>
    obtain ⟨path, memory, waits, pins, phase, pending, flag, idle, supervision⟩ := settingWritten_spec off v s
    obtain ⟨own, other, none⟩ := settingWritten_clamp off v s hoff hraw path flag
    refine ⟨_, exec_settingWrite_written off v s hs hoff hlow hhigh, ?_, by rw [path]; rfl, fun m hgroup => ?_,
      fun m hgroup => ?_, by rw [path]; rfl, by rw [path]; rfl, own, other, none, by rw [path]; rfl, by rw [path]; rfl,
      idle, supervision, waits, by rw [path]; rfl, by rw [path]; rfl, by rw [path]; rfl, by rw [path]; rfl, pins, phase,
      pending⟩
    · rw [onlyByte, memory]
      exact ⟨by simp [Memory.read_write _ _ _ hm], fun a ha => by simp [Memory.read_write _ _ _ hm, ha]⟩
    · rw [path]
      exact s.path.written_byte_of_mem _ m v _ hlen hoff hgroup
    · rw [path]
      exact s.path.written_byte_of_notMem _ m v _ hgroup
  case slots =>
    obtain ⟨blocks, -⟩ := settingWritten_blocks off v s
    obtain ⟨-, found, -⟩ := judgedWrite_frame off v s
    obtain ⟨-, cmd, -⟩ := judgedWrite_spec off v s
    have formed := deliverSetting_userAuto s.path.working (judgedWrite off v s) hoff
    rw [← blocks, found, cmd, ← settingWritten_working] at formed
    obtain ⟨band, absent, dry, clean⟩ :=
      s.air.formUserAuto_slots (settingWritten off v s).path.working s.cmd.mode
    refine ⟨_, exec_settingWrite_written off v s hs (by omega) (fun h => ?_) (fun h => ?_), formed.band.trans band, ?_⟩
    · simp [h] at hoff
    · simp [h] at hoff
    · rw [formed.user, formed.auto]
      exact ⟨absent, dry, clean⟩
  case dry =>
    obtain ⟨air, dry, -⟩ := settingWritten_blocks 0x0E#8 v s
    obtain ⟨-, foundAir, foundDry, -⟩ := judgedWrite_frame 0x0E#8 v s
    obtain ⟨duty, -⟩ := deliverSetting_duties s.path.working (judgedWrite 0x0E#8 v s)
    rw [foundAir, foundDry, ← settingWritten_working] at duty
    refine ⟨_, exec_settingWrite_written 0x0E#8 v s hs (by decide) (by decide) (by decide), ?_⟩
    rw [air, dry]
    exact duty
  case defrost =>
    obtain ⟨air, -⟩ := settingWritten_blocks 0x0F#8 v s
    obtain ⟨-, foundAir, -⟩ := judgedWrite_frame 0x0F#8 v s
    obtain ⟨-, duty, -⟩ := deliverSetting_duties s.path.working (judgedWrite 0x0F#8 v s)
    rw [foundAir, ← settingWritten_working] at duty
    refine ⟨_, exec_settingWrite_written 0x0F#8 v s hs (by decide) (by decide) (by decide), ?_⟩
    rw [air]
    exact duty
  case standalone =>
    obtain ⟨air, -⟩ := settingWritten_blocks 0x3B#8 v s
    obtain ⟨-, foundAir, -⟩ := judgedWrite_frame 0x3B#8 v s
    obtain ⟨-, -, duty⟩ := deliverSetting_duties s.path.working (judgedWrite 0x3B#8 v s)
    rw [foundAir, ← settingWritten_working] at duty
    refine ⟨_, exec_settingWrite_written 0x3B#8 v s hs (by decide) (by decide) (by decide), ?_⟩
    rw [air]
    exact duty
  case policy =>
    obtain ⟨-, -, blocks⟩ := settingWritten_blocks 0x3D#8 v s
    obtain ⟨-, cmd, -⟩ := judgedWrite_spec 0x3D#8 v s
    obtain ⟨starts, stands⟩ := judgeAllStop_allStop (judgedWrite 0x3D#8 v s)
    rw [cmd, ← settingWritten_working, settingWritten_stopAll v s hlen hraw, judgedWrite_conditions] at starts stands
    refine ⟨_, exec_settingWrite_written 0x3D#8 v s hs (by decide) (by decide) (by decide), fun mode policy present => ?_,
      fun h => ?_⟩
    · exact blocks.trans (starts mode (by simpa using policy) present)
    · exact blocks.trans (stands (by simpa using h))

end Sys2Proof.Machine
end

section
/-! SUPPORT. Filter accounting's own operations: what an evaluation, a dose period and a fan-second make of the counters and
the stage (R50 to R56), and what each of them never lowers. -/

namespace Sys2Proof.Machine

/-! ### The dose and the stage never lowered (R56) -/

/-- From `f` to `g` neither the dose nor the stage has decreased. -/
structure FilterState.Aged (f g : FilterState) : Prop where
  dose : f.dose ≤ g.dose
  stage : f.stage.code ≤ g.stage.code

theorem Stage.code_le_higher (a b : Stage) : a.code ≤ (a.higher b).code := by
  unfold Stage.higher
  split <;> omega

namespace FilterState

variable {f g h : FilterState}

theorem Aged.refl (f : FilterState) : f.Aged f := ⟨le_rfl, le_rfl⟩

theorem Aged.trans (hf : f.Aged g) (hg : g.Aged h) : f.Aged h := ⟨hf.dose.trans hg.dose, hf.stage.trans hg.stage⟩

theorem Aged.of_eq (h : g = f) : f.Aged g := h ▸ .refl f

/-- Only the dose and the stage matter. -/
theorem Aged.of_figures (dose : g.dose = f.dose) (stage : g.stage = f.stage) : f.Aged g := ⟨dose.ge, by rw [stage]⟩

theorem evaluated_aged (f : FilterState) (w : Settings) (q : Nat) : f.Aged (f.evaluated w q) :=
  ⟨le_rfl, Stage.code_le_higher _ _⟩

/-! ### One dose period (R50, R51, R53) -/

theorem addDose_aged (f : FilterState) (add : Nat) : f.Aged (f.addDose add) := by
  unfold addDose
  split
  · exact .refl f
  · split
    · exact ⟨Nat.le_succ _, le_rfl⟩
    · exact .of_figures rfl rfl

/-- R53: a fan-second is counted in the filter time alone. -/
@[simp] theorem addSecond_keeps (f : FilterState) :
    f.addSecond.dose = f.dose ∧ f.addSecond.remainder = f.remainder ∧ f.addSecond.wear = f.wear
      ∧ f.addSecond.stage = f.stage ∧ f.addSecond.door = f.door := by
  unfold addSecond
  repeat' split
  all_goals exact ⟨rfl, rfl, rfl, rfl, rfl⟩

/-- R50: the particles of a period are counted in the dose and its remainder alone. -/
@[simp] theorem addDose_keeps (f : FilterState) (add : Nat) :
    (f.addDose add).fanSeconds = f.fanSeconds ∧ (f.addDose add).minutes = f.minutes ∧ (f.addDose add).hours = f.hours
      ∧ (f.addDose add).wear = f.wear ∧ (f.addDose add).stage = f.stage ∧ (f.addDose add).door = f.door := by
  unfold addDose
  repeat' split
  all_goals exact ⟨rfl, rfl, rfl, rfl, rfl, rfl⟩

/-- R50, R53: the dose of a period does not depend on the fan. -/
theorem period_dose (f : FilterState) (add effective : Nat) :
    (f.period add effective).dose = (f.addDose add).dose
      ∧ (f.period add effective).remainder = (f.addDose add).remainder
      ∧ (f.period add effective).stage = f.stage ∧ (f.period add effective).door = f.door := by
  unfold period
  split <;> simp

theorem period_aged (f : FilterState) (add effective : Nat) : f.Aged (f.period add effective) := by
  obtain ⟨dose, -, stage, -⟩ := f.period_dose add effective
  exact (f.addDose_aged add).trans (.of_figures dose (stage.trans (by simp)))

end FilterState

theorem exec_dosePeriod (s : State) (h : s.phase = .running) : exec .dosePeriod s = .next (dosePeriod s) := by
  simp [exec, execDosePeriod, whenRunning, h]

/-- The part with a period's dose and fan-second counted, before W is evaluated. -/
def doseCounted (s : State) : State :=
  let f := s.filter.period (particleInUse s.front s.path.working * s.air.airflow) s.air.effective
  markIf (f.recordDiffers s.filter) (s.setFilter f)

theorem dosePeriod_eq (s : State) : dosePeriod s = evaluateFilter (doseCounted s) := rfl

@[simp] theorem doseCounted_filter (s : State) :
    (doseCounted s).filter
      = s.filter.period (particleInUse s.front s.path.working * s.air.airflow) s.air.effective := by
  simp [doseCounted]

/-- R50 to R55: what a dose period leaves at filter accounting. -/
theorem dosePeriod_filter (s : State) :
    (dosePeriod s).filter = (doseCounted s).filter.evaluated s.path.working s.air.q := by
  rw [dosePeriod_eq, evaluateFilter_filter]
  simp [doseCounted]

end Sys2Proof.Machine
end

section
/-! SUPPORT. The dose and the stage through every command but FILTER_RESET (R56): most commands leave filter accounting as it
is, the others evaluate W or count a dose period. -/

namespace Sys2Proof.Machine

/-! ### The reports of switches and of the sweep -/

theorem doorReport_aged (isOpen : Bool) (s : State) : s.filter.Aged (doorReport isOpen s).filter := by
  have copied : (doorReport isOpen s).filter = { s.filter with door := .ofReport isOpen } := by
    simp [doorReport_eq, doorCopied, filterDoorReport, DoorCopy.ofReport]
  rw [copied]
  exact .of_figures rfl rfl

theorem switchReport_aged (sw : Switch) (meaning : Bool) (s : State) :
    s.filter.Aged (switchReport sw meaning s).filter := by
  cases sw with
  | door => exact doorReport_aged meaning s
  | highFloat | fullFloat | tankPresent => exact .of_eq (tankEvent_keeps _ s)

theorem debounceExpiry_aged (sw : Switch) (s : State) : s.filter.Aged (debounceExpiry sw s).filter := by
  simp only [debounceExpiry]
  split
  · exact .refl _
  · exact switchReport_aged sw _
      (s.setFront (s.front.setSwitch sw { debounced := some (rawState s.pins s.path.working sw), timer := none }))

theorem settlingExpiry_aged (s : State) : s.filter.Aged (settlingExpiry s).filter := by
  have door := doorReport_aged (rawState s.pins s.path.working .door)
    (tankEvent (settleEvent s.pins s.path.working) (s.setFront (s.front.settled s.pins s.path.working)))
  rwa [tankEvent_keeps] at door

@[simp] theorem restartDebounce_filter (sw : Switch) (s : State) : (restartDebounce sw s).filter = s.filter := by
  unfold restartDebounce
  split <;> rfl

@[simp] theorem switchRawChange_filter (sw : Switch) (high : Bool) (s : State) :
    (switchRawChange sw high s).filter = s.filter := by
  simp only [switchRawChange]
  split <;> simp

theorem completeSweep_filter (results : List Nat) (s : State) :
    (completeSweep results s).filter = s.filter.evaluated s.path.working 0 := by
  have q : (s.air.relearned results).q = 0 := (AirMover.endSweep_kept _).q
  simp [completeSweep_eq, sweepTold, sweepJudged, evaluateFilter_filter, q]

theorem learnReading_aged (s : State) : s.filter.Aged (learnReading s).filter := by
  have placed (i : Nat) (taken : List Nat) : s.filter.Aged (placeResult i taken s).filter := by
    simp only [placeResult]
    split
    · exact .of_eq (by simp)
    · split
      · exact .of_eq (by simp)
      · rw [completeSweep_filter]
        exact s.filter.evaluated_aged _ _
  unfold learnReading
  split
  · simp only
    split
    · exact .refl _
    · exact placed _ _
  · exact .refl _

theorem airflowPeriod_aged (s : State) : s.filter.Aged (airflowPeriod s).filter := by
  rw [airflowPeriod_eq, (airflowReport_keeps _).1, periodJudged_filter]
  split
  · exact .refl _
  · exact s.filter.evaluated_aged _ _

theorem evaluateFilter_aged (s : State) : s.filter.Aged (evaluateFilter s).filter := by
  rw [evaluateFilter_filter]
  exact s.filter.evaluated_aged _ _

theorem dosePeriod_aged (s : State) : s.filter.Aged (dosePeriod s).filter := by
  rw [dosePeriod_filter, doseCounted_filter]
  exact (s.filter.period_aged _ _).trans (FilterState.evaluated_aged _ _ _)

/-! ### The stored-image unit -/

@[simp] theorem holdackRise_filter (s : State) : (holdackRise s).filter = s.filter := by
  unfold holdackRise
  split <;> rfl

@[simp] theorem holdackFall_filter (written : Nat) (s : State) : (holdackFall written s).filter = s.filter := by
  unfold holdackFall
  repeat' split
  all_goals rfl

@[simp] theorem refuseHold_filter (s : State) : (refuseHold s).filter = s.filter := by
  simp only [refuseHold]
  split <;> rfl

@[simp] theorem burstComplete_filter (s : State) : (burstComplete s).filter = s.filter := by
  have finished (sv : Service) : (finishBurst sv s).filter = s.filter := by
    simp only [finishBurst]
    split <;> rfl
  unfold burstComplete
  split
  · exact finished _
  all_goals rfl

@[simp] theorem saveTimerExpiry_filter (s : State) : (saveTimerExpiry s).filter = s.filter := by
  simp only [saveTimerExpiry, requestOwnSave]
  repeat' split
  all_goals simp

/-! ### The commands of Table 30 but FILTER_RESET, and supervision -/

@[simp] theorem refuse_filter (status : CommandStatus) (s : State) : (refuse status s).filter = s.filter := rfl

theorem leaveStandalone_filter (s : State) : (leaveStandalone s).filter = s.filter := by
  obtain ⟨-, left, -⟩ := standaloneLeft_frame s
  obtain ⟨-, -, -, done, -⟩ := resumeDone_keeps (standaloneLeft s)
  rw [leaveStandalone_eq, done, left]

theorem judgeCommand_filter (code : Byte) (s : State) (h : code ≠ codeFilterReset) :
    (judgeCommand code s).filter = s.filter := by
  simp only [judgeCommand, if_neg h, learnBaseline, abortLearn, defrostNow, clearLockout, resume, saveNow, restartArm,
    unknownCommand]
  repeat' split
  all_goals simp [leaveStandalone_filter]

theorem supervisionCount_filter (s : State) : (supervisionCount s).filter = s.filter := by
  simp only [supervisionCount, enterStandalone]
  repeat' split
  all_goals simp

/-! ### The memory path -/

theorem polarityWritten_filter (old : Settings) (s : State) : (polarityWritten old s).filter = s.filter := by
  have entry (u : State) (sw : Switch) : (polarityEntry old u sw).filter = u.filter := by
    unfold polarityEntry
    split <;> simp
  simp [polarityWritten_eq, entry]

/-- R135: of the deliveries of a setting write those of W's limits alone move filter accounting (R55). -/
theorem Delivered.aged {old : Settings} {s t : State} (h : Delivered old s t) : s.filter.Aged t.filter := by
  cases h with
  | filter => exact evaluateFilter_aged s
  | mode =>
    refine .of_eq ?_
    simp only [judgeDrying_keeps, reconsiderAllowed]
    split <;> simp [changeSlots]
  | tank off =>
    refine .of_eq ?_
    simp only [tankSettingWritten]
    split <;> simp
  | polarity => exact .of_eq (polarityWritten_filter old s)
  | threshold =>
    refine .of_eq ?_
    simp only [thresholdWritten]
    split <;> simp
  | readWhereUsed | speeds | setpoint | band | drying | dryDuty | defrostDuty | standaloneDuty | lamps | lampLevel
  | policy =>
    exact .of_eq (by simp [changeSlots, levelWritten])

@[simp] theorem recordClamp_filter (clamped : Option Nat) (s : State) : (recordClamp clamped s).filter = s.filter := by
  cases clamped <;> rfl

@[simp] theorem settingEnded_filter (s : State) : (settingEnded s).filter = s.filter := by simp [settingEnded_eq]

theorem takeSettingWrite_aged (off : Nat) (v : Byte) (s : State) : s.filter.Aged (takeSettingWrite off v s).filter := by
  have delivered := (deliverSetting_delivered s.path.working off
    (judgeClamp s.path.working off (s.setPath (s.path.takeSetting off v)))).aged
  have taken : (takeSettingWrite off v s).filter = (deliverSetting s.path.working off
      (judgeClamp s.path.working off (s.setPath (s.path.takeSetting off v)))).filter := settingEnded_filter _
  rw [judgeClamp, recordClamp_filter] at delivered
  rw [taken]
  exact delivered

theorem takeHexhLow_filter (v : Byte) (s : State) : (takeHexhLow v s).filter = s.filter :=
  settingEnded_filter (s.setPath _)

theorem takeHexhHigh_aged (v : Byte) (s : State) : s.filter.Aged (takeHexhHigh v s).filter := by
  have judged (clamped : Option Nat) (p : MemoryPath) :
      s.filter.Aged (settingEnded (evaluateFilter (recordClamp clamped (s.setPath p)))).filter := by
    have aged := evaluateFilter_aged (recordClamp clamped (s.setPath p))
    rw [recordClamp_filter] at aged
    rw [settingEnded_filter]
    exact aged
  exact judged _ _

theorem takeAnchor_filter (v : Byte) (s : State) : (takeAnchor v s).filter = s.filter := by
  unfold takeAnchor
  split <;> rfl

@[simp] theorem windowRead_filter (off : Byte) (s : State) : (windowRead off s).filter = s.filter := by
  have loaded (off : Byte) : (loadHolder off s).filter = s.filter := by
    unfold loadHolder
    repeat' split
    all_goals rfl
  simp only [windowRead, readCycle, whenCycles, memoryCycle_reading, controllerRead, overlayRead, forwardedRead,
    busRead]
  repeat' split
  all_goals simp [loaded]

/-- The command cell is at window offset 0x40 and nowhere else. -/
theorem off_of_classify_commandCell {page : BitVec 7} {off : Byte}
    (h : classify page (address page off) = .commandCell) : off = 0x40#8 := by
  have place : windowPlace off = .commandCell := by
    have hoff : BitVec.ofNat 8 off.toNat = off := by simp
    simp only [classify, address_page, if_true, address_off, hoff] at h
    split at h
    · cases h
    · exact h
  unfold windowPlace at place
  split_ifs at place
  exact BitVec.eq_of_toNat_eq ‹_›

/-! ### Every command -/

/-- From `s` to a running `t` neither the dose nor the stage has decreased. -/
def State.AgesInto (s t : State) : Prop := t.phase = .running → s.filter.Aged t.filter

namespace State.AgesInto

variable {s t u : State}

theorem of_eq (h : t.filter = s.filter) : s.AgesInto t := fun _ => .of_eq h

theorem of_aged (h : s.filter.Aged t.filter) : s.AgesInto t := fun _ => h

/-- A part that does not run is no matter of R56. -/
theorem of_stopped (h : t.phase ≠ .running) : s.AgesInto t := fun running => absurd running h

theorem ite {c : Prop} [Decidable c] (h : s.AgesInto t) (k : s.AgesInto u) : s.AgesInto (if c then t else u) := by
  split
  · exact h
  · exact k

/-- An event without effect where it does not apply. -/
theorem guarded {c : Prop} [Decidable c] (h : s.AgesInto t) : s.AgesInto (if c then t else s) := ite h (.of_eq rfl)

theorem commandByte {code : Byte} (h : code ≠ codeFilterReset) : s.AgesInto (commandByte code s) := by
  simp only [Machine.commandByte]
  split
  · exact of_stopped (by simp [beginRestart])
  · exact of_eq (judgeCommand_filter code _ h)

/-- The byte the memory receives is no matter of filter accounting. -/
theorem of_busWrite {m : BitVec 15} {b : Byte} {waits : Nat} (h : (busWrite m b waits s).AgesInto t) : s.AgesInto t := h

/-- A controller write whose byte is no FILTER_RESET at the command cell. -/
theorem controllerWrite {m : BitVec 15} {v : Byte}
    (h : classify s.path.page m = .commandCell → v ≠ codeFilterReset) : s.AgesInto (controllerWrite m v s) := by
  simp only [Machine.controllerWrite]
  split
  case h_3 => exact of_busWrite (of_eq (takeAnchor_filter _ _))
  case h_4 =>
    exact of_busWrite (ite (of_eq (takeHexhLow_filter _ _)) (ite (of_aged (takeHexhHigh_aged _ _))
      (of_aged (takeSettingWrite_aged _ _ _))))
  case h_5 place => exact of_busWrite (commandByte (h place))
  all_goals exact of_eq rfl

theorem windowWrite {off v : Byte} (h : off = 0x40#8 → v ≠ codeFilterReset) : s.AgesInto (windowWrite off v s) :=
  guarded (controllerWrite fun place => h (off_of_classify_commandCell place))

theorem wholeReset (cause : ResetCause) (written : Nat) : s.AgesInto (wholeReset cause written u) := by
  refine of_stopped ?_
  simp only [Machine.wholeReset]
  split <;> simp

/-- R56: every command but FILTER_RESET. -/
theorem exec (c : Instr) (formed : c.wellFormed = true) (hc : c ≠ .filterReset) (running : s.phase = .running) :
    ∃ t, exec c s = .next t ∧ s.AgesInto t := by
  cases c with
  | powerOn n => exact ⟨_, rfl, wholeReset _ _⟩
  | nresetAssert n => exact ⟨_, rfl, wholeReset _ _⟩
  | nresetRelease => exact ⟨_, rfl, ite (of_eq rfl) (of_eq rfl)⟩
  | loadDelayExpiry => exact ⟨_, rfl, guarded (of_eq rfl)⟩
  | loadComplete pfwLow => exact ⟨s, by simp [Machine.exec, execLoadComplete, running], of_eq rfl⟩
  | converterArrival ch code => exact ⟨_, rfl, guarded (of_eq (converterArrival_frame _ _ _).1)⟩
  | particleWindowEnd => exact ⟨_, rfl, guarded (of_eq (particleWindowEnd_frame _).1)⟩
  | tachEdge e k => exact ⟨_, rfl, guarded (guarded (of_eq rfl))⟩
  | stoppedReport => exact ⟨_, rfl, guarded (of_eq rfl)⟩
  | switchRawChange sw high => exact ⟨_, rfl, of_eq (switchRawChange_filter _ _ _)⟩
  | debounceExpiry sw => exact ⟨_, rfl, guarded (of_aged (debounceExpiry_aged _ _))⟩
  | switchSettlingExpiry => exact ⟨_, rfl, guarded (of_aged (settlingExpiry_aged _))⟩
  | npfwAssert => exact ⟨_, rfl, ite (of_eq rfl) (of_eq rfl)⟩
  | rampStep => exact ⟨_, rfl, guarded (of_eq rfl)⟩
  | settledTimerExpiry => exact ⟨_, rfl, guarded (of_eq rfl)⟩
  | armingTimerExpiry => exact ⟨_, rfl, guarded (of_eq rfl)⟩
  | stallCheck => exact ⟨_, rfl, guarded (of_eq (stallCheck_keeps _).1)⟩
  | stallWaitExpiry => exact ⟨_, rfl, guarded (of_eq rfl)⟩
  | airflowPeriod => exact ⟨_, rfl, guarded (of_aged (airflowPeriod_aged _))⟩
  | learnHoldExpiry => exact ⟨_, rfl, guarded (of_eq (learnHoldExpiry_keeps _).1)⟩
  | learnReading => exact ⟨_, rfl, guarded (of_aged (learnReading_aged _))⟩
  | dosePeriod => exact ⟨_, rfl, guarded (of_aged (dosePeriod_aged _))⟩
  | dryingCheck => exact ⟨_, rfl, guarded (of_eq (dryingCheck_keeps _).1)⟩
  | offTimeExpiry => exact ⟨_, rfl, guarded (of_eq (offTimeExpiry_keeps _).1)⟩
  | confirmationTimerExpiry => exact ⟨_, rfl, guarded (of_eq (confirmationExpiry_keeps _).1)⟩
  | extraHoldExpiry => exact ⟨_, rfl, guarded (of_eq (extraHoldExpiry_keeps _).1)⟩
  | runSecondExpiry => exact ⟨_, rfl, guarded (of_eq (runSecondExpiry_keeps _))⟩
  | defrostMaxExpiry => exact ⟨_, rfl, guarded (of_eq (defrostMaxExpiry_keeps _).1)⟩
  | timedCycleExpiry => exact ⟨_, rfl, guarded (of_eq (judgeDrying_keeps _).1)⟩
  | uptimeMinute => exact ⟨_, rfl, guarded (of_eq rfl)⟩
  | onTimeEnd => exact ⟨_, rfl, guarded (of_eq (tankEvent_keeps _ _))⟩
  | afterRunExpiry => exact ⟨_, rfl, guarded (of_eq (tankEvent_keeps _ _))⟩
  | pulseTimerExpiry => exact ⟨_, rfl, guarded (of_eq rfl)⟩
  | lampPhaseTimer lamp =>
    cases lamp with
    | filter => exact ⟨_, rfl, guarded (of_eq rfl)⟩
    | tank => exact ⟨_, rfl, guarded (of_eq rfl)⟩
  | settingWrite off v =>
    have cell : off ≠ 0x40#8 := by
      rintro rfl
      simp [Instr.wellFormed] at formed
    exact ⟨_, rfl, windowWrite fun h => absurd h cell⟩
  | hexhLowWrite v => exact ⟨_, rfl, windowWrite fun h => absurd h (by decide)⟩
  | hexhHighWrite v => exact ⟨_, rfl, windowWrite fun h => absurd h (by decide)⟩
  | quietTimerExpiry => exact ⟨_, rfl, guarded (of_eq (by simp))⟩
  | latchedWrite off v =>
    have cell : off ≠ 0x40#8 := by
      rintro rfl
      simp [Instr.wellFormed] at formed
    exact ⟨_, rfl, windowWrite fun h => absurd h cell⟩
  | summaryRead => exact ⟨_, rfl, of_eq (windowRead_filter _ _)⟩
  | snapshotLoadRead off => exact ⟨_, rfl, of_eq (windowRead_filter _ _)⟩
  | strayWrite off v =>
    have cell : off ≠ 0x40#8 := by
      rintro rfl
      cases formed
    exact ⟨_, rfl, windowWrite fun h => absurd h cell⟩
  | anchorWrite v =>
    have place : classify s.path.page anchor ≠ .commandCell := by simp [classify_anchor]
    exact ⟨_, rfl, guarded (controllerWrite fun h => absurd h place)⟩
  | filterReset => exact absurd rfl hc
  | learnBaseline => exact ⟨_, rfl, windowWrite fun _ => by decide⟩
  | abortLearn => exact ⟨_, rfl, windowWrite fun _ => by decide⟩
  | defrostNow => exact ⟨_, rfl, windowWrite fun _ => by decide⟩
  | clearLockout => exact ⟨_, rfl, windowWrite fun _ => by decide⟩
  | resume => exact ⟨_, rfl, windowWrite fun _ => by decide⟩
  | saveNow => exact ⟨_, rfl, windowWrite fun _ => by decide⟩
  | restartArm => exact ⟨_, rfl, windowWrite fun _ => by decide⟩
  | restart => exact ⟨_, rfl, windowWrite fun _ => by decide⟩
  | unknownCommand code =>
    have other : code ≠ codeFilterReset := by
      rintro rfl
      cases formed
    exact ⟨_, rfl, windowWrite fun _ => other⟩
  | drainJobComplete => exact ⟨s, by simp [Machine.exec, execDrainJobComplete, running], of_eq rfl⟩
  | holdackRise => exact ⟨_, rfl, ite (of_eq (holdackRise_filter _)) (of_eq rfl)⟩
  | holdackFall n => exact ⟨_, rfl, ite (of_eq (holdackFall_filter _ _)) (of_eq rfl)⟩
  | ackTimerExpiry => exact ⟨_, rfl, guarded (of_eq (refuseHold_filter _))⟩
  | retryTimerExpiry => exact ⟨_, rfl, guarded (ite (of_eq rfl) (of_eq rfl))⟩
  | burstComplete => exact ⟨_, rfl, guarded (of_eq (burstComplete_filter _))⟩
  | saveTimerExpiry => exact ⟨_, rfl, guarded (of_eq (saveTimerExpiry_filter _))⟩
  | supervisionCount => exact ⟨_, rfl, guarded (of_eq (supervisionCount_filter _))⟩
  | supervisionPulseEnd => exact ⟨_, rfl, guarded (of_eq rfl)⟩
  | particleSample high => exact ⟨_, rfl, guarded (of_eq rfl)⟩

end State.AgesInto

/-- Settles O24: by the cases of the command, each of which leaves filter accounting as it is, ages it, or stops the part. -/
theorem filterNeverRenewsItself : Obligations.FilterNeverRenewsItself := by
  intro c s t formed hc hs ht running
  obtain ⟨u, hu, ages⟩ := State.AgesInto.exec c formed hc hs
  obtain rfl := Host.Outcome.next.inj (hu.symm.trans ht)
  obtain ⟨dose, stage⟩ := ages running
  exact ⟨dose, stage⟩

end Sys2Proof.Machine
end

section
/-! SUPPORT. One dose period and the writes of W's limits, with their statement (R50 to R59). -/

namespace Sys2Proof.Machine

/-! ### The counters (R50, R51, R53) -/

/-- R50, R51: below saturation the dose in units of its remainder grows by what is added; a saturated dose stands. -/
theorem FilterState.period_conserves (f : FilterState) {add : Nat} (effective : Nat) (hr : f.remainder < 3600000)
    (hd : f.dose ≤ 16777215) (ha : add ≤ 1018980) :
    (f.dose < 16777215 → (f.period add effective).dose * 3600000 + (f.period add effective).remainder
        = f.dose * 3600000 + f.remainder + add)
      ∧ (f.dose = 16777215 →
        (f.period add effective).dose = f.dose ∧ (f.period add effective).remainder = f.remainder)
      ∧ (f.period add effective).remainder < 3600000 ∧ (f.period add effective).dose ≤ 16777215 := by
  obtain ⟨dose, remainder, -⟩ := f.period_dose add effective
  rw [dose, remainder]
  unfold addDose doseTop doseUnit
  split_ifs
  · omega
  · dsimp only
    omega
  · dsimp only
    omega

/-- R53: a fan-second is one second more of filter time, below its saturation. -/
theorem FilterState.addSecond_conserves (f : FilterState) (hs : f.fanSeconds < 60) (hm : f.minutes < 60) :
    (f.hours < 65535 → f.addSecond.hours * 3600 + f.addSecond.minutes * 60 + f.addSecond.fanSeconds
        = f.hours * 3600 + f.minutes * 60 + f.fanSeconds + 1)
      ∧ f.addSecond.fanSeconds < 60 ∧ f.addSecond.minutes < 60 := by
  unfold addSecond satAdd
  split_ifs <;> simp only <;> omega

/-- R53: a period counts a fan-second while the fan is driven. -/
theorem FilterState.period_time (f : FilterState) (add effective : Nat) (hs : f.fanSeconds < 60) (hm : f.minutes < 60) :
    (f.hours < 65535 → (f.period add effective).hours * 3600 + (f.period add effective).minutes * 60
          + (f.period add effective).fanSeconds
        = f.hours * 3600 + f.minutes * 60 + f.fanSeconds + if 0 < effective then 1 else 0)
      ∧ (f.period add effective).fanSeconds < 60 ∧ (f.period add effective).minutes < 60 := by
  have counted := (f.addDose add).addSecond_conserves (by simpa using hs) (by simpa using hm)
  unfold period
  split
  · simpa using counted
  · simpa using ⟨hs, hm⟩

/-! ### The reports of a rise (R57, R58) -/

/-- R57, R58: an evaluation that raises the stage reports the rise to the notice unit. -/
theorem evaluateFilter_reports (s : State) :
    (s.filter.stage ≠ .worn → (evaluateFilter s).filter.stage = .worn →
        hasFlag (evaluateFilter s).notice.latched .filterWorn = true)
      ∧ (s.filter.stage ≠ .exhausted → (evaluateFilter s).filter.stage = .exhausted →
        hasFlag (evaluateFilter s).notice.conditions .filterExhausted = true) := by
  have risen (h : (evaluateFilter s).filter.stage ≠ s.filter.stage) : evaluateFilter s
      = reportRise (evaluateFilter s).filter.stage (s.setFilter (s.filter.evaluated s.path.working s.air.q)) := by
    rw [evaluateFilter_filter] at h ⊢
    exact if_neg h
  refine ⟨fun was rises => ?_, fun was rises => ?_⟩
  · rw [risen (by rw [rises]; exact was.symm), rises]
    simp [reportRise]
  · rw [risen (by rw [rises]; exact was.symm), rises]
    simp [reportRise]

/-! ### A write of W's limits (R55) -/

@[simp] theorem judgedWrite_filter (off v : Byte) (s : State) : (judgedWrite off v s).filter = s.filter := by
  simp [judgedWrite, judgeClamp, busWrite]

/-- R55: a write of Dexh, Qexh or Wworn evaluates W under the new working settings. -/
theorem settingWritten_filter (off v : Byte) (s : State) (h : off = 0x16#8 ∨ off = 0x17#8 ∨ off = 0x1A#8) :
    (settingWritten off v s).filter = s.filter.evaluated (settingWritten off v s).path.working s.air.q := by
  have evaluates :
      deliverSetting s.path.working off.toNat (judgedWrite off v s) = evaluateFilter (judgedWrite off v s) := by
    obtain rfl | rfl | rfl := h <;> rfl
  obtain ⟨-, air, -⟩ := judgedWrite_frame off v s
  rw [settingWritten_working, settingWritten, settingEnded_filter, evaluates, evaluateFilter_filter,
    judgedWrite_filter, air]

/-- Settles O23: the counters by the period's own operations, W and the stage by the evaluation that ends it. -/
theorem dosePeriodAccumulates : Obligations.DosePeriodAccumulates := by
  refine ⟨fun s running hr hsec hmin hd hadd => ?period, fun off v s ⟨hs, _⟩ hoff => ?write⟩
  case period =>
    obtain ⟨-, -, stage, door⟩ := s.filter.period_dose (particleInUse s.front s.path.working * s.air.airflow)
      s.air.effective
    obtain ⟨grows, saturated, below, top⟩ := s.filter.period_conserves s.air.effective hr hd hadd
    obtain ⟨time, seconds, minutes⟩ := s.filter.period_time
      (particleInUse s.front s.path.working * s.air.airflow) s.air.effective hsec hmin
    obtain ⟨wear, exhausted, worn, kept⟩ := (doseCounted s).filter.evaluated_spec s.path.working s.air.q
    obtain ⟨wornReport, exhaustedReport⟩ := evaluateFilter_reports (doseCounted s)
    rw [← dosePeriod_eq, dosePeriod_filter] at wornReport exhaustedReport
    rw [doseCounted_filter] at wear exhausted worn kept wornReport exhaustedReport
    rw [stage] at worn kept wornReport exhaustedReport
    refine ⟨_, exec_dosePeriod s running, ?_⟩
    rw [dosePeriod_filter, doseCounted_filter]
    exact ⟨grows, saturated, below, top, time, seconds, minutes, wear, exhausted, worn, kept, wornReport, exhaustedReport,
      door, by simp, by simp, by simp, by simp, by simp⟩
  case write =>
    have place : off.toNat < 0x40 ∧ off ≠ 0x18#8 ∧ off ≠ 0x19#8 := by obtain rfl | rfl | rfl := hoff <;> decide
    obtain ⟨low, notLow, notHigh⟩ := place
    refine ⟨_, exec_settingWrite_written off v s hs low notLow notHigh, ?_⟩
    rw [settingWritten_filter off v s hoff]
    obtain ⟨wear, exhausted, worn, -⟩ := s.filter.evaluated_spec (settingWritten off v s).path.working s.air.q
    exact ⟨wear, exhausted, fun h hw good => worn h hw (by simp [good]), rfl, rfl⟩

end Sys2Proof.Machine
end

section
/-! SUPPORT. FILTER_RESET (R61): the cleared filter with its reports, and the sweep it may start, with its statement. -/

namespace Sys2Proof.Machine

/-! ### The lamp engine's stage through drying's rules and the sweep -/

theorem measurePoint_lampStage (i : Nat) (s : State) : (measurePoint i s).lamps.stage = s.lamps.stage := by
  simp [measurePoint, reportProgress, updateLamps, LampEngine.select]

@[simp] theorem setComp_lampStage (c : CompState) (s : State) : (setComp c s).lamps.stage = s.lamps.stage := by
  rw [setComp_eq, leaveWaiting]
  split
  · exact measurePoint_lampStage 0 (compTold c s)
  · rfl

@[simp] theorem judgeHold_lampStage (s : State) : (judgeHold s).lamps.stage = s.lamps.stage := by
  unfold judgeHold
  repeat' split
  all_goals simp

@[simp] theorem judgeStart_lampStage (s : State) : (judgeStart s).lamps.stage = s.lamps.stage := by
  unfold judgeStart
  repeat' split
  all_goals simp

@[simp] theorem judgeDeferred_lampStage (s : State) : (judgeDeferred s).lamps.stage = s.lamps.stage := by
  unfold judgeDeferred
  split
  · simp [stopCompressor]
  · rfl

theorem judgeDrying_lampStage (s : State) : (judgeDrying s).lamps.stage = s.lamps.stage := by simp [judgeDrying]

theorem startSweep_lampStage (s : State) : (startSweep s).lamps.stage = s.lamps.stage := by
  have asked : (sweepAsked s).lamps.stage = s.lamps.stage := judgeDrying_lampStage (sweepNoted s)
  rw [startSweep_eq]
  split
  · exact asked
  · rw [measurePoint_lampStage, asked]

/-! ### A started sweep -/

theorem Sweep.resettle_ne_none {x : Sweep} (h : x ≠ .none) : x.resettle ≠ .none := by
  cases x with
  | none => exact h
  | waiting => exact h
  | measuring i phase => simp [Sweep.resettle]

theorem AirMover.retarget_busy {a : AirMover} (d : Nat) (h : a.sweep ≠ .none) : (a.retarget d).sweep ≠ .none := by
  simp only [AirMover.retarget]
  split
  · exact h
  · split <;> exact Sweep.resettle_ne_none h

theorem AirMover.follow_sweep (a : AirMover) : a.follow.sweep = a.sweep := by
  unfold AirMover.follow
  split <;> rfl

theorem AirMover.driveRamp_sweep (a : AirMover) : a.driveRamp.sweep = a.sweep := by
  unfold AirMover.driveRamp
  repeat' split
  all_goals rfl

/-- R44: arbitration may send a point back to settling, but ends no sweep. -/
theorem AirMover.arbitrate_busy {a : AirMover} (h : a.sweep ≠ .none) : a.arbitrate.sweep ≠ .none := by
  simp only [AirMover.arbitrate]
  rw [AirMover.driveRamp_sweep, AirMover.follow_sweep]
  split
  · exact AirMover.retarget_busy (a := a.cutDuty) _ h
  · exact AirMover.retarget_busy _ h

theorem AirMover.measure_busy (a : AirMover) (i : Nat) : (a.measure i).sweep ≠ .none := by
  have measured := AirMover.arbitrate_busy (a := a.measuring i) (by simp [AirMover.measuring])
  show (a.measuring i).arbitrate.beginHold.sweep ≠ .none
  unfold AirMover.beginHold
  split
  · split
    · simp
    · exact measured
  · exact measured

theorem startSweep_busy (s : State) : (startSweep s).air.sweep ≠ .none := by
  rw [startSweep_eq]
  split
  · simp
  · rw [measurePoint_air]
    exact AirMover.measure_busy _ 0

/-! ### The cleared filter -/

/-- A new filter with its wear index, the door as it stands. -/
def FilterState.renewed (f : FilterState) : FilterState :=
  { f with dose := 0, remainder := 0, fanSeconds := 0, minutes := 0, hours := 0, wear := 0, stage := .good }

/-- R54, R56: a new filter at no restriction is not worn. -/
theorem FilterState.reset_evaluated (f : FilterState) (w : Settings) (h : 1 ≤ w.wworn) :
    f.reset.evaluated w 0 = f.renewed := by
  have wear : wearIndex w f.reset 0 = 0 := by simp [wearIndex, doseShare, restrictionShare, timeShare, FilterState.reset]
  have good : impliedStage w 0 = .good := by
    rw [impliedStage, if_neg (by decide), if_neg (by omega)]
  rw [FilterState.evaluated, wear, good]
  rfl

/-- The part with the counters, the stage and Q of a new filter, and the record-changed mark, before W is evaluated. -/
def filterRenewed (s : State) : State :=
  markIf (s.filter.reset.recordDiffers s.filter || decide (s.air.q ≠ 0))
    ((s.setAir { s.air with q := 0 }).setFilter s.filter.reset)

/-- The part with a new filter judged and FILTER_EXHAUSTED gone. -/
def filterJudged (s : State) : State := reportChange .filterExhausted false (evaluateFilter (filterRenewed s))

theorem clearFilter_eq (s : State) :
    clearFilter s = requestJob .wearSave
      (updateLamps (fun e => { e with stage := (filterJudged s).filter.stage }) (filterJudged s)) := by
  simp [clearFilter, filterJudged, filterRenewed]

theorem filterRenewed_blocks (s : State) :
    (filterRenewed s).air = { s.air with q := 0 } ∧ (filterRenewed s).filter = s.filter.reset
      ∧ (filterRenewed s).cmd = s.cmd ∧ (filterRenewed s).path = s.path
      ∧ (filterRenewed s).store.movePending = s.store.movePending := by
  have store : (filterRenewed s).store.movePending = s.store.movePending := by
    simp only [filterRenewed, markIf]
    split <;> rfl
  exact ⟨by simp [filterRenewed], by simp [filterRenewed], by simp [filterRenewed], by simp [filterRenewed], store⟩

/-- R61: what follows the new counters is follow-on work. -/
theorem filterJudged_followOn (s : State) : FollowOn (filterRenewed s) (filterJudged s) :=
  (evaluateFilter_followOn _).trans (reportChange_followOn _ _ _)

theorem clearFilter_filter (s : State) (h : 1 ≤ s.path.working.wworn) :
    (clearFilter s).filter = s.filter.renewed ∧ (clearFilter s).lamps.stage = .good := by
  obtain ⟨air, filter, -, path, -⟩ := filterRenewed_blocks s
  have judged : (filterJudged s).filter = s.filter.renewed := by
    rw [filterJudged, (reportChange_keeps _ _ _).1, evaluateFilter_filter, air, filter, path]
    exact s.filter.reset_evaluated _ h
  rw [clearFilter_eq, judged]
  exact ⟨by simpa using judged, rfl⟩

/-- R61: what clearing the filter leaves at the air mover, the commands, the notice unit and the stored-image unit. -/
theorem clearFilter_spec (s : State) :
    (clearFilter s).air.q = 0 ∧ (clearFilter s).air.baseline = s.air.baseline ∧ s.cmd.Follows (clearFilter s).cmd
      ∧ hasFlag (clearFilter s).notice.conditions .filterExhausted = false
      ∧ (s.store.movePending = false → .wearSave ∈ (clearFilter s).store.queue) := by
  obtain ⟨air, -, cmd, -, store⟩ := filterRenewed_blocks s
  have follow := filterJudged_followOn s
  have pending : (filterJudged s).store.movePending = s.store.movePending := by
    obtain ⟨changed, evaluated, -⟩ := evaluateFilter_store (filterRenewed s)
    rw [filterJudged, (reportChange_keeps _ _ _).2.2, evaluated]
    exact store
  rw [clearFilter_eq]
  refine ⟨?_, ?_, ?_, by simp [filterJudged], fun h => mem_requestJob _ _ (by simpa [pending] using h)⟩
  · simpa [air] using follow.air.q
  · simpa [air] using follow.air.baseline
  · simpa [cmd] using follow.cmd

/-! ### The command -/

/-- FILTER_RESET without the sweep that may follow it. -/
def newFilter (status : CommandStatus) (awaited : Awaited) (s : State) : State :=
  clearFilter (accept status awaited (commandNoted 0x11#8 s))

/-- What FILTER_RESET leaves, whether or not a sweep follows: the command taken with its outcome, a new filter at filter
accounting, at the air mover, at the lamps and at the notice unit, and the save asked for. -/
structure FilterRenewed (status : CommandStatus) (awaited : Awaited) (s t : State) : Prop where
  blocks : onlyBlocks (commandNoted 0x11#8 s) t
  cmd : ((commandNoted 0x11#8 s).cmd.outcome status awaited).Follows t.cmd
  filter : t.filter = s.filter.renewed
  q : t.air.q = 0
  baseline : t.air.baseline = s.air.baseline
  condition : hasFlag t.notice.conditions .filterExhausted = false
  lamps : t.lamps.stage = .good
  tank : t.tank = s.tank
  save : s.store.movePending = false → .wearSave ∈ t.store.queue

theorem FilterRenewed.path {status : CommandStatus} {awaited : Awaited} {s t : State}
    (h : FilterRenewed status awaited s t) : t.path = (commandNoted 0x11#8 s).path := by
  obtain ⟨-, -, -, -, path, -⟩ := h.blocks
  exact path

theorem FilterRenewed.taken {status : CommandStatus} {awaited : Awaited} {s t : State}
    (h : FilterRenewed status awaited s t) (hm : s.memory.wf = true) :
    commandTaken 0x11#8 s t ∧ supervisionRestarted s t :=
  ⟨commandTaken_of hm h.blocks h.cmd.lastCode, supervisionRestarted_of h.path h.cmd.count h.cmd.counting⟩

theorem newFilter_renewed (status : CommandStatus) (awaited : Awaited) (s : State) (h : 1 ≤ s.path.working.wworn) :
    FilterRenewed status awaited s (newFilter status awaited s) := by
  obtain ⟨filter, lamps⟩ := clearFilter_filter (accept status awaited (commandNoted 0x11#8 s)) h
  obtain ⟨q, baseline, cmd, condition, save⟩ := clearFilter_spec (accept status awaited (commandNoted 0x11#8 s))
  simp only [accept_blocks, commandNoted_keeps] at filter baseline cmd save
  exact ⟨by simp [newFilter, onlyBlocks, accept], cmd, filter, q, baseline, condition, lamps, by simp [newFilter],
    save⟩

/-- R42: the sweep that follows leaves what FILTER_RESET has done. -/
theorem FilterRenewed.startSweep {status : CommandStatus} {awaited : Awaited} {s t : State}
    (h : FilterRenewed status awaited s t) : FilterRenewed status awaited s (startSweep t) := by
  obtain ⟨baseline, q, -, cmd, -⟩ := startSweep_spec t
  obtain ⟨filter, tank, notice, store⟩ := startSweep_keeps t
  have blocks : onlyBlocks t (Machine.startSweep t) := by simp [onlyBlocks]
  exact ⟨h.blocks.trans blocks, h.cmd.trans cmd, filter.trans h.filter, q.trans h.q, baseline.trans h.baseline,
    notice ▸ h.condition, (startSweep_lampStage t).trans h.lamps, tank.trans h.tank, store ▸ h.save⟩

theorem exec_filterReset (s : State) (hs : s.takesCycles = true) :
    exec .filterReset s = .next (if resetStartsSweep s then startSweep (newFilter .inProgress .sweep s)
      else newFilter .accepted .save s) := by
  have judged : exec .filterReset s = .next (judgeCommand codeFilterReset (commandNoted codeFilterReset s)) := by
    rw [← windowWrite_commandCell _ s hs (by decide)]
    rfl
  have starts : resetStartsSweep (commandNoted 0x11#8 s) = resetStartsSweep s := by
    simp [resetStartsSweep, sweepBusy, commandNoted_cmd]
  rw [judged, ← starts]
  rfl

theorem resetStartsSweep_iff (s : State) :
    resetStartsSweep s = true ↔ s.path.working.learnOnReset = true ∧ s.air.sweep = .none ∧ s.cmd.mode = .normal
      ∧ s.air.fan ≠ .stallLockout := by
  simp [resetStartsSweep, sweepBusy, and_assoc]

theorem resetStartsSweep_eq_false (s : State) (h : s.path.working.learnOnReset = false ∨ s.air.sweep ≠ .none
    ∨ s.cmd.mode = .standalone ∨ s.air.fan = .stallLockout) : resetStartsSweep s = false := by
  rw [← Bool.not_eq_true, resetStartsSweep_iff]
  rintro ⟨learn, idle, mode, fan⟩
  simp [learn, idle, mode, fan] at h

/-- Settles O25: the new filter is left alike with and without the sweep; the guard of R42 decides which outcome stands. -/
theorem filterResetRenewsFilter : Obligations.FilterResetRenewsFilter := by
  intro s hs hm hw
  refine ⟨_, exec_filterReset s hs, ?_⟩
  split
  case isTrue starts =>
    have left := (newFilter_renewed .inProgress .sweep s hw).startSweep
    obtain ⟨taken, supervision⟩ := left.taken hm
    obtain ⟨-, -, -, -, pending⟩ := startSweep_spec (newFilter .inProgress .sweep s)
    exact ⟨taken, supervision, left.filter, left.q, left.baseline, left.condition, left.lamps, left.tank, left.save,
      fun _ => ⟨left.cmd.status, left.cmd.awaited, startSweep_busy _, pending⟩,
      fun h => absurd starts (by simp [resetStartsSweep_eq_false s h])⟩
  case isFalse stays =>
    have left := newFilter_renewed .accepted .save s hw
    obtain ⟨taken, supervision⟩ := left.taken hm
    exact ⟨taken, supervision, left.filter, left.q, left.baseline, left.condition, left.lamps, left.tank, left.save,
      fun h => absurd ((resetStartsSweep_iff s).2 h) stays, fun _ => ⟨left.cmd.status, left.cmd.awaited⟩⟩

end Sys2Proof.Machine
end

section
/-! SUPPORT. Drying's rules (R73, R75, R78, R80) as one relation, with the reports that lead to them: what they make of
drying, of the slots of Table 9 and of the compressor's safety is proved once, by the cases of the relation. -/

namespace Sys2Proof.Machine

/-! ### The figures the rules move -/

/-- The states among which R73 and R75 move the compressor. -/
def CompState.standby : CompState → Bool
  | .offHold | .offReady | .preRun => true
  | .running | .defrost | .tripped | .lockedOut => false

theorem CompState.standby_iff (c : CompState) : c.standby = true ↔ c = .offHold ∨ c = .offReady ∨ c = .preRun := by
  cases c <;> decide

theorem CompState.ne_running_of_standby {c : CompState} (h : c.standby = true) : c ≠ .running := by
  rintro rfl
  cases h

/-- The slots of drying are those that Table 9 gives the compressor's state. -/
def State.slotsFormed (s : State) : Prop :=
  dryingSlotFormed s ∧ s.air.defrost = if s.dry.comp = .defrost then some s.path.working.defrostDuty else none

/-- R72: the slots follow the compressor's state in the event that changes it. -/
theorem setComp_slotsFormed (c : CompState) (s : State) : (setComp c s).slotsFormed := by
  refine ⟨dryingSlotFormed_setComp c s, ?_⟩
  have told : (compTold c s).air.defrost = if c = .defrost then some s.path.working.defrostDuty else none :=
    (s.air.takeCompressor_kept s.path.working c).defrost
  have left : (leaveWaiting (compTold c s)).air.defrost = (compTold c s).air.defrost := by
    unfold leaveWaiting
    split
    · rw [measurePoint_air]
      exact (AirMover.measure_kept _ 0).defrost
    · rfl
  rw [setComp_dry, (setComp_outside c s).2.2.2.2.1, setComp_eq, left, told]

/-- The two slots of drying stand. -/
def State.SlotsStand (s t : State) : Prop := t.air.drying = s.air.drying ∧ t.air.defrost = s.air.defrost

/-- Drying with the compressor's state, the confirmation timer and the copies that the rules judge as in `e`. -/
def Drying.withRules (d e : Drying) : Drying :=
  { d with comp := e.comp, confirmTimer := e.confirmTimer, tank := e.tank, allStop := e.allStop }

theorem Drying.withRules_self (d : Drying) : d.withRules d = d := rfl

theorem Drying.withRules_withRules (d e f : Drying) : (d.withRules e).withRules f = d.withRules f := rfl

theorem Drying.stopRun_withRules (d e : Drying) : (d.withRules e).stopRun = d.stopRun.withRules e := rfl

/-- From `d` to `e` the rules have turned the output off in a stop, and beyond that have moved the compressor's state, the
confirmation timer and the copies they judge. -/
structure Drying.RuledTo (d e : Drying) : Prop where
  stay : (d.comp = .running → e.comp = .running) → e = d.withRules e
  stop : d.comp = .running → e.comp ≠ .running → e = d.stopRun.withRules e
  off : d.comp ≠ .running → e.comp ≠ .running

theorem Drying.RuledTo.of_withRules {d e : Drying} (h : e = d.withRules e) (stay : e.comp = .running ↔ d.comp = .running) :
    d.RuledTo e :=
  ⟨fun _ => h, fun run stop => absurd (stay.2 run) stop, mt stay.1⟩

theorem Drying.RuledTo.refl (d : Drying) : d.RuledTo d := .of_withRules rfl .rfl

theorem Drying.RuledTo.trans {d e f : Drying} (h : d.RuledTo e) (k : e.RuledTo f) : d.RuledTo f where
  off := k.off ∘ h.off
  stay stay := by
    have stay' : d.comp = .running → e.comp = .running := fun run => by_contra fun stop => k.off stop (stay run)
    have ran : e.comp = .running → f.comp = .running := fun run =>
      stay (by_contra fun off => h.off off run)
    calc f = e.withRules f := k.stay ran
      _ = (d.withRules e).withRules f := by rw [← h.stay stay']
      _ = d.withRules f := d.withRules_withRules e f
  stop run stop := by
    by_cases ran : e.comp = .running
    · calc f = e.stopRun.withRules f := k.stop ran stop
        _ = (d.withRules e).stopRun.withRules f := by rw [← h.stay fun _ => ran]
        _ = d.stopRun.withRules f := by rw [d.stopRun_withRules, Drying.withRules_withRules]
    · calc f = e.withRules f := k.stay fun run => absurd run ran
        _ = (d.stopRun.withRules e).withRules f := by rw [← h.stop run ran]
        _ = d.stopRun.withRules f := Drying.withRules_withRules _ _ _

/-! ### The relation -/

/-- What drying's rules make of the part: reports to other blocks; moves among OFF_HOLD, OFF_READY and PRE_RUN under their
conditions; the stop of a running compressor; and a copy of the tank or of all-stop told to drying, with the rules that
follow it and keep the interlocks. -/
inductive Ruled : State → State → Prop
  | refl (s : State) : Ruled s s
  | trans {s t u : State} (h : Ruled s t) (k : Ruled t u) : Ruled s u
  | report {s t : State} (slots : s.SlotsStand t) (dry : t.dry = s.dry) (path : t.path = s.path) : Ruled s t
  | move (s : State) (c : CompState) (k : Timer) (source : s.dry.comp.standby = true) (target : c.standby = true)
      (rest : c ≠ .offHold → s.path.working.minOffSeconds ≤ s.dry.offTime) (start : c = .preRun → startHolds s = true)
      (timer : c ≠ .preRun → k = none ∨ (s.dry.comp ≠ .preRun ∧ k = s.dry.confirmTimer)) :
      Ruled s (setComp c (s.setDry { s.dry with confirmTimer := k }))
  | stop (s : State) (run : s.dry.comp = .running) : Ruled s (setComp .offHold (s.setDry s.dry.stopRun))
  | told {s t u : State} (slots : s.SlotsStand t)
      (dry : t.dry = { s.dry with tank := t.dry.tank, allStop := t.dry.allStop }) (path : t.path = s.path)
      (rules : Ruled t u) (closed : s.compressorInterlocked → u.compressorInterlocked) : Ruled s u

/-- R74: the start permissions close the interlocks. -/
theorem interlocksClosed_of_startHolds (s : State) (h : startHolds s = true) : s.dry.interlocksClosed := by
  simp only [startHolds, permissions, Bool.and_eq_true, Bool.or_eq_true, decide_eq_true_eq, Bool.not_eq_true'] at h
  obtain ⟨-, ⟨⟨⟨⟨⟨⟨tank, door⟩, -⟩, -⟩, -⟩, -⟩, -⟩, allStop⟩ := h
  exact ⟨tank, door, allStop⟩

namespace Ruled

variable {s t : State}

theorem path (h : Ruled s t) : t.path = s.path := by
  induction h with
  | refl => rfl
  | trans _ _ h k => exact k.trans h
  | report _ _ path => exact path
  | move => simp
  | stop => simp
  | told _ _ path _ _ h => exact h.trans path

/-- The compressor stays in its state, or from standby or RUNNING comes to standby. -/
theorem comp (h : Ruled s t) : t.dry.comp = s.dry.comp
    ∨ ((s.dry.comp.standby = true ∨ s.dry.comp = .running) ∧ t.dry.comp.standby = true) := by
  induction h with
  | refl => exact .inl rfl
  | trans _ _ h k =>
    obtain same | ⟨source, target⟩ := k
    · simpa only [same] using h
    · obtain same | ⟨source', -⟩ := h
      · exact .inr ⟨same ▸ source, target⟩
      · exact .inr ⟨source', target⟩
  | report _ dry => exact .inl (by rw [dry])
  | move _ _ _ source target => exact .inr ⟨.inl source, by simpa using target⟩
  | stop _ run => exact .inr ⟨.inr run, by simp [CompState.standby]⟩
  | told _ dry _ _ _ h =>
    rw [dry] at h
    exact h

theorem compOff (h : Ruled s t) (off : s.dry.comp ≠ .running) : t.dry.comp ≠ .running := by
  obtain same | ⟨-, standby⟩ := h.comp
  · rwa [same]
  · exact CompState.ne_running_of_standby standby

theorem standby (h : Ruled s t) (standby : s.dry.comp.standby = true) : t.dry.comp.standby = true := by
  obtain same | ⟨-, reached⟩ := h.comp
  · rwa [same]
  · exact reached

/-- Drying's figures after the rules. -/
theorem dry (h : Ruled s t) : s.dry.RuledTo t.dry := by
  induction h with
  | refl s => exact .refl s.dry
  | trans _ _ ih ik => exact ih.trans ik
  | report _ dry => exact dry ▸ .refl _
  | move s c k source target =>
    rw [setComp_dry]
    exact .of_withRules rfl (iff_of_false (CompState.ne_running_of_standby target)
      (CompState.ne_running_of_standby source))
  | stop s run =>
    rw [setComp_dry]
    exact ⟨fun stay => absurd (stay run) (by simp), fun _ _ => rfl, fun off => absurd run off⟩
  | @told s t u _ dry _ _ _ ih =>
    refine .trans ?_ ih
    rw [dry]
    exact .of_withRules rfl .rfl

/-- R75, R77: a confirmation timer that runs in PRE_RUN alone does so after the rules. -/
theorem confirmTimer (h : Ruled s t) (rests : s.dry.comp = .preRun ∨ s.dry.confirmTimer = none)
    (left : t.dry.comp ≠ .preRun) : t.dry.confirmTimer = none := by
  induction h with
  | refl => exact rests.resolve_left left
  | @trans s t u _ _ ih ik =>
    by_cases pre : t.dry.comp = .preRun
    · exact ik (.inl pre) left
    · exact ik (.inr (ih rests pre)) left
  | report _ dry =>
    rw [dry] at left ⊢
    exact rests.resolve_left left
  | move s c k _ _ _ _ timer =>
    rw [setComp_dry] at left ⊢
    obtain stopped | ⟨notPre, kept⟩ := timer left
    · exact stopped
    · exact kept.trans (rests.resolve_left notPre)
  | stop s run =>
    rw [setComp_dry]
    exact rests.resolve_left (by simp [run])
  | told _ dry _ _ _ ih =>
    rw [dry] at ih
    exact ih rests left

/-- Table 9: formed slots stay formed. -/
theorem slotsFormed (h : Ruled s t) (formed : s.slotsFormed) : t.slotsFormed := by
  have congr {s t : State} (slots : s.SlotsStand t) (comp : t.dry.comp = s.dry.comp) (path : t.path = s.path)
      (formed : s.slotsFormed) : t.slotsFormed := by
    simpa only [State.slotsFormed, dryingSlotFormed, slots.1, slots.2, comp, path] using formed
  induction h with
  | refl => exact formed
  | trans _ _ ih ik => exact ik (ih formed)
  | report slots dry path => exact congr slots (by rw [dry]) path formed
  | move s c => exact setComp_slotsFormed c _
  | stop s => exact setComp_slotsFormed _ _
  | told slots dry path _ _ ih => exact ih (congr slots (by rw [dry]) path formed)

/-- R73: no rule brings the compressor nearer a start before its min-off time. -/
theorem rested (h : Ruled s t) (rested : s.compressorRested) : t.compressorRested := by
  induction h with
  | refl => exact rested
  | trans _ _ ih ik => exact ik (ih rested)
  | report _ dry path => simpa only [State.compressorRested, dry, path] using rested
  | move s c k _ _ rest =>
    simp only [State.compressorRested, setComp_dry, setComp_outside, State.setDry_path]
    rintro (rfl | rfl)
    · exact rest (by decide)
    · exact rest (by decide)
  | stop s => simp [State.compressorRested]
  | told _ dry path _ _ ih =>
    refine ih ?_
    rw [State.compressorRested, dry, path]
    exact rested

/-- R74, R78: the interlocks stay closed where the compressor may run. -/
theorem interlocked (h : Ruled s t) (interlocked : s.compressorInterlocked) : t.compressorInterlocked := by
  induction h with
  | refl => exact interlocked
  | trans _ _ ih ik => exact ik (ih interlocked)
  | report _ dry => simpa only [State.compressorInterlocked, dry] using interlocked
  | move s c k _ target _ start =>
    simp only [State.compressorInterlocked, setComp_dry]
    rintro (rfl | rfl)
    · exact interlocksClosed_of_startHolds s (start rfl)
    · cases target
  | stop s => simp [State.compressorInterlocked]
  | told _ _ _ _ closed => exact closed interlocked

theorem ite {c : Prop} [Decidable c] {t u : State} (h : Ruled s t) (k : Ruled s u) : Ruled s (if c then t else u) := by
  split
  · exact h
  · exact k

end Ruled

/-! ### Drying's rules -/

theorem judgeHold_ruled (s : State) : Ruled s (judgeHold s) := by
  unfold judgeHold
  split
  case h_1 hc =>
    split
    case isTrue done =>
      simp only [Drying.holdDone, Bool.and_eq_true, decide_eq_true_eq] at done
      exact .move s .offReady s.dry.confirmTimer (by simp [hc, CompState.standby]) rfl (fun _ => done.1) nofun
        fun _ => .inr ⟨by simp [hc], rfl⟩
    case isFalse => exact .refl s
  case h_2 hc =>
    exact .ite (.move s .offHold s.dry.confirmTimer (by simp [hc, CompState.standby]) rfl (absurd rfl) nofun
      fun _ => .inr ⟨by simp [hc], rfl⟩) (.refl s)
  case h_3 hc =>
    exact .ite (.move s .offHold none (by simp [hc, CompState.standby]) rfl (absurd rfl) nofun fun _ => .inl rfl) (.refl s)
  all_goals exact .refl s

/-- R73: once the hold has been judged the compressor may start only with its min-off time passed. -/
theorem judgeHold_rested (s : State) : (judgeHold s).compressorRested := by
  unfold judgeHold
  repeat' split
  all_goals simp_all [State.compressorRested, Drying.holdDone]

theorem judgeStart_ruled (s : State) (rested : s.compressorRested) : Ruled s (judgeStart s) := by
  unfold judgeStart
  split
  case h_1 hc =>
    split
    case isTrue start =>
      exact .move s .preRun _ (by simp [hc, CompState.standby]) rfl (fun _ => rested (.inl hc)) (fun _ => start) (absurd rfl)
    case isFalse => exact .refl s
  case h_2 hc =>
    exact .ite (.refl s) (.move s .offReady none (by simp [hc, CompState.standby]) rfl (fun _ => rested (.inr hc)) nofun
      fun _ => .inl rfl)
  all_goals exact .refl s

/-- R75: once the start has been judged PRE_RUN has its permissions. -/
theorem judgeStart_preRun (s : State) (h : (judgeStart s).dry.comp = .preRun) :
    (judgeStart s).dry.interlocksClosed := by
  have closed := interlocksClosed_of_startHolds s
  unfold judgeStart at h ⊢
  repeat' split at h
  all_goals simp_all [Drying.interlocksClosed]

theorem stopCompressor_ruled (s : State) (run : s.dry.comp = .running) : Ruled s (stopCompressor s) :=
  .trans (.stop s run) (judgeHold_ruled _)

theorem immediateStop_ruled (s : State) : Ruled s (immediateStop s) := by
  unfold immediateStop
  split
  case isTrue run => exact stopCompressor_ruled s run
  case isFalse => exact .refl s

theorem judgeDeferred_ruled (s : State) : Ruled s (judgeDeferred s) := by
  unfold judgeDeferred
  split
  case isTrue h => exact stopCompressor_ruled s h.1
  case isFalse => exact .refl s

theorem judgeDrying_ruled (s : State) : Ruled s (judgeDrying s) :=
  ((judgeDeferred_ruled s).trans (judgeHold_ruled _)).trans (judgeStart_ruled _ (judgeHold_rested _))

theorem judgeDrying_rested (s : State) : (judgeDrying s).compressorRested :=
  (judgeStart_ruled _ (judgeHold_rested _)).rested (judgeHold_rested _)

/-- R74, R75: whatever a compressor that does not run was told, the rules leave the interlocks closed in PRE_RUN. -/
theorem judgeDrying_interlocked (s : State) (off : s.dry.comp ≠ .running) : (judgeDrying s).compressorInterlocked := by
  rintro (pre | run)
  · exact judgeStart_preRun _ pre
  · exact absurd run ((judgeDrying_ruled s).dry.off off)

/-! ### All-stop, the tank's level and the reports -/

theorem allStopTold_slots (on : Bool) (s : State) : s.SlotsStand (allStopTold on s) :=
  have kept := AirMover.arbitrate_kept { s.air with allStop := on }
  ⟨kept.drying, kept.defrost⟩

theorem judgeAllStop_ruled (s : State) : Ruled s (judgeAllStop s) := by
  unfold judgeAllStop
  split
  case isFalse => exact .refl s
  case isTrue =>
    exact .told (allStopTold_slots true s) rfl rfl ((immediateStop_ruled _).trans (judgeDrying_ruled _))
      fun _ => judgeDrying_interlocked _ (immediateStop_comp _)

theorem report_ruled {s t : State} (air : t.air = s.air) (dry : t.dry = s.dry) (path : t.path = s.path) : Ruled s t :=
  .report (by rw [State.SlotsStand, air]; exact ⟨rfl, rfl⟩) dry path

theorem raise_ruled (f : Flag) (s : State) : Ruled s (raise f s) := report_ruled rfl rfl rfl
theorem setCondition_ruled (f : Flag) (b : Bool) (s : State) : Ruled s (setCondition f b s) := report_ruled rfl rfl rfl
theorem markIf_ruled (b : Bool) (s : State) : Ruled s (markIf b s) := report_ruled (by simp) (by simp) (by simp)
theorem requestJob_ruled (j : Job) (s : State) : Ruled s (requestJob j s) := report_ruled rfl rfl rfl
theorem setFilter_ruled (f : FilterState) (s : State) : Ruled s (s.setFilter f) := report_ruled rfl rfl rfl
theorem updateLamps_ruled (g : LampEngine → LampEngine) (s : State) : Ruled s (updateLamps g s) := report_ruled rfl rfl rfl

theorem reportCondition_ruled (f : Flag) (b : Bool) (s : State) : Ruled s (reportCondition f b s) :=
  (setCondition_ruled f b s).trans (judgeAllStop_ruled _)

theorem reportChange_ruled (f : Flag) (b : Bool) (s : State) : Ruled s (reportChange f b s) :=
  .ite (.refl s) (reportCondition_ruled f b s)

theorem reportRise_ruled (stage : Stage) (s : State) : Ruled s (reportRise stage s) := by
  have lamps : Ruled s (updateLamps (fun e => { e with stage := stage }) (markChanged s)) :=
    .trans (markIf_ruled true s) (updateLamps_ruled _ _)
  simp only [reportRise]
  split
  · exact lamps
  · exact lamps.trans (raise_ruled _ _)
  · exact lamps.trans (reportCondition_ruled _ _ _)

theorem evaluateFilter_ruled (s : State) : Ruled s (evaluateFilter s) :=
  .ite (setFilter_ruled _ s) ((setFilter_ruled _ s).trans (reportRise_ruled _ _))

/-- R66, R78: the copy of the tank's level, with the stop that FULL and ABSENT ask for. -/
theorem dryingTankReport_ruled (level : TankLevel) (s : State) : Ruled s (dryingTankReport level s) := by
  simp only [dryingTankReport]
  split
  case isTrue =>
    exact .told (t := s.setDry { s.dry with tank := some level }) ⟨rfl, rfl⟩ rfl rfl
      ((immediateStop_ruled _).trans (judgeDrying_ruled _)) fun _ => judgeDrying_interlocked _ (immediateStop_comp _)
  case isFalse noVeto =>
    refine .told (t := s.setDry { s.dry with tank := some level }) ⟨rfl, rfl⟩ rfl rfl (judgeDrying_ruled _)
      fun closed => (judgeDrying_ruled _).interlocked fun may => ?_
    obtain ⟨-, door, allStop⟩ := closed may
    exact ⟨by cases level <;> simp_all, door, allStop⟩

theorem tankReports_ruled (before : TankBlock) (e : TankEvent) (forced : Bool) (s : State) :
    Ruled s (tankReports before e forced s) := by
  simp only [tankReports]
  refine .trans ?_ (.ite (dryingTankReport_ruled _ _) (.refl _))
  refine .trans ?_ (updateLamps_ruled _ _)
  refine .trans (.trans (.trans (.trans ?_ (reportChange_ruled .tankAbsent _ _)) (reportChange_ruled .tankFull _ _))
    (reportChange_ruled .tankHigh _ _)) (reportChange_ruled .pumpFail _ _)
  exact (markIf_ruled _ s).trans (.ite (raise_ruled _ _) (.refl _))

theorem tankEvent_ruled (e : TankEvent) (s : State) : Ruled s (tankEvent e s) := by
  have own (t : TankBlock) : Ruled s (s.setTank t) := report_ruled rfl rfl rfl
  simp only [tankEvent]
  split
  · exact (own _).trans (tankReports_ruled _ _ _ _)
  · exact .ite ((own _).trans (tankReports_ruled _ _ _ _)) (own _)

end Sys2Proof.Machine
end

section
/-! SUPPORT. The compressor's safety (R73, R74, R78) through every event but the airflow report: no event starts the
compressor, brings it nearer a start before its min-off time, or leaves it running or in PRE_RUN against an interlock. -/

namespace Sys2Proof.Machine

/-- From `s` to `t` the settings stay formed, the compressor rested and its interlocks closed. -/
structure State.CompressorSafe (s t : State) : Prop where
  formed : s.path.settingsFormed → t.path.settingsFormed
  rested : s.path.settingsFormed → s.compressorRested → t.compressorRested
  interlocked : s.compressorInterlocked → t.compressorInterlocked

/-- The compressor safe, and not started. -/
structure State.CompressorKept (s t : State) : Prop extends s.CompressorSafe t where
  off : s.dry.comp ≠ .running → t.dry.comp ≠ .running

/-- The figures of drying that make the compressor safe. -/
def Drying.startFigures (d : Drying) : CompState × Nat × Option TankLevel × DoorCopy × Bool :=
  (d.comp, d.offTime, d.tank, d.door, d.allStop)

theorem State.CompressorSafe.trans {s t u : State} (h : s.CompressorSafe t) (k : t.CompressorSafe u) :
    s.CompressorSafe u where
  formed := k.formed ∘ h.formed
  rested formed rested := k.rested (h.formed formed) (h.rested formed rested)
  interlocked := k.interlocked ∘ h.interlocked

namespace State.CompressorKept

variable {s t u : State}

/-! ### Steps of an event -/

theorem trans (h : s.CompressorKept t) (k : t.CompressorKept u) : s.CompressorKept u :=
  ⟨h.toCompressorSafe.trans k.toCompressorSafe, k.off ∘ h.off⟩

theorem ite {c : Prop} [Decidable c] (h : s.CompressorKept t) (k : s.CompressorKept u) :
    s.CompressorKept (if c then t else u) := by
  split
  · exact h
  · exact k

/-- A change outside the figures of drying, which leaves the settings formed and min off as it was. -/
theorem of_figures (dry : t.dry.startFigures = s.dry.startFigures)
    (formed : s.path.settingsFormed → t.path.settingsFormed)
    (minOff : t.path.working.minOffSeconds = s.path.working.minOffSeconds) : s.CompressorKept t := by
  simp only [Drying.startFigures, Prod.mk.injEq] at dry
  obtain ⟨comp, offTime, tank, door, allStop⟩ := dry
  refine ⟨⟨formed, fun _ => ?_, ?_⟩, by rw [comp]; exact id⟩
  · rw [compressorRested, compressorRested, comp, offTime, minOff]
    exact id
  · simp only [compressorInterlocked, Drying.interlocksClosed, comp, tank, door, allStop]
    exact id

/-- A change outside the settings and the figures of drying. -/
theorem of_eq (dry : t.dry.startFigures = s.dry.startFigures) (raw : t.path.raw = s.path.raw)
    (working : t.path.working = s.path.working) : s.CompressorKept t :=
  .of_figures dry (by rw [MemoryPath.settingsFormed, MemoryPath.settingsFormed, raw, working]; exact id) (by rw [working])

theorem refl (s : State) : s.CompressorKept s := .of_eq rfl rfl rfl

/-- An event without effect where it does not apply. -/
theorem guarded {c : Prop} [Decidable c] (h : s.CompressorKept t) : s.CompressorKept (if c then t else s) := ite h (.refl s)

theorem ruled (h : s.CompressorKept t) (k : Ruled t u) : s.CompressorKept u :=
  h.trans ⟨⟨by rw [k.path]; exact id, fun _ => k.rested, k.interlocked⟩, k.dry.off⟩

/-- A change of drying that its rules follow at once, as after a write of min off (R73). -/
theorem judged (dry : t.dry.startFigures = s.dry.startFigures) (formed : s.path.settingsFormed → t.path.settingsFormed) :
    s.CompressorKept (judgeDrying t) := by
  simp only [Drying.startFigures, Prod.mk.injEq] at dry
  obtain ⟨comp, -, tank, door, allStop⟩ := dry
  have rules := judgeDrying_ruled t
  refine ⟨⟨by rw [rules.path]; exact formed, fun _ _ => judgeDrying_rested t, fun closed => rules.interlocked ?_⟩, ?_⟩
  · rw [compressorInterlocked, Drying.interlocksClosed, comp, tank, door, allStop]
    exact closed
  · rw [← comp]
    exact rules.dry.off

/-- A compressor state in which neither a start nor an interlock is a matter. -/
theorem setComp (c : CompState) (path : t.path = s.path) (idle : c ≠ .offReady ∧ c ≠ .preRun ∧ c ≠ .running) :
    s.CompressorKept (setComp c t) := by
  obtain ⟨ready, pre, run⟩ := idle
  refine ⟨⟨by simp [path], ?_, ?_⟩, ?_⟩
  all_goals simp [compressorRested, compressorInterlocked, ready, pre, run]

/-- A reset or a load leaves the compressor in OFF_HOLD. -/
theorem of_offHold (formed : t.path.settingsFormed) (comp : t.dry.comp = .offHold) : s.CompressorKept t := by
  refine ⟨⟨fun _ => formed, ?_, ?_⟩, ?_⟩
  all_goals simp [compressorRested, compressorInterlocked, comp]

/-! ### Reports to drying (R66) -/

theorem tellLearnPending (b : Bool) (s : State) : s.CompressorKept (tellLearnPending b s) := .judged rfl id
theorem dryingFanStall (b : Bool) (s : State) : s.CompressorKept (dryingFanStall b s) := .judged rfl id
theorem dryingSupplyReport (b : Bool) (s : State) : s.CompressorKept (dryingSupplyReport b s) := .judged rfl id

theorem evaluateDemand_figures (s : State) : (evaluateDemand s).dry.startFigures = s.dry.startFigures := by
  simp only [evaluateDemand, State.setDry_dry, Drying.evaluateDemand]
  repeat' split
  all_goals rfl

theorem evaluateDemand (s : State) : s.CompressorKept (evaluateDemand s) := .of_eq (evaluateDemand_figures s) rfl rfl

theorem dryingModeReport (m : ModeState) (s : State) : s.CompressorKept (dryingModeReport m s) :=
  .judged (evaluateDemand_figures (s.setDry { s.dry with mode := m })) id

theorem reportProgress (p : Nat) (s : State) : s.CompressorKept (reportProgress p s) := .of_eq rfl rfl rfl

theorem measurePoint (i : Nat) (s : State) : s.CompressorKept (measurePoint i s) := .of_eq rfl rfl rfl

theorem leaveWaiting (s : State) : s.CompressorKept (leaveWaiting s) := .guarded (measurePoint 0 s)

theorem abandonSweep (s : State) : s.CompressorKept (abandonSweep s) := by
  have ended : s.CompressorKept (s.setAir s.air.endSweep) := .of_eq rfl rfl rfl
  have told := (ended.trans (reportProgress 11 _)).trans (tellLearnPending false _)
  exact .ite (.refl s) (told.ruled (raise_ruled _ _))

theorem startSweep (s : State) : s.CompressorKept (startSweep s) := by
  have told : s.CompressorKept (sweepAsked s) := .judged rfl id
  rw [startSweep_eq]
  exact .ite (told.trans (.of_eq rfl rfl rfl)) (told.trans (measurePoint 0 _))

/-! ### Switches (R17, R18) -/

/-- R78: the open door stops the compressor, and the closed one leaves it to the other interlocks. -/
theorem doorReport (isOpen : Bool) (s : State) : s.CompressorKept (doorReport isOpen s) := by
  have off := (doorReport_undisturbed isOpen s).dry.compOff
  rw [doorReport_eq] at off ⊢
  cases isOpen with
  | true =>
    have path : (filterDoorReport true (airDoorReport true (doorCopied true s))).path = s.path := by simp [doorCopied]
    generalize filterDoorReport true (airDoorReport true (doorCopied true s)) = u at path off
    have stopped : dryingDoorReport true u = judgeDrying (immediateStop u) := rfl
    rw [stopped] at off ⊢
    refine ⟨⟨?_, fun _ _ => judgeDrying_rested _, fun _ => judgeDrying_interlocked _ (immediateStop_comp u)⟩, off⟩
    rw [(judgeDrying_ruled _).path, (immediateStop_ruled u).path, path]
    exact id
  | false =>
    have copied : s.CompressorKept (doorCopied false s) := by
      refine ⟨⟨id, fun _ => id, fun closed may => ?_⟩, id⟩
      obtain ⟨tank, -, allStop⟩ := closed may
      exact ⟨tank, rfl, allStop⟩
    have arbitrated : s.CompressorKept ((doorCopied false s).setAir (doorCopied false s).air.arbitrate) :=
      copied.trans (.of_eq rfl rfl rfl)
    have told : s.CompressorKept (airDoorReport false (doorCopied false s)) := arbitrated.trans (leaveWaiting _)
    exact ((told.ruled (setFilter_ruled _ _)).ruled (reportCondition_ruled _ _ _)).ruled (judgeDrying_ruled _)

theorem switchReport (sw : Switch) (b : Bool) (s : State) : s.CompressorKept (switchReport sw b s) := by
  cases sw with
  | door => exact doorReport b s
  | highFloat => exact (refl s).ruled (tankEvent_ruled (.highFloat b) s)
  | fullFloat => exact (refl s).ruled (tankEvent_ruled (.fullFloat b) s)
  | tankPresent => exact (refl s).ruled (tankEvent_ruled (.present b) s)

theorem debounceExpiry (sw : Switch) (s : State) : s.CompressorKept (debounceExpiry sw s) := by
  have taken (f : FrontEnd) : s.CompressorKept (s.setFront f) := .of_eq rfl rfl rfl
  exact .ite (taken _) ((taken _).trans (switchReport sw _ _))

theorem settlingExpiry (s : State) : s.CompressorKept (settlingExpiry s) := by
  have settled : s.CompressorKept (s.setFront (s.front.settled s.pins s.path.working)) := .of_eq rfl rfl rfl
  rw [settlingExpiry_eq]
  exact (settled.ruled (tankEvent_ruled _ _)).trans (doorReport _ _)

theorem restartDebounce (sw : Switch) (s : State) : s.CompressorKept (restartDebounce sw s) := .guarded (.of_eq rfl rfl rfl)

theorem switchRawChange (sw : Switch) (high : Bool) (s : State) : s.CompressorKept (switchRawChange sw high s) := by
  have moved (p : Pins) : s.CompressorKept (s.setPins p) := .of_eq rfl rfl rfl
  exact .ite ((moved _).trans (restartDebounce sw _)) (moved _)

/-! ### The converter channels and the particle input (R7, R12, R20) -/

theorem judgeSupply (s : State) : s.CompressorKept (judgeSupply s) := by
  have detected (low : Bool) : s.CompressorKept (s.setFront { s.front with supplyLow := low }) := .of_eq rfl rfl rfl
  have told (b : Bool) (t : State) : t.CompressorKept (Machine.dryingSupplyReport b (airSupplyReport b t)) := .judged rfl id
  exact .ite (.refl s) (.trans (.ite ((detected _).ruled (raise_ruled _ _)) (detected _)) (told _ _))

theorem statusReport (ch : Channel) (s : State) : s.CompressorKept (statusReport ch s) := by
  cases ch with
  | rh => exact .judged (evaluateDemand_figures s) id
  | troom => exact .judged rfl id
  | tevap =>
    have run : s.CompressorKept (s.setDry { s.dry with frostRun := 0 }) := .of_eq rfl rfl rfl
    exact .ruled (.ite (.refl s) run) (judgeDrying_ruled _)
  | tcond => exact .judged rfl id
  | supply => exact .refl s

theorem converterArrival (ch : Channel) (code : BitVec 10) (s : State) : s.CompressorKept (converterArrival ch code s) := by
  have taken (f : FrontEnd) : s.CompressorKept (s.setFront f) := .of_eq rfl rfl rfl
  have judged : s.CompressorKept (arrivalJudged ch code s) := (taken _).ruled (reportChange_ruled _ _ _)
  have reported : s.CompressorKept (arrivalReported ch code s) := .ite judged (judged.trans (statusReport ch _))
  rw [converterArrival_eq]
  exact .ite (reported.trans (judgeSupply _)) reported

theorem particleWindowEnd (s : State) : s.CompressorKept (particleWindowEnd s) := by
  have taken (f : FrontEnd) : s.CompressorKept (s.setFront f) := .of_eq rfl rfl rfl
  have air (p : Nat) (t : State) : t.CompressorKept (airWindowEnd p t) := .of_eq rfl rfl rfl
  rw [particleWindowEnd_eq]
  exact ((taken _).ruled (reportChange_ruled _ _ _)).trans (air _ _)

/-! ### The air mover's events (R32, R34, R44) -/

theorem reportFanStall (b : Bool) (s : State) : s.CompressorKept (reportFanStall b s) :=
  ((refl s).ruled (reportCondition_ruled _ _ _)).trans (dryingFanStall b _)

theorem declareStall (s : State) : s.CompressorKept (declareStall s) := by
  have stalled : s.CompressorKept (s.setAir s.air.stall) := .of_eq rfl rfl rfl
  have reported : s.CompressorKept (stallReported s) := .ite stalled (stalled.trans (reportFanStall true _))
  exact (reported.ruled (immediateStop_ruled _)).trans (abandonSweep _)

theorem stallCheck (s : State) : s.CompressorKept (stallCheck s) := by
  have counted : s.CompressorKept (stallCounted s) := .of_eq rfl rfl rfl
  have ended (t : State) : t.CompressorKept (completeCleanRun t) :=
    .trans (t := t.setAir { t.air with retries := 0, cleanRun := 0 }) (.of_eq rfl rfl rfl) (reportFanStall false _)
  rw [stallCheck_eq]
  exact .ite (declareStall s) (.ite (counted.trans (ended _)) counted)

theorem completeSweep (results : List Nat) (s : State) : s.CompressorKept (completeSweep results s) := by
  have ended : s.CompressorKept (s.setAir (s.air.relearned results)) := .of_eq rfl rfl rfl
  have evaluated : s.CompressorKept (sweepJudged results s) :=
    (ended.ruled (markIf_ruled _ _)).ruled (evaluateFilter_ruled _)
  have told (t : State) : t.CompressorKept (sweepTold 10 t) := .judged rfl id
  rw [completeSweep_eq]
  exact (evaluated.trans (told _)).ruled (requestJob_ruled _ _)

theorem placeResult (i : Nat) (taken : List Nat) (s : State) : s.CompressorKept (placeResult i taken s) := by
  have placed (r : List Nat) : s.CompressorKept (s.setAir { s.air with scratch := r }) := .of_eq rfl rfl rfl
  exact .ite (abandonSweep s) (.ite ((placed _).trans (measurePoint _ _)) (completeSweep _ s))

theorem learnReading (s : State) : s.CompressorKept (learnReading s) := by
  unfold Machine.learnReading
  split
  · exact .ite (.of_eq rfl rfl rfl) (placeResult _ _ s)
  · exact .refl s

/-! ### Drying's own events (R67 to R92) -/

theorem checkTrip (s : State) : s.CompressorKept (checkTrip s) := by
  have left (c : CompState) (b : Bool) (d : Drying) (idle : c ≠ .offReady ∧ c ≠ .preRun ∧ c ≠ .running) :
      s.CompressorKept (Machine.setComp c (markIf b (s.setDry d))) := setComp c (by simp) idle
  unfold Machine.checkTrip
  split
  · refine .guarded (.ruled (.ite ?_ ?_) (requestJob_ruled _ _))
    · exact (left .lockedOut _ _ (by decide)).ruled (reportCondition_ruled _ _ _)
    · exact (left .tripped _ _ (by decide)).ruled (reportCondition_ruled _ _ _)
  · have ended : s.CompressorKept (Machine.setComp .offHold s) := setComp .offHold rfl (by decide)
    exact .guarded ((ended.ruled (reportCondition_ruled _ _ _)).ruled (judgeHold_ruled _))
  all_goals exact .refl s

theorem checkWarning (s : State) : s.CompressorKept (checkWarning s) := by
  have warned (on : Bool) : s.CompressorKept (setWarning on s) := by
    cases on with
    | true => exact .of_eq rfl rfl rfl
    | false => exact .of_eq rfl rfl rfl
  exact .guarded (.ite (warned _) (.guarded (warned _)))

theorem enterDefrost (s : State) : s.CompressorKept (enterDefrost s) := setComp .defrost (by simp) (by decide)

theorem endDefrost (s : State) : s.CompressorKept (endDefrost s) := by
  have ended (d : Drying) : s.CompressorKept (Machine.setComp .offHold (s.setDry d)) := setComp .offHold rfl (by decide)
  exact (ended _).ruled (judgeHold_ruled _)

theorem checkDefrost (s : State) : s.CompressorKept (checkDefrost s) := by
  unfold Machine.checkDefrost
  split
  · exact .ite (enterDefrost s) (.of_eq rfl rfl rfl)
  · exact .ite (endDefrost s) (.of_eq rfl rfl rfl)
  all_goals exact .refl s

theorem dryingCheck (s : State) : s.CompressorKept (dryingCheck s) :=
  ((((checkTrip s).trans (checkWarning _)).trans (checkDefrost _)).trans (evaluateDemand _)).ruled (judgeDrying_ruled _)

end State.CompressorKept
end Sys2Proof.Machine
end

section
/-! SUPPORT. The compressor's safety through drying's timers, the commands of Table 30, the memory path, the resets and the
stored-image unit, to every command of the table and the idle step. -/

namespace Sys2Proof.Machine

/-- R73: min off is at most 600 s. -/
theorem MemoryPath.settingsFormed.minOff_le {p : MemoryPath} (h : p.settingsFormed) : p.working.minOffSeconds ≤ 600 := by
  have range := workingByte_range (off := 0x1C) (lo := 12) (hi := 60) p.raw rfl (by decide) (by decide)
  rw [Settings.minOffSeconds, Settings.nat, Settings.byte, h.2.1, workingImage_getD _ _ (by decide)]
  omega

/-- R137: a write of another setting leaves min off as it is. -/
theorem MemoryPath.takeSetting_minOff (p : MemoryPath) {off : Nat} (v : Byte) (h : off ≠ 0x1C) :
    (p.takeSetting off v).working.minOffSeconds = p.working.minOffSeconds := by
  have other : 0x1C ∉ settingGroup off := by
    intro member
    exact h (by simpa [settingGroup] using mem_settingGroup_comm member)
  rw [Settings.minOffSeconds, Settings.minOffSeconds, Settings.nat, Settings.nat, takeSetting_byte,
    if_neg fun h => other h.1]

namespace State.CompressorKept

variable {s t : State}

/-! ### Drying's timers (R70, R73, R77, R81, R85) -/

/-- R73: an off-time expiry takes the off time nearer to min off, never past it. -/
theorem offTimeExpiry (s : State) : s.CompressorKept (offTimeExpiry s) := by
  have counted (k : Timer) :
      s.CompressorKept (s.setDry { s.dry with offTime := satAdd 600 s.dry.offTime 1, offTimer := k }) := by
    refine ⟨⟨id, fun formed rested may => ?_, id⟩, id⟩
    have least := formed.minOff_le
    have rests : s.path.working.minOffSeconds ≤ s.dry.offTime := rested may
    show s.path.working.minOffSeconds ≤ min 600 (s.dry.offTime + 1)
    omega
  exact .ite (((counted _).ruled (judgeHold_ruled _)).ruled (judgeStart_ruled _ (judgeHold_rested _))) (counted _)

theorem confirmationExpiry (s : State) : s.CompressorKept (confirmationExpiry s) := by
  have left (d : Drying) : s.CompressorKept (Machine.setComp .offHold (s.setDry d)) := setComp .offHold rfl (by decide)
  exact (left _).ruled (reportCondition_ruled _ _ _)

theorem extraHoldExpiry (s : State) : s.CompressorKept (extraHoldExpiry s) := by
  have ended : s.CompressorKept (s.setDry { s.dry with extraHold := none }) := .of_eq rfl rfl rfl
  exact (ended.ruled (judgeHold_ruled _)).ruled (judgeStart_ruled _ (judgeHold_rested _))

theorem runSecondExpiry (s : State) : s.CompressorKept (runSecondExpiry s) := by
  have minute (n : Nat) : Drying.startFigures { s.dry.runSecond.runMinute with runSeconds := n } = s.dry.startFigures := by
    unfold Drying.runMinute
    split
    · rfl
    · rfl
  have carried (n : Nat) : s.CompressorKept (markChanged (s.setDry { s.dry.runSecond.runMinute with runSeconds := n })) :=
    .of_eq (minute n) rfl rfl
  exact .ite (judged rfl id) (((carried _).ruled (tankEvent_ruled _ _)).ruled (judgeDrying_ruled _))

theorem defrostMaxExpiry (s : State) : s.CompressorKept (defrostMaxExpiry s) := by
  have rested : (raise .defrostLong (Machine.endDefrost s)).compressorRested := judgeHold_rested _
  exact ((endDefrost s).ruled (raise_ruled _ _)).ruled (judgeStart_ruled _ rested)

theorem timedCycleExpiry (s : State) : s.CompressorKept (judgeDrying (s.setDry s.dry.timedExpiry)) := by
  refine .judged ?_ id
  simp only [State.setDry_dry, Drying.timedExpiry]
  split
  all_goals rfl

/-! ### The commands of Table 30 and supervision (R61, R90, R169, R172) -/

theorem dryingClearLockout (s : State) : s.CompressorKept (dryingClearLockout s) := by
  have cleared (d : Drying) : s.CompressorKept (Machine.setComp .offHold (s.setDry d)) := setComp .offHold rfl (by decide)
  exact .guarded ((((cleared _).ruled (reportCondition_ruled _ _ _)).ruled (judgeHold_ruled _)).ruled
    (judgeStart_ruled _ (judgeHold_rested _)))

/-- R172: the end of all-stop opens no interlock. -/
theorem endAllStop (s : State) : s.CompressorKept (setAllStop false s) := by
  have told : s.CompressorKept (allStopTold false s) := by
    refine ⟨⟨id, fun _ => id, fun closed may => ?_⟩, id⟩
    obtain ⟨tank, door, -⟩ := closed may
    exact ⟨tank, door, rfl⟩
  rw [setAllStop_eq]
  exact told.ruled (judgeDrying_ruled _)

theorem accept (status : CommandStatus) (awaited : Awaited) (s : State) : s.CompressorKept (accept status awaited s) :=
  .of_eq rfl rfl rfl

theorem refuse (status : CommandStatus) (s : State) : s.CompressorKept (refuse status s) := .of_eq rfl rfl rfl

theorem clearFilter (s : State) : s.CompressorKept (clearFilter s) := by
  have renewed : s.CompressorKept (filterRenewed s) := by
    obtain ⟨-, -, -, path, -⟩ := filterRenewed_blocks s
    exact .of_eq (by simp [filterRenewed]) (by rw [path]) (by rw [path])
  have evaluated := (renewed.ruled (evaluateFilter_ruled _)).ruled (reportChange_ruled .filterExhausted false _)
  rw [clearFilter_eq]
  exact (evaluated.ruled (updateLamps_ruled _ _)).ruled (requestJob_ruled _ _)

theorem filterReset (s : State) : s.CompressorKept (filterReset s) :=
  .ite (((accept _ _ s).trans (clearFilter _)).trans (startSweep _)) ((accept _ _ s).trans (clearFilter _))

theorem learnBaseline (s : State) : s.CompressorKept (learnBaseline s) :=
  .ite (refuse _ s) (.ite (refuse _ s) ((accept _ _ s).trans (startSweep _)))

theorem abortLearn (s : State) : s.CompressorKept (abortLearn s) :=
  .ite ((accept _ _ s).trans (abandonSweep _)) (refuse _ s)

theorem defrostNow (s : State) : s.CompressorKept (defrostNow s) :=
  .ite ((accept _ _ s).trans (enterDefrost _)) (refuse _ s)

theorem clearLockout (s : State) : s.CompressorKept (clearLockout s) := by
  have air (t : State) : t.CompressorKept (airClearLockout t) := .guarded (.of_eq rfl rfl rfl)
  exact .ite ((((accept _ _ s).trans (dryingClearLockout _)).trans (air _)).ruled (requestJob_ruled _ _)) (refuse _ s)

theorem leaveStandalone (s : State) : s.CompressorKept (leaveStandalone s) := by
  have ended : s.CompressorKept (allStopEnded s) := .guarded (endAllStop s)
  have told (t : State) : t.CompressorKept (judgeDrying (normalTold t)) :=
    .judged (evaluateDemand_figures (s := _)) (by simp [normalTold])
  have done (t : State) : t.CompressorKept (resumeDone t) := .of_eq rfl rfl rfl
  rw [leaveStandalone_eq]
  exact ((ended.trans (told _)).ruled (reportCondition_ruled .standalone false _)).trans (done _)

theorem resume (s : State) : s.CompressorKept (resume s) := .ite (leaveStandalone s) (refuse _ s)

theorem judgeCommand (code : Byte) (s : State) : s.CompressorKept (judgeCommand code s) :=
  .ite (filterReset s) (.ite (learnBaseline s) (.ite (abortLearn s) (.ite (defrostNow s) (.ite (clearLockout s)
    (.ite (resume s) (.ite ((accept _ _ s).ruled (requestJob_ruled _ _)) (.ite (accept _ _ s) (refuse _ s))))))))

theorem enterStandalone (s : State) : s.CompressorKept (enterStandalone s) := by
  have entered (c : CommandBlock) :
      s.CompressorKept (airModeReport .standalone (setCondition .standalone true (s.setCmd c))) :=
    .of_eq rfl rfl rfl
  have judged := (((entered { s.cmd with mode := .standalone, count := 0, counting := none }).trans
    (abandonSweep _)).trans (dryingModeReport .standalone _)).ruled (judgeAllStop_ruled _)
  have pulsed (t : State) : t.CompressorKept (t.setStore t.store.startPulse) := .of_eq rfl rfl rfl
  simp only [Machine.enterStandalone]
  exact .ite (judged.trans (pulsed _)) judged

theorem supervisionCount (s : State) : s.CompressorKept (supervisionCount s) :=
  .ite (enterStandalone s) (.of_eq rfl rfl rfl)

/-! ### The memory path (R127, R135 to R144) -/

theorem delivered {old : Settings} (h : Delivered old s t) : s.CompressorKept t := by
  have slots (f : AirMover → AirMover) : s.CompressorKept (changeSlots f s) := .of_eq rfl rfl rfl
  cases h with
  | readWhereUsed => exact .refl s
  | mode => exact .ruled (.ite (slots _) ((slots _).trans (evaluateDemand _))) (judgeDrying_ruled _)
  | speeds => exact slots _
  | setpoint m => exact .ruled (.guarded (evaluateDemand s)) (judgeDrying_ruled _)
  | band => exact (evaluateDemand s).ruled (judgeDrying_ruled _)
  | drying => exact (refl s).ruled (judgeDrying_ruled _)
  | dryDuty => exact (slots _).ruled (judgeDrying_ruled _)
  | defrostDuty => exact slots _
  | standaloneDuty => exact slots _
  | filter => exact (refl s).ruled (evaluateFilter_ruled s)
  | tank off => exact .ite (.refl s) ((refl s).ruled (tankEvent_ruled _ s))
  | polarity =>
    have entry (t : State) (sw : Switch) : t.CompressorKept (polarityEntry old t sw) :=
      .ite (.refl t) (restartDebounce sw t)
    exact (((entry s .highFloat).trans (entry _ .fullFloat)).trans (entry _ .tankPresent)).trans (entry _ .door)
  | threshold => exact .ite (.refl s) (judgeSupply s)
  | lamps => exact (refl s).ruled (updateLamps_ruled _ s)
  | lampLevel => exact .of_eq rfl rfl rfl
  | policy => exact (refl s).ruled (judgeAllStop_ruled s)

theorem recordClamp (clamped : Option Nat) (s : State) : s.CompressorKept (recordClamp clamped s) := by
  cases clamped with
  | none => exact .refl s
  | some off => exact .of_eq rfl rfl rfl

theorem settingEnded (s : State) : s.CompressorKept (settingEnded s) := by
  rw [settingEnded_eq]
  exact .of_eq rfl rfl rfl

/-- R73, R135: a write of min off is followed by its judgement; another leaves min off as it is. -/
theorem takeSettingWrite (off : Nat) (v : Byte) (s : State) : s.CompressorKept (takeSettingWrite off v s) := by
  have taken (formed : s.path.settingsFormed) := formed.takeSetting off v
  have clamped (n : Option Nat) (t : State) : (Machine.recordClamp n t).dry = t.dry ∧ (t.path.settingsFormed →
      (Machine.recordClamp n t).path.settingsFormed) := by
    cases n with
    | none => exact ⟨rfl, id⟩
    | some off => exact ⟨rfl, id⟩
  by_cases minOff : off = 0x1C
  · subst minOff
    obtain ⟨dry, formed⟩ := clamped (clampedBy s.path.working.bytes (s.path.takeSetting 0x1C v).working.bytes
      (s.path.takeSetting 0x1C v).raw 0x1C) (s.setPath (s.path.takeSetting 0x1C v))
    exact (judged (by rw [dry]; rfl) (formed ∘ taken)).trans (settingEnded _)
  · have written : s.CompressorKept (s.setPath (s.path.takeSetting off v)) :=
      .of_figures rfl taken (s.path.takeSetting_minOff v minOff)
    exact ((written.trans (recordClamp _ _)).trans (delivered (deliverSetting_delivered s.path.working off _))).trans
      (settingEnded _)

theorem takeHexhLow (v : Byte) (s : State) : s.CompressorKept (takeHexhLow v s) := by
  have staged : s.CompressorKept (s.setPath { s.path with raw := s.path.raw.set 0x18 v, hexhStage := some v }) :=
    .of_figures rfl (fun h => h.setPair v (some v) (off := 0x18) rfl rfl h.2.2) rfl
  exact staged.trans (settingEnded _)

theorem takeHexhHigh (v : Byte) (s : State) : s.CompressorKept (takeHexhHigh v s) := by
  have range : 1 ≤ clampNat 1 730 (s.path.hexhPair v) ∧ clampNat 1 730 (s.path.hexhPair v) ≤ 730 := by
    unfold clampNat
    omega
  have paired : s.CompressorKept (s.setPath { s.path with
      raw := s.path.raw.set 0x19 v, hexhStage := none,
      working := { s.path.working with hexh := clampNat 1 730 (s.path.hexhPair v) } }) :=
    .of_figures rfl (fun h => h.setPair v none (off := 0x19) rfl rfl range) rfl
  exact ((paired.trans (recordClamp _ _)).ruled (evaluateFilter_ruled _)).trans (settingEnded _)

theorem busWrite (m : BitVec 15) (v : Byte) (waits : Nat) (s : State) : s.CompressorKept (busWrite m v waits s) :=
  .of_eq rfl rfl rfl

theorem commandByte (code : Byte) (s : State) : s.CompressorKept (commandByte code s) := by
  have noted (p : MemoryPath) (raw : p.raw = s.path.raw) (working : p.working = s.path.working) :
      s.CompressorKept ((noteCommand code s).setPath p) := .of_eq rfl raw working
  refine .ite (.of_offHold (State.fanSafe.beginRestart _).1 rfl) ?_
  exact (noted { s.path with armed := decide (code = codeRestartArm) } rfl rfl).trans (judgeCommand code _)

theorem controllerWrite (m : BitVec 15) (v : Byte) (s : State) : s.CompressorKept (controllerWrite m v s) := by
  have stray (off : Byte) (t : State) : t.CompressorKept (takeStray off t) := .of_eq rfl rfl rfl
  have anchor (t : State) : t.CompressorKept (takeAnchor v t) := .ite (.refl t) (.of_eq rfl rfl rfl)
  have latched (off : Byte) (t : State) : t.CompressorKept (takeLatched off v t) := .of_eq rfl rfl rfl
  simp only [Machine.controllerWrite]
  split
  · exact busWrite _ _ _ s
  · exact busWrite _ _ _ s
  · exact (busWrite _ _ _ s).trans (anchor _)
  · exact (busWrite _ _ _ s).trans (.ite (takeHexhLow v _) (.ite (takeHexhHigh v _) (takeSettingWrite _ v _)))
  · exact (busWrite _ _ _ s).trans (commandByte v _)
  · exact (busWrite _ _ _ s).trans (latched _ _)
  all_goals exact (busWrite _ _ _ s).trans (stray _ _)

theorem controllerRead (m : BitVec 15) (s : State) : s.CompressorKept (controllerRead m s) := by
  have loaded (off : Byte) : s.CompressorKept (loadHolder off s) := by
    unfold loadHolder
    split
    · exact .guarded (.of_eq rfl rfl rfl)
    · exact .refl s
  have read (b : Byte) (waits : Nat) (n : NoticeUnit) (t : State) : t.CompressorKept ((busRead b waits t).setNotice n) :=
    .of_eq rfl rfl rfl
  exact .ite (.ite ((loaded _).trans (read _ _ _ _)) ((loaded _).trans (.of_eq rfl rfl rfl))) (.of_eq rfl rfl rfl)

theorem windowWrite (off v : Byte) (s : State) : s.CompressorKept (windowWrite off v s) := .guarded (controllerWrite _ v s)

theorem windowRead (off : Byte) (s : State) : s.CompressorKept (windowRead off s) := .guarded (controllerRead _ s)

/-! ### Resets, loads and the stored-image unit -/

theorem wholeReset (cause : ResetCause) (written : Nat) (u : State) : s.CompressorKept (wholeReset cause written u) :=
  .of_offHold (State.fanSafe.wholeReset cause written u).1 rfl

theorem setPins (p : Pins) (s : State) : s.CompressorKept (s.setPins p) := .of_eq rfl rfl rfl

theorem judgeLoadedFilter (s : State) : s.CompressorKept (judgeLoadedFilter s) := by
  simp only [Machine.judgeLoadedFilter]
  exact (((refl s).ruled (evaluateFilter_ruled s)).ruled (reportChange_ruled _ _ _)).ruled (updateLamps_ruled _ _)

theorem loadComplete (pfwLow : Bool) (s : State) : s.CompressorKept (loadComplete pfwLow s) := by
  have loaded : s.CompressorKept (takeLoad (loadReads s.memory) (loadOccurrences (loadReads s.memory) s)) :=
    .of_offHold (State.fanSafe.takeLoad _ (State.fanSafe.loadReads_raw_length s.memory) _).1 rfl
  have urgent (t : State) : t.CompressorKept (requestUrgent t) := .of_eq rfl rfl rfl
  have judged (p : Pins) := (loaded.trans (judgeLoadedFilter _)).trans (setPins p _)
  exact .ite ((judged _).trans (urgent _)) (judged _)

theorem drainJobComplete (s : State) : s.CompressorKept (drainJobComplete s) := by
  have path (sv : Service) : (s.path.takeBurst sv).raw = s.path.raw ∧ (s.path.takeBurst sv).working = s.path.working := by
    cases sv <;> exact ⟨rfl, rfl⟩
  unfold Machine.drainJobComplete
  split
  case h_1 d j rest _ _ =>
    obtain ⟨raw, working⟩ := path (drainService s.store d j)
    exact .ite (.of_eq rfl raw working) (.of_eq rfl raw working)
  all_goals exact .refl s

theorem holdackRise (s : State) : s.CompressorKept (holdackRise s) := by
  unfold Machine.holdackRise
  split
  all_goals exact .of_eq rfl rfl rfl

theorem holdackFall (written : Nat) (s : State) : s.CompressorKept (holdackFall written s) := by
  have cut (sv : Service) : s.CompressorKept (cutBurst sv written s) := by cases sv <;> exact .of_eq rfl rfl rfl
  unfold Machine.holdackFall
  split
  · split
    · exact cut _
    · exact .refl s
  · exact .of_eq rfl rfl rfl
  · exact .ite (.refl s) (.of_eq rfl rfl rfl)
  · exact .refl s

theorem refuseHold (s : State) : s.CompressorKept (refuseHold s) := .ite (.of_eq rfl rfl rfl) (.of_eq rfl rfl rfl)

theorem burstComplete (s : State) : s.CompressorKept (burstComplete s) := by
  have finished (sv : Service) : s.CompressorKept (finishBurst sv s) := by cases sv <;> exact .of_eq rfl rfl rfl
  unfold Machine.burstComplete
  split
  · exact finished _
  all_goals exact .refl s

theorem saveTimerExpiry (s : State) : s.CompressorKept (saveTimerExpiry s) :=
  .ite (.ite (.of_eq rfl rfl rfl) (.of_eq rfl rfl rfl)) (.of_eq rfl rfl rfl)

/-! ### Every command but the airflow report, and the idle step -/

theorem tick (s : State) : s.CompressorKept (tick s) := .of_eq rfl rfl rfl

/-- Every command but the airflow period keeps the compressor safe and starts it not. -/
theorem exec (c : Instr) (hc : c ≠ .airflowPeriod) (s : State) : ∃ t, exec c s = .next t ∧ s.CompressorKept t := by
  have aside {t : State} (dry : t.dry = s.dry) (path : t.path = s.path) : s.CompressorKept t :=
    .of_eq (by rw [dry]) (by rw [path]) (by rw [path])
  cases c with
  | powerOn n => exact ⟨_, rfl, wholeReset _ _ _⟩
  | nresetAssert n => exact ⟨_, rfl, wholeReset _ _ _⟩
  | nresetRelease => exact ⟨_, rfl, .ite (aside rfl rfl) (aside rfl rfl)⟩
  | loadDelayExpiry => exact ⟨_, rfl, .guarded (aside rfl rfl)⟩
  | loadComplete pfwLow => exact ⟨_, rfl, .guarded (loadComplete _ s)⟩
  | converterArrival ch code => exact ⟨_, rfl, .guarded (converterArrival _ _ s)⟩
  | particleSample high => exact ⟨_, rfl, .guarded (aside rfl rfl)⟩
  | particleWindowEnd => exact ⟨_, rfl, .guarded (particleWindowEnd s)⟩
  | tachEdge e k => exact ⟨_, rfl, .guarded (.guarded (aside rfl rfl))⟩
  | stoppedReport => exact ⟨_, rfl, .guarded (aside rfl rfl)⟩
  | switchRawChange sw high => exact ⟨_, rfl, switchRawChange _ _ s⟩
  | debounceExpiry sw => exact ⟨_, rfl, .guarded (debounceExpiry sw s)⟩
  | switchSettlingExpiry => exact ⟨_, rfl, .guarded (settlingExpiry s)⟩
  | npfwAssert => exact ⟨_, rfl, .ite (aside rfl rfl) (aside rfl rfl)⟩
  | rampStep => exact ⟨_, rfl, .guarded (aside rfl rfl)⟩
  | settledTimerExpiry => exact ⟨_, rfl, .guarded (aside rfl rfl)⟩
  | armingTimerExpiry => exact ⟨_, rfl, .guarded (aside rfl rfl)⟩
  | stallCheck => exact ⟨_, rfl, .guarded (stallCheck s)⟩
  | stallWaitExpiry => exact ⟨_, rfl, .guarded (aside rfl rfl)⟩
  | airflowPeriod => exact absurd rfl hc
  | learnHoldExpiry =>
    have held : s.CompressorKept (learnHoldExpiry s) := by
      unfold Machine.learnHoldExpiry
      split
      · exact aside rfl rfl
      · exact .refl s
    exact ⟨_, rfl, .guarded held⟩
  | learnReading => exact ⟨_, rfl, .guarded (learnReading s)⟩
  | dosePeriod =>
    have counted (f : FilterState) : s.CompressorKept (s.setFilter f) := .of_eq rfl rfl rfl
    exact ⟨_, rfl, .guarded (((counted _).ruled (markIf_ruled _ _)).ruled (evaluateFilter_ruled _))⟩
  | dryingCheck => exact ⟨_, rfl, .guarded (dryingCheck s)⟩
  | offTimeExpiry => exact ⟨_, rfl, .guarded (offTimeExpiry s)⟩
  | confirmationTimerExpiry => exact ⟨_, rfl, .guarded (confirmationExpiry s)⟩
  | extraHoldExpiry => exact ⟨_, rfl, .guarded (extraHoldExpiry s)⟩
  | runSecondExpiry => exact ⟨_, rfl, .guarded (runSecondExpiry s)⟩
  | defrostMaxExpiry => exact ⟨_, rfl, .guarded (defrostMaxExpiry s)⟩
  | timedCycleExpiry => exact ⟨_, rfl, .guarded (timedCycleExpiry s)⟩
  | uptimeMinute => exact ⟨_, rfl, .guarded (.of_eq rfl rfl rfl)⟩
  | onTimeEnd => exact ⟨_, rfl, .guarded ((refl s).ruled (tankEvent_ruled _ s))⟩
  | afterRunExpiry => exact ⟨_, rfl, .guarded ((refl s).ruled (tankEvent_ruled _ s))⟩
  | pulseTimerExpiry => exact ⟨_, rfl, .guarded (aside rfl rfl)⟩
  | lampPhaseTimer lamp =>
    cases lamp with
    | filter => exact ⟨_, rfl, .guarded (aside rfl rfl)⟩
    | tank => exact ⟨_, rfl, .guarded (aside rfl rfl)⟩
  | settingWrite off v => exact ⟨_, rfl, windowWrite _ _ s⟩
  | hexhLowWrite v => exact ⟨_, rfl, windowWrite _ _ s⟩
  | hexhHighWrite v => exact ⟨_, rfl, windowWrite _ _ s⟩
  | quietTimerExpiry => exact ⟨_, rfl, .guarded (.of_eq rfl rfl rfl)⟩
  | latchedWrite off v => exact ⟨_, rfl, windowWrite _ _ s⟩
  | summaryRead => exact ⟨_, rfl, windowRead _ s⟩
  | snapshotLoadRead off => exact ⟨_, rfl, windowRead _ s⟩
  | strayWrite off v => exact ⟨_, rfl, windowWrite _ _ s⟩
  | anchorWrite v => exact ⟨_, rfl, .guarded (controllerWrite anchor v s)⟩
  | filterReset => exact ⟨_, rfl, windowWrite _ _ s⟩
  | learnBaseline => exact ⟨_, rfl, windowWrite _ _ s⟩
  | abortLearn => exact ⟨_, rfl, windowWrite _ _ s⟩
  | defrostNow => exact ⟨_, rfl, windowWrite _ _ s⟩
  | clearLockout => exact ⟨_, rfl, windowWrite _ _ s⟩
  | resume => exact ⟨_, rfl, windowWrite _ _ s⟩
  | saveNow => exact ⟨_, rfl, windowWrite _ _ s⟩
  | restartArm => exact ⟨_, rfl, windowWrite _ _ s⟩
  | restart => exact ⟨_, rfl, windowWrite _ _ s⟩
  | unknownCommand code => exact ⟨_, rfl, windowWrite _ _ s⟩
  | drainJobComplete => exact ⟨_, rfl, .guarded (drainJobComplete s)⟩
  | holdackRise => exact ⟨_, rfl, .ite ((setPins { s.pins with holdAck := true } s).trans (holdackRise _)) (setPins _ s)⟩
  | holdackFall n =>
    exact ⟨_, rfl, .ite ((setPins { s.pins with holdAck := false } s).trans (holdackFall _ _)) (setPins _ s)⟩
  | ackTimerExpiry => exact ⟨_, rfl, .guarded (refuseHold s)⟩
  | retryTimerExpiry => exact ⟨_, rfl, .guarded (.ite (aside rfl rfl) (aside rfl rfl))⟩
  | burstComplete => exact ⟨_, rfl, .guarded (burstComplete s)⟩
  | saveTimerExpiry => exact ⟨_, rfl, .guarded (saveTimerExpiry s)⟩
  | supervisionCount => exact ⟨_, rfl, .guarded (supervisionCount s)⟩
  | supervisionPulseEnd => exact ⟨_, rfl, .guarded (aside rfl rfl)⟩

end State.CompressorKept
end Sys2Proof.Machine
end

section
/-! SUPPORT. The airflow period's effect on the compressor (R76, R78, R79, R171), and the statements of the compressor's start,
its rest and its interlocks. -/

namespace Sys2Proof.Machine

/-! ### Events that begin all-stop, or leave drying and the air mover as they are -/

/-- From `s` to `t` drying and the air mover stand, unless all-stop has begun, which leaves the compressor neither running
nor about to start. -/
structure State.StandsUnlessStopped (s t : State) : Prop where
  follow : FollowOn s t
  stands : t.cmd.allStop = s.cmd.allStop → t.dry = s.dry ∧ t.air = s.air
  stopped : t.cmd.allStop ≠ s.cmd.allStop → s.cmd.mode = .standalone ∧ s.path.working.stopAll = true
    ∧ t.dry.comp ≠ .preRun ∧ t.dry.comp ≠ .running

namespace State.StandsUnlessStopped

variable {s t u : State}

theorem of_eq (follow : FollowOn s t) (dry : t.dry = s.dry) (air : t.air = s.air) (cmd : t.cmd = s.cmd) :
    s.StandsUnlessStopped t :=
  ⟨follow, fun _ => ⟨dry, air⟩, fun h => absurd (by rw [cmd]) h⟩

theorem ite {c : Prop} [Decidable c] (h : s.StandsUnlessStopped t) (k : s.StandsUnlessStopped u) :
    s.StandsUnlessStopped (if c then t else u) := by
  split
  · exact h
  · exact k

/-- A change outside drying, the air mover and the commands comes before it. -/
theorem after (h : s.StandsUnlessStopped t) (k : t.StandsUnlessStopped u) (cmd : t.cmd = s.cmd) :
    s.StandsUnlessStopped u := by
  obtain ⟨dry, air⟩ := h.stands (by rw [cmd])
  refine ⟨h.follow.trans k.follow, fun same => ?_, fun begun => ?_⟩
  · obtain ⟨dry', air'⟩ := k.stands (by rw [same, cmd])
    exact ⟨dry'.trans dry, air'.trans air⟩
  · obtain ⟨mode, policy, stopped⟩ := k.stopped (by rw [cmd]; exact begun)
    exact ⟨cmd ▸ mode, h.follow.path ▸ policy, stopped⟩

end State.StandsUnlessStopped

/-- R171: in all-stop the compressor neither runs nor is about to start. -/
theorem setAllStop_comp (s : State) : (setAllStop true s).dry.comp ≠ .preRun ∧ (setAllStop true s).dry.comp ≠ .running := by
  have told : (immediateStop (allStopTold true s)).dry.allStop = true := by
    unfold immediateStop
    split
    · simp [stopCompressor, Drying.stopRun, Drying.outputOff, allStopTold]
    · rfl
  have inForce : (setAllStop true s).dry.allStop = true := by simpa [setAllStop_eq] using told
  have closed : (setAllStop true s).compressorInterlocked :=
    judgeDrying_interlocked _ (immediateStop_comp (allStopTold true s))
  have vetoed : ¬ (setAllStop true s).dry.interlocksClosed := by
    rintro ⟨-, -, clear⟩
    simp [inForce] at clear
  exact ⟨fun pre => vetoed (closed (.inl pre)), fun run => vetoed (closed (.inr run))⟩

theorem judgeAllStop_stands (s : State) : s.StandsUnlessStopped (judgeAllStop s) := by
  have follow := judgeAllStop_followOn s
  unfold judgeAllStop at follow ⊢
  split
  case isFalse => exact .of_eq (.refl s) rfl rfl rfl
  case isTrue begins =>
    rw [if_pos begins] at follow
    obtain ⟨mode, policy, clear, -⟩ := begins
    have inForce : (setAllStop true s).cmd.allStop = true := by
      simp [setAllStop_eq, ((immediateStop_followOn (allStopTold true s)).cmd.allStop rfl)]
    exact ⟨follow, fun same => by simp [inForce, clear] at same, fun _ => ⟨mode, policy, setAllStop_comp s⟩⟩

theorem reportCondition_stands (f : Flag) (b : Bool) (s : State) : s.StandsUnlessStopped (reportCondition f b s) :=
  .after (.of_eq (setCondition_followOn f b s) rfl rfl rfl) (judgeAllStop_stands _) rfl

theorem evaluateFilter_stands (s : State) : s.StandsUnlessStopped (evaluateFilter s) := by
  have filter (f : FilterState) : s.StandsUnlessStopped (s.setFilter f) :=
    .of_eq (.report rfl rfl rfl rfl rfl) rfl rfl rfl
  have rise (stage : Stage) (t : State) : t.StandsUnlessStopped (reportRise stage t) := by
    have lamps : t.StandsUnlessStopped (updateLamps (fun e => { e with stage := stage }) (markChanged t)) :=
      .of_eq ((markChanged_followOn t).trans (updateLamps_followOn _ _ rfl)) rfl rfl rfl
    simp only [reportRise]
    split
    · exact lamps
    · exact lamps.after (.of_eq (raise_followOn _ _) rfl rfl rfl) rfl
    · exact lamps.after (reportCondition_stands _ _ _) rfl
  exact .ite (filter _) ((filter _).after (rise _ _) rfl)

/-! ### The period before drying's judgement (R36, R40) -/

/-- The part with the air mover's own period done. -/
def periodTaken (s : State) : State :=
  s.setAir (s.air.airflowPeriod s.path.working s.front.tach.valid s.front.tach.rpm)

theorem periodJudged_stands (s : State) : (periodTaken s).StandsUnlessStopped (periodJudged s) := by
  have marked : (periodTaken s).StandsUnlessStopped (markChanged (periodTaken s)) :=
    .of_eq (markChanged_followOn _) rfl rfl rfl
  exact .ite (.of_eq (.refl _) rfl rfl rfl) (marked.after (evaluateFilter_stands _) rfl)

theorem periodJudged_front (s : State) : (periodJudged s).front = (periodTaken s).front := by
  simp only [periodJudged]
  split
  · rfl
  · simp [periodTaken]

theorem periodJudged_ruled (s : State) : Ruled s (periodJudged s) := by
  have taken : Ruled s (periodTaken s) := .report ⟨rfl, rfl⟩ rfl rfl
  have marked : Ruled s (markChanged (periodTaken s)) := taken.trans (report_ruled rfl rfl rfl)
  exact .ite taken (marked.trans (evaluateFilter_ruled _))

/-- R76, R79: the figures the report is judged by, in terms of the state at the period's beginning. -/
theorem periodTaken_judged (s : State) :
    (confirmsStart (periodTaken s) = true ↔ s.air.settled = true ∧ s.air.effective = s.air.target
        ∧ s.path.working.dryDuty ≤ s.air.effective
        ∧ ((periodTaken s).air.confirmed = true ∧ s.path.working.fminDryM3h ≤ (periodTaken s).air.airflow
          ∨ baseAt s.air.baseline s.air.effective = none ∧ 0 < s.front.tach.rpm))
      ∧ (failsRun (periodTaken s) = true ↔ s.air.settled = true ∧ s.air.effective = s.air.target
        ∧ (periodTaken s).air.confirmed = true ∧ (periodTaken s).air.airflow < s.path.working.fminDryM3h) := by
  simp only [confirmsStart, failsRun, Bool.and_eq_true, Bool.or_eq_true, decide_eq_true_eq, Bool.not_eq_true',
    Option.isSome_eq_false_iff, Option.isNone_iff_eq_none, and_assoc]
  exact ⟨.rfl, .rfl⟩

/-! ### The report at drying (R76, R78, R79) -/

theorem enterRunning_dry (s : State) : (enterRunning s).dry = { s.dry.startRun with comp := .running } := by
  simp [enterRunning]

theorem airflowReport_of_confirmed (s : State) (h : s.dry.comp = .preRun) (confirms : confirmsStart s = true) :
    airflowReport s = reportCondition .airflowLow false (enterRunning s) := by
  simp [airflowReport, h, confirms]

theorem airflowReport_of_failing (s : State) (h : s.dry.comp = .running) (fails : failsRun s = true) :
    airflowReport s = reportCondition .airflowLow true (stopCompressor s) := by
  simp [airflowReport, h, fails]

theorem airflowReport_of_idle (s : State) (h : s.dry.comp ≠ .preRun) (off : s.dry.comp ≠ .running) :
    airflowReport s = s := by
  unfold airflowReport
  split
  case h_1 pre => exact absurd pre h
  case h_2 run => exact absurd run off
  all_goals rfl

/-- R76: a report starts the compressor from PRE_RUN alone, when it confirms. -/
theorem airflowReport_starts (s : State) (off : s.dry.comp ≠ .running) (run : (airflowReport s).dry.comp = .running) :
    s.dry.comp = .preRun ∧ confirmsStart s = true := by
  unfold airflowReport at run
  split at run
  case h_1 pre =>
    split at run
    case isTrue confirms => exact ⟨pre, confirms⟩
    case isFalse => exact absurd run off
  case h_2 was => exact absurd was off
  all_goals exact absurd run off

/-- What a report is, without its condition: the compressor started, stopped or left. -/
def airflowJudged (s : State) : State :=
  match s.dry.comp with
  | .preRun => if confirmsStart s then enterRunning s else s
  | .running => if failsRun s then stopCompressor s else s
  | .offHold | .offReady | .defrost | .tripped | .lockedOut => s

theorem airflowReport_stands (s : State) : (airflowJudged s).StandsUnlessStopped (airflowReport s) := by
  have same (t : State) : t.StandsUnlessStopped t := .of_eq (.refl t) rfl rfl rfl
  simp only [airflowJudged, airflowReport]
  cases s.dry.comp with
  | preRun =>
    dsimp only
    split
    · exact reportCondition_stands _ _ _
    · exact same s
  | running =>
    dsimp only
    split
    · exact reportCondition_stands _ _ _
    · exact .ite (reportCondition_stands _ _ _) (same s)
  | offHold | offReady | defrost | tripped | lockedOut => exact same s

theorem airflowJudged_cmd (s : State) :
    (airflowJudged s).cmd.allStop = s.cmd.allStop ∧ (airflowJudged s).cmd.mode = s.cmd.mode
      ∧ (airflowJudged s).path = s.path := by
  have started : s.cmd.Follows (enterRunning s).cmd :=
    (markIf_followOn _ (s.setDry s.dry.startRun)).cmd.trans (setComp_follows .running _).2
  unfold airflowJudged
  split
  case h_1 =>
    split
    · exact ⟨by simp [enterRunning], started.mode, by simp [enterRunning]⟩
    · exact ⟨rfl, rfl, rfl⟩
  case h_2 run =>
    have stopped := (stopCompressor_followOn s run).cmd
    split
    · exact ⟨by simp [stopCompressor], stopped.mode, by simp [stopCompressor]⟩
    · exact ⟨rfl, rfl, rfl⟩
  all_goals exact ⟨rfl, rfl, rfl⟩

/-- R74, R76: the report starts the compressor with the interlocks closed. -/
theorem airflowReport_safe (s : State) : s.CompressorSafe (airflowReport s) := by
  have started : s.dry.comp = .preRun → s.CompressorSafe (enterRunning s) := by
    intro pre
    refine ⟨by simp [enterRunning], fun _ _ => ?_, fun closed _ => ?_⟩
    · simp [State.compressorRested, enterRunning_dry]
    · rw [enterRunning_dry]
      exact closed (.inl pre)
  have report (b : Bool) (t : State) : t.CompressorKept (reportCondition .airflowLow b t) :=
    (State.CompressorKept.refl t).ruled (reportCondition_ruled _ _ _)
  have left : s.CompressorKept s := .refl s
  unfold airflowReport
  split
  case h_1 pre =>
    split
    · exact (started pre).trans (report _ _).toCompressorSafe
    · exact left.toCompressorSafe
  case h_2 run =>
    split
    · exact ((left.ruled (stopCompressor_ruled s run)).trans (report _ _)).toCompressorSafe
    · exact (State.CompressorKept.guarded (report _ s)).toCompressorSafe
  all_goals exact left.toCompressorSafe

/-! ### Every step -/

theorem exec_airflowPeriod_eq (s : State) :
    exec .airflowPeriod s = .next (if s.phase = .running then airflowReport (periodJudged s) else s) := by
  rw [← airflowPeriod_eq]
  rfl

/-- Every command keeps the compressor safe. -/
theorem State.CompressorSafe.exec (c : Instr) (s : State) : ∃ t, exec c s = .next t ∧ s.CompressorSafe t := by
  by_cases hc : c = .airflowPeriod
  · subst hc
    refine ⟨_, exec_airflowPeriod_eq s, ?_⟩
    split
    · exact ((CompressorKept.refl s).ruled (periodJudged_ruled s)).toCompressorSafe.trans (airflowReport_safe _)
    · exact (CompressorKept.refl s).toCompressorSafe
  · obtain ⟨t, ht, kept⟩ := CompressorKept.exec c hc s
    exact ⟨t, ht, kept.toCompressorSafe⟩

/-- Every step keeps the compressor safe. -/
theorem State.CompressorSafe.step {s t : State} (h : step s = .next t) : s.CompressorSafe t := by
  unfold Machine.step at h
  split at h
  case h_1 =>
    obtain rfl := Host.Outcome.next.inj h
    exact (CompressorKept.tick s).toCompressorSafe
  case h_2 c rest _ =>
    have waiting : s.CompressorKept (s.setPending rest) := .of_eq rfl rfl rfl
    obtain ⟨u, hu, safe⟩ := State.CompressorSafe.exec c (s.setPending rest)
    obtain rfl := Host.Outcome.next.inj (hu.symm.trans h)
    exact waiting.toCompressorSafe.trans safe

/-- R76: a start is an airflow report's, in PRE_RUN with a confirming report and all-stop not begun by it. -/
theorem exec_starts {c : Instr} {s t : State} (h : exec c s = .next t) (off : s.dry.comp ≠ .running)
    (run : t.dry.comp = .running) :
    c = .airflowPeriod ∧ t = airflowReport (periodJudged s) ∧ s.dry.comp = .preRun
      ∧ (periodJudged s).air = (periodTaken s).air ∧ confirmsStart (periodTaken s) = true := by
  by_cases hc : c = .airflowPeriod
  case neg =>
    obtain ⟨u, hu, kept⟩ := State.CompressorKept.exec c hc s
    obtain rfl := Host.Outcome.next.inj (hu.symm.trans h)
    exact absurd run (kept.off off)
  subst hc
  obtain rfl := Host.Outcome.next.inj ((exec_airflowPeriod_eq s).symm.trans h)
  split at run
  case isFalse => exact absurd run off
  case isTrue running =>
    obtain ⟨pre, confirms⟩ := airflowReport_starts _ ((periodJudged_ruled s).compOff off) run
    have period := periodJudged_stands s
    have same : (periodJudged s).cmd.allStop = (periodTaken s).cmd.allStop := by
      by_contra begun
      exact (period.stopped begun).2.2.1 pre
    obtain ⟨dry, air⟩ := period.stands same
    refine ⟨rfl, if_pos running, (congrArg Drying.comp dry).symm.trans pre, air, ?_⟩
    simpa only [confirmsStart, air, periodJudged_front, period.follow.path] using confirms

/-- Settles O32: every step keeps the compressor rested, and a start is an airflow report's in PRE_RUN. -/
theorem compressorRestsMinOff : Obligations.CompressorRestsMinOff := by
  intro s t formed rested h
  have safe := State.CompressorSafe.step h
  refine ⟨safe.formed formed, safe.rested formed rested, fun off run => ?_⟩
  unfold step at h
  split at h
  case h_1 =>
    obtain rfl := Host.Outcome.next.inj h
    exact absurd run off
  case h_2 c rest _ =>
    obtain ⟨-, -, pre, -⟩ := exec_starts h off run
    exact rested (.inr pre)

/-- Settles O33: by the compressor's safety through every command and the idle step. -/
theorem compressorInterlockHolds : Obligations.CompressorInterlockHolds := by
  intro s t closed h
  exact (State.CompressorSafe.step h).interlocked closed

end Sys2Proof.Machine
end

section
/-! SUPPORT. The compressor's start and stop at an airflow report (R76, R78, R79, R171), with their statement. -/

namespace Sys2Proof.Machine

/-! ### The started and the stopped compressor -/

theorem enterRunning_drying (s : State) : (enterRunning s).air.drying = some s.path.working.dryDuty := by
  obtain ⟨drying, -⟩ := setComp_slotsFormed .running (markIf (decide (s.dry.startRun.starts ≠ s.dry.starts))
    (s.setDry s.dry.startRun))
  simpa [dryingSlotFormed, enterRunning] using drying

/-- R78, R80: what a stop to OFF_HOLD leaves of a running compressor. -/
structure State.Stopped (s t : State) : Prop where
  dry : t.dry = s.dry.stopRun.withRules t.dry
  comp : t.dry.comp = .offHold ∨ t.dry.comp = .offReady
  drying : t.air.drying = none

theorem stopCompressor_stopped (s : State) : s.Stopped (stopCompressor s) := by
  have ruled : Ruled (setComp .offHold (s.setDry s.dry.stopRun)) (stopCompressor s) := judgeHold_ruled _
  have comp : (stopCompressor s).dry.comp = .offHold ∨ (stopCompressor s).dry.comp = .offReady := by
    unfold stopCompressor judgeHold
    simp only [setComp_dry]
    split
    · simp
    · simp
  have dry := ruled.dry.stay (by simp)
  rw [setComp_dry] at dry
  obtain ⟨drying, -⟩ := ruled.slotsFormed (setComp_slotsFormed _ _)
  refine ⟨dry, comp, drying.trans (if_neg ?_)⟩
  obtain h | h := comp <;> simp [h]

/-! ### All-stop through the period -/

/-- A report that has begun no all-stop has found none begun before it. -/
theorem periodJudged_allStop (s : State) (h : (airflowReport (periodJudged s)).cmd.allStop = s.cmd.allStop) :
    (periodJudged s).cmd.allStop = s.cmd.allStop
      ∧ (airflowReport (periodJudged s)).cmd.allStop = (airflowJudged (periodJudged s)).cmd.allStop := by
  obtain ⟨judged, -⟩ := airflowJudged_cmd (periodJudged s)
  have first := (periodJudged_stands s).follow.cmd.allStop
  have second := (airflowReport_stands (periodJudged s)).follow.cmd.allStop
  have taken : (periodTaken s).cmd.allStop = s.cmd.allStop := rfl
  rw [judged] at second ⊢
  rw [taken] at first
  rw [h] at second ⊢
  cases was : s.cmd.allStop with
  | true => simp [first was]
  | false =>
    rw [was] at second
    cases mid : (periodJudged s).cmd.allStop with
    | true => simp [second mid]
    | false => simp

/-- R171: where all-stop begins at a period the fault policy asks for it, and the compressor does not run. -/
theorem airflowReport_begun (s : State) (h : (airflowReport (periodJudged s)).cmd.allStop ≠ s.cmd.allStop) :
    s.cmd.mode = .standalone ∧ s.path.working.stopAll = true
      ∧ (airflowReport (periodJudged s)).dry.comp ≠ .running := by
  have period := periodJudged_stands s
  by_cases begun : (periodJudged s).cmd.allStop = (periodTaken s).cmd.allStop
  case neg =>
    obtain ⟨mode, policy, notPre, off⟩ := period.stopped begun
    rw [airflowReport_of_idle _ notPre off]
    exact ⟨mode, policy, off⟩
  case pos =>
    obtain ⟨allStop, mode, path⟩ := airflowJudged_cmd (periodJudged s)
    have later : (airflowReport (periodJudged s)).cmd.allStop ≠ (airflowJudged (periodJudged s)).cmd.allStop := by
      rw [allStop, begun]
      exact h
    obtain ⟨standalone, policy, -, off⟩ := (airflowReport_stands (periodJudged s)).stopped later
    rw [mode, period.follow.cmd.mode] at standalone
    rw [path, period.follow.path] at policy
    exact ⟨standalone, policy, off⟩

/-- What a period without all-stop leaves: drying as it was and the air mover's own period, with the report judged. -/
theorem airflowPeriod_unstopped (s : State) (h : (airflowReport (periodJudged s)).cmd.allStop = s.cmd.allStop) :
    (periodJudged s).dry = s.dry ∧ (periodJudged s).air = (periodTaken s).air
      ∧ (airflowReport (periodJudged s)).dry = (airflowJudged (periodJudged s)).dry
      ∧ (airflowReport (periodJudged s)).air = (airflowJudged (periodJudged s)).air := by
  obtain ⟨first, second⟩ := periodJudged_allStop s h
  obtain ⟨dry, air⟩ := (periodJudged_stands s).stands first
  obtain ⟨dry', air'⟩ := (airflowReport_stands _).stands second
  exact ⟨dry, air, dry', air'⟩

theorem judged_eq_of_period {s t : State} (air : t.air = s.air) (front : t.front = s.front) (path : t.path = s.path) :
    confirmsStart t = confirmsStart s ∧ failsRun t = failsRun s := by
  simp only [confirmsStart, failsRun, air, front, path, and_self]

/-- R76, R78: a confirming report in PRE_RUN. -/
theorem airflowReport_started (s : State) (pre : s.dry.comp = .preRun) (confirms : confirmsStart (periodTaken s) = true)
    (allStop : (airflowReport (periodJudged s)).cmd.allStop = s.cmd.allStop) :
    (airflowReport (periodJudged s)).dry = { s.dry.startRun with comp := .running }
      ∧ (airflowReport (periodJudged s)).air.drying = some s.path.working.dryDuty
      ∧ hasFlag (airflowReport (periodJudged s)).notice.conditions .airflowLow = false := by
  obtain ⟨dry, air, dry', air'⟩ := airflowPeriod_unstopped s allStop
  have path := (periodJudged_stands s).follow.path
  have pre' : (periodJudged s).dry.comp = .preRun := (congrArg Drying.comp dry).trans pre
  have confirms' := (judged_eq_of_period air (periodJudged_front s) path).1.trans confirms
  have started : airflowJudged (periodJudged s) = enterRunning (periodJudged s) := by
    simp [airflowJudged, pre', confirms']
  rw [dry', air', started, enterRunning_dry, enterRunning_drying, dry, path,
    airflowReport_of_confirmed _ pre' confirms']
  exact ⟨rfl, rfl, hasFlag_reportCondition _ _ _⟩

/-- R79: a failing report of a running compressor. -/
theorem airflowReport_stopped (s : State) (run : s.dry.comp = .running) (fails : failsRun (periodTaken s) = true)
    (allStop : (airflowReport (periodJudged s)).cmd.allStop = s.cmd.allStop) :
    s.Stopped (airflowReport (periodJudged s))
      ∧ hasFlag (airflowReport (periodJudged s)).notice.conditions .airflowLow = true := by
  obtain ⟨dry, air, dry', air'⟩ := airflowPeriod_unstopped s allStop
  have path := (periodJudged_stands s).follow.path
  have run' : (periodJudged s).dry.comp = .running := (congrArg Drying.comp dry).trans run
  have fails' := (judged_eq_of_period air (periodJudged_front s) path).2.trans fails
  have stopped : airflowJudged (periodJudged s) = stopCompressor (periodJudged s) := by
    simp [airflowJudged, run', fails']
  obtain ⟨left, comp, drying⟩ := stopCompressor_stopped (periodJudged s)
  rw [← stopped, ← dry'] at left comp
  rw [← stopped, ← air'] at drying
  rw [dry] at left
  refine ⟨⟨left, comp, drying⟩, ?_⟩
  rw [airflowReport_of_failing _ run' fails']
  exact hasFlag_reportCondition _ _ _

/-- R36, R40: the figures of the period are those the report leaves. -/
theorem airflowReport_figures (s : State) :
    (airflowReport (periodJudged s)).air.confirmed = (periodTaken s).air.confirmed
      ∧ (airflowReport (periodJudged s)).air.airflow = (periodTaken s).air.airflow := by
  have air := (periodJudged_air s).trans (airflowReport_air (periodJudged s))
  exact ⟨air.confirmed, air.airflow⟩

/-- Settles O31: a start is a confirming report's; the report's own period and what all-stop leaves of it give the rest. -/
theorem compressorStartsOnlyOnAirflow : Obligations.CompressorStartsOnlyOnAirflow := by
  refine ⟨fun c s t h off run => ?starts, fun s running settled atTarget => ?report⟩
  case starts =>
    obtain ⟨rfl, rfl, pre, -, confirms⟩ := exec_starts h off run
    obtain ⟨settled, target, duty, airflow⟩ := (periodTaken_judged s).1.1 confirms
    obtain ⟨confirmed, figure⟩ := airflowReport_figures s
    rw [confirmed, figure]
    exact ⟨rfl, pre, settled, target, duty, airflow⟩
  case report =>
    have begun := airflowReport_begun s
    obtain ⟨confirmed, figure⟩ := airflowReport_figures s
    obtain ⟨confirms, fails⟩ := periodTaken_judged s
    rw [← confirmed, ← figure] at confirms fails
    have frame : (airflowPeriod s).tank = s.tank ∧ onlyBlocks s (airflowPeriod s) := by simp [onlyBlocks]
    rw [airflowPeriod_eq] at frame
    refine ⟨_, (exec_airflowPeriod s running).trans (by rw [airflowPeriod_eq]), fun free => ?unasked, fun h => ?begun,
      fun pre duty airflow same => ?started, fun run hconf low same => ?stopped, frame⟩
    case unasked =>
      by_contra h
      obtain ⟨mode, policy, -⟩ := begun h
      simp [mode, policy] at free
    case begun =>
      obtain ⟨-, -, off⟩ := begun h
      exact decide_eq_false off
    case started =>
      obtain ⟨dry, drying, flag⟩ := airflowReport_started s pre (confirms.2 ⟨settled, atTarget, duty, airflow⟩) same
      rw [State.compPin, dry]
      exact ⟨rfl, rfl, rfl, rfl, rfl, rfl, rfl, drying, flag⟩
    case stopped =>
      obtain ⟨⟨dry, comp, drying⟩, flag⟩ := airflowReport_stopped s run (fails.2 ⟨settled, atTarget, hconf, low⟩) same
      have off : (airflowReport (periodJudged s)).compPin = false := by
        obtain h | h := comp <;> simp [State.compPin, h]
      rw [dry]
      exact ⟨off, rfl, rfl, drying, rfl, rfl, rfl, rfl, flag⟩

end Sys2Proof.Machine
end

section
/-! SUPPORT. What drying's rules and the steps of its check leave as it is, and what the hold's judgement makes of OFF_HOLD:
the facts that the statements about the check, the timers and the run-second share. -/

namespace Sys2Proof.Machine

/-! ### Figures that the rules do not move -/

/-- Drying without the figures that its rules and a stop may move. -/
def Drying.apart (d : Drying) : Drying :=
  { d.outputOff with comp := .offHold, confirmTimer := none, tank := none, allStop := false, runSecondDue := false }

/-- What the check's trip and its defrost part do not move: the demand with its timer, the mode state and the warning. -/
def Drying.checkFigures (d : Drying) : Demand × Timer × ModeState × Bool := (d.demand, d.timedTimer, d.mode, d.warning)

theorem Ruled.apart {s t : State} (h : Ruled s t) : t.dry.apart = s.dry.apart := by
  by_cases stay : s.dry.comp = .running → t.dry.comp = .running
  · exact (congrArg Drying.apart (h.dry.stay stay)).trans rfl
  · obtain ⟨run, stop⟩ := Classical.not_imp.1 stay
    exact (congrArg Drying.apart (h.dry.stop run stop)).trans rfl

theorem Ruled.checkFigures {s t : State} (h : Ruled s t) : t.dry.checkFigures = s.dry.checkFigures :=
  (congrArg Drying.checkFigures h.apart :)

/-- A compressor that does not run keeps its timers and figures through the rules. -/
theorem Ruled.dryOff {s t : State} (h : Ruled s t) (off : s.dry.comp ≠ .running) : t.dry = s.dry.withRules t.dry :=
  h.dry.stay fun run => absurd run off

/-! ### The hold and the start of a compressor that does not run (R73, R75) -/

theorem judgeDrying_of_off (s : State) (off : s.dry.comp ≠ .running) : judgeDrying s = judgeStart (judgeHold s) := by
  simp [judgeDrying, judgeDeferred, off]

theorem judgeDrying_of_parked (s : State) (h : s.dry.comp = .tripped ∨ s.dry.comp = .lockedOut) : judgeDrying s = s := by
  obtain h | h := h <;> simp [judgeDrying, judgeDeferred, judgeHold, judgeStart, h]

/-- R73: after the hold and the start are judged the compressor is in OFF_HOLD exactly while its times are not done. -/
theorem judgeStart_judgeHold_offHold (s : State) (h : s.dry.comp = .offHold ∨ s.dry.holdDone s.path.working = true) :
    (judgeStart (judgeHold s)).dry.comp = .offHold ↔ s.dry.holdDone s.path.working = false := by
  refine ⟨fun stays => ?_, fun hold => ?_⟩
  · rw [Bool.eq_false_iff]
    exact fun done => judgeHold_comp_of_done _ done (judgeStart_comp_offHold _ stays)
  · have comp := h.resolve_right (by simp [hold])
    exact ((judgeHold_followOn s).trans (judgeStart_followOn _)).offHold comp hold

theorem judgeStart_judgeHold_ruled (s : State) : Ruled s (judgeStart (judgeHold s)) :=
  (judgeHold_ruled s).trans (judgeStart_ruled _ (judgeHold_rested s))

/-- R73, R75: the hold and the start move no more of drying than the compressor's state and the confirmation timer. -/
theorem judgeStart_judgeHold_dry (s : State) :
    (judgeStart (judgeHold s)).dry = s.dry.withRules (judgeStart (judgeHold s)).dry := by
  by_cases run : s.dry.comp = .running
  · have same : judgeStart (judgeHold s) = s := by simp [judgeHold, judgeStart, run]
    rw [same, Drying.withRules_self]
  · exact (judgeStart_judgeHold_ruled s).dryOff run

/-- R73, R75: what drying's rules make of a compressor in standby whose hold stands or is done. -/
theorem judgeDrying_of_standby (s : State) (standby : s.dry.comp.standby = true)
    (held : s.dry.comp = .offHold ∨ s.dry.holdDone s.path.working = true) :
    ((judgeDrying s).dry.comp = .offHold ↔ s.dry.holdDone s.path.working = false)
      ∧ (judgeDrying s).dry.comp.standby = true ∧ (judgeDrying s).dry = s.dry.withRules (judgeDrying s).dry := by
  have off := CompState.ne_running_of_standby standby
  have rules := judgeDrying_ruled s
  refine ⟨?_, rules.standby standby, rules.dryOff off⟩
  rw [judgeDrying_of_off s off]
  exact judgeStart_judgeHold_offHold s held

theorem CompState.ne_defrost_of_standby {c : CompState} (h : c.standby = true) : c ≠ .defrost := by
  rintro rfl
  cases h

/-- R74, R75: what starts the compressor. -/
theorem startHolds_iff (s : State) : startHolds s = true ↔ s.dry.demandOn ∧ s.startPermitted := by
  have demand : s.dry.demand.isOn = true ↔ s.dry.demandOn := by
    unfold Drying.demandOn
    cases s.dry.demand <;> simp [Demand.isOn]
  simp only [startHolds, permissions, State.startPermitted, Bool.and_eq_true, Bool.or_eq_true, decide_eq_true_eq,
    Bool.not_eq_true', demand, and_assoc]

/-! ### The steps of a check (R67) -/

theorem exec_dryingCheck (s : State) (h : s.phase = .running) : exec .dryingCheck s = .next (dryingCheck s) := by
  simp [exec, execDryingCheck, whenRunning, h]

theorem checkTrip_of_hot (s : State) (run : s.dry.comp = .running) (valid : s.front.tcond.status = .valid)
    (hot : (s.path.working.trip : Int) * 10 ≤ s.front.tcond.value) : checkTrip s = tripCompressor s := by
  simp [checkTrip, run, valid, hot]

theorem checkTrip_of_cool (s : State) (run : s.dry.comp = .running)
    (cool : s.front.tcond.status ≠ .valid ∨ s.front.tcond.value < (s.path.working.trip : Int) * 10) :
    checkTrip s = s := by
  have notHot : ¬ (s.front.tcond.status = .valid ∧ (s.path.working.trip : Int) * 10 ≤ s.front.tcond.value) := by
    rintro ⟨valid, hot⟩
    obtain h | h := cool
    · exact h valid
    · omega
  rw [checkTrip, run]
  exact if_neg notHot

theorem checkTrip_of_recovered (s : State) (tripped : s.dry.comp = .tripped) (valid : s.front.tcond.status = .valid)
    (low : s.front.tcond.value ≤ ((s.path.working.trip : Int) - 10) * 10) :
    checkTrip s = judgeHold (reportCondition .compTrip false (setComp .offHold s)) := by
  rw [checkTrip, tripped]
  exact if_pos ⟨valid, low⟩

theorem checkTrip_of_tripped (s : State) (tripped : s.dry.comp = .tripped)
    (high : s.front.tcond.status ≠ .valid ∨ ((s.path.working.trip : Int) - 10) * 10 < s.front.tcond.value) :
    checkTrip s = s := by
  have notLow : ¬ (s.front.tcond.status = .valid ∧ s.front.tcond.value ≤ ((s.path.working.trip : Int) - 10) * 10) := by
    rintro ⟨valid, low⟩
    obtain h | h := high
    · exact h valid
    · omega
  rw [checkTrip, tripped]
  exact if_neg notLow

theorem checkTrip_of_idle (s : State) (off : s.dry.comp ≠ .running) (free : s.dry.comp ≠ .tripped) : checkTrip s = s := by
  unfold checkTrip
  split
  case h_1 run => exact absurd run off
  case h_2 tripped => exact absurd tripped free
  all_goals rfl

theorem checkDefrost_of_idle (s : State) (off : s.dry.comp ≠ .running) (clear : s.dry.comp ≠ .defrost) :
    checkDefrost s = s := by
  unfold checkDefrost
  split
  case h_1 run => exact absurd run off
  case h_2 defrost => exact absurd defrost clear
  all_goals rfl

/-! ### The warning and the demand at drying -/

theorem checkWarning_dry (s : State) : (checkWarning s).dry = { s.dry with warning := (checkWarning s).dry.warning } := by
  have told (on : Bool) : (setWarning on s).dry = { s.dry with warning := on } := by
    cases on with
    | true => rfl
    | false => rfl
  unfold checkWarning
  split
  · split
    · rw [told]
    · split
      · rw [told]
      · rfl
  · rfl

theorem evaluateDemand_dry (s : State) : (evaluateDemand s).dry
    = { s.dry with demand := (evaluateDemand s).dry.demand, timedTimer := (evaluateDemand s).dry.timedTimer } := by
  simp only [evaluateDemand, State.setDry_dry, Drying.evaluateDemand]
  repeat' split
  all_goals rfl

/-- The warning and the demand judged, where the defrost part has nothing to do between them. -/
def checkJudged (s : State) : State := evaluateDemand (checkWarning s)

theorem checkJudged_dry (s : State) : (checkJudged s).dry = { s.dry with
    warning := (checkJudged s).dry.warning, demand := (checkJudged s).dry.demand,
    timedTimer := (checkJudged s).dry.timedTimer } := by
  have demand := evaluateDemand_dry (checkWarning s)
  rw [checkWarning_dry s] at demand
  have warning : (checkJudged s).dry.warning = (checkWarning s).dry.warning := (congrArg Drying.warning demand).trans rfl
  rw [warning]
  exact demand

theorem setWarning_air (on : Bool) (s : State) :
    (setWarning on s).air = AirMover.arbitrate { s.air with protect := if on then some 255 else none } := by
  cases on with
  | true => rfl
  | false => rfl

theorem checkWarning_slots (s : State) : s.SlotsStand (checkWarning s) := by
  have told (on : Bool) : s.SlotsStand (setWarning on s) := by
    have kept := AirMover.arbitrate_kept { s.air with protect := if on then some 255 else none }
    rw [State.SlotsStand, setWarning_air]
    exact ⟨kept.drying, kept.defrost⟩
  unfold checkWarning
  split
  · split
    · exact told _
    · split
      · exact told _
      · exact ⟨rfl, rfl⟩
  · exact ⟨rfl, rfl⟩

@[simp] theorem checkWarning_conditions (s : State) : (checkWarning s).notice.conditions = s.notice.conditions := by
  have told (on : Bool) : (setWarning on s).notice.conditions = s.notice.conditions := by
    cases on with
    | true => rfl
    | false => rfl
  unfold checkWarning
  split
  · split
    · exact told _
    · split
      · exact told _
      · rfl
  · rfl

theorem checkJudged_slots (s : State) : s.SlotsStand (checkJudged s) := checkWarning_slots s

@[simp] theorem checkJudged_outside (s : State) :
    (checkJudged s).path = s.path ∧ (checkJudged s).front = s.front ∧ (checkJudged s).store = s.store
      ∧ (checkJudged s).notice.conditions = s.notice.conditions := by
  simp [checkJudged]

theorem checkJudged_comp (s : State) : (checkJudged s).dry.comp = s.dry.comp :=
  (congrArg Drying.comp (checkJudged_dry s)).trans rfl

/-- R67: a check whose trip leaves the compressor neither running nor in DEFROST. -/
theorem dryingCheck_of_idle (s : State) (off : (checkTrip s).dry.comp ≠ .running)
    (clear : (checkTrip s).dry.comp ≠ .defrost) : dryingCheck s = judgeDrying (checkJudged (checkTrip s)) := by
  have comp : (checkWarning (checkTrip s)).dry.comp = (checkTrip s).dry.comp :=
    (congrArg Drying.comp (checkWarning_dry (checkTrip s))).trans rfl
  rw [dryingCheck, checkDefrost_of_idle _ (by rwa [comp]) (by rwa [comp]), checkJudged]

/-! ### The trip and the defrost part (R82 to R89) -/

/-- R88, steps 4 and 5: the state a trip leads to. -/
def Drying.tripState (d : Drying) : CompState := if 3 ≤ d.trip.trips.length then .lockedOut else .tripped

theorem Drying.tripState_cases (d : Drying) : d.tripState = .tripped ∨ d.tripState = .lockedOut := by
  unfold tripState
  split
  · exact .inr rfl
  · exact .inl rfl

/-- The part with the compressor tripped, before the trip is reported. -/
def tripTaken (s : State) : State :=
  setComp s.dry.tripState (markIf (decide (s.dry.trip.tripTotal ≠ s.dry.tripTotal)) (s.setDry s.dry.trip))

theorem tripCompressor_eq (s : State) : tripCompressor s = requestJob .wearSave
    (reportCondition (if 3 ≤ s.dry.trip.trips.length then .compLockout else .compTrip) true (tripTaken s)) := by
  simp only [tripCompressor, tripTaken, Drying.tripState]
  split
  · rfl
  · rfl

theorem tripCompressor_ruled (s : State) : Ruled (tripTaken s) (tripCompressor s) := by
  rw [tripCompressor_eq]
  exact (reportCondition_ruled _ _ _).trans (requestJob_ruled _ _)

theorem tripTaken_dry (s : State) : (tripTaken s).dry = { s.dry.trip with comp := s.dry.tripState } := by
  simp [tripTaken]

theorem tripCompressor_comp (s : State) : (tripCompressor s).dry.comp = s.dry.tripState := by
  have taken := congrArg Drying.comp (tripTaken_dry s)
  obtain same | ⟨source, -⟩ := (tripCompressor_ruled s).comp
  · exact same.trans taken
  · rw [taken] at source
    obtain h | h := s.dry.tripState_cases <;> simp [h, CompState.standby] at source

theorem tripCompressor_dry (s : State) :
    (tripCompressor s).dry = Drying.withRules { s.dry.trip with comp := s.dry.tripState } (tripCompressor s).dry := by
  have off : (tripTaken s).dry.comp ≠ .running := by
    rw [tripTaken_dry]
    obtain h | h := s.dry.tripState_cases <;> simp [h]
  rw [← tripTaken_dry]
  exact (tripCompressor_ruled s).dryOff off

theorem checkTrip_checkFigures (s : State) : (checkTrip s).dry.checkFigures = s.dry.checkFigures := by
  have tripped : (tripCompressor s).dry.checkFigures = s.dry.checkFigures := by
    rw [(tripCompressor_ruled s).checkFigures, tripTaken_dry]
    rfl
  have recovered : (judgeHold (reportCondition .compTrip false (setComp .offHold s))).dry.checkFigures
      = s.dry.checkFigures := by
    rw [((reportCondition_ruled _ _ _).trans (judgeHold_ruled _)).checkFigures, setComp_dry]
    rfl
  unfold checkTrip
  split
  · split
    · exact tripped
    · rfl
  · split
    · exact recovered
    · rfl
  all_goals rfl

theorem checkTrip_air (s : State) : s.air.Follows (checkTrip s).air := by
  have taken : s.air.Follows (tripTaken s).air :=
    (markIf_followOn _ (s.setDry s.dry.trip)).air.trans (setComp_follows _ _).1
  have tripped : s.air.Follows (tripCompressor s).air := by
    rw [tripCompressor_eq]
    exact (taken.trans (reportCondition_followOn _ _ _).air).trans (requestJob_followOn _ _).air
  have recovered := ((setComp_follows .offHold s).1.trans (reportCondition_followOn .compTrip false _).air).trans
    (judgeHold_followOn _).air
  unfold checkTrip
  split
  · split
    · exact tripped
    · exact .refl _
  · split
    · exact recovered
    · exact .refl _
  all_goals exact .refl _

theorem enterDefrost_dry (s : State) :
    (enterDefrost s).dry = { s.dry.enterDefrost s.path.working with comp := .defrost } := by
  simp [enterDefrost]

/-- R85: defrost ended, before the hold is judged. -/
def defrostLeft (s : State) : State :=
  setComp .offHold (s.setDry { s.dry with defrostTimer := none, defendRun := 0 })

theorem endDefrost_eq (s : State) : endDefrost s = judgeHold (defrostLeft s) := rfl

theorem defrostLeft_dry (s : State) :
    (defrostLeft s).dry = { s.dry with defrostTimer := none, defendRun := 0, comp := .offHold } := by
  simp [defrostLeft]

theorem checkDefrost_checkFigures (s : State) : (checkDefrost s).dry.checkFigures = s.dry.checkFigures := by
  have entered : (enterDefrost s).dry.checkFigures = s.dry.checkFigures := by
    rw [enterDefrost_dry]
    rfl
  have ended : (endDefrost s).dry.checkFigures = s.dry.checkFigures := by
    rw [endDefrost_eq, (judgeHold_ruled _).checkFigures, defrostLeft_dry]
    rfl
  unfold checkDefrost
  split
  · split
    · exact entered
    · rfl
  · split
    · exact ended
    · rfl
  all_goals rfl

theorem checkDefrost_air (s : State) : s.air.Follows (checkDefrost s).air := by
  have entered : s.air.Follows (enterDefrost s).air :=
    (markIf_followOn _ (s.setDry (s.dry.enterDefrost s.path.working))).air.trans (setComp_follows .defrost _).1
  have ended : s.air.Follows (endDefrost s).air :=
    (setComp_follows .offHold (s.setDry { s.dry with defrostTimer := none, defendRun := 0 })).1.trans
      (judgeHold_followOn _).air
  unfold checkDefrost
  split
  · split
    · exact entered
    · exact .refl _
  · split
    · exact ended
    · exact .refl _
  all_goals exact .refl _

end Sys2Proof.Machine
end

section
/-! SUPPORT. The condenser's protection in a check: the trip, the warning with the PROTECT slot, and the recovery from TRIPPED
(R67, R87 to R89), with their statement. -/

namespace Sys2Proof.Machine

/-! ### The trip (R88) -/

/-- R67: a check that trips the compressor does no more to it. -/
theorem dryingCheck_of_trip (s : State) (trip : checkTrip s = tripCompressor s) :
    dryingCheck s = checkJudged (tripCompressor s) := by
  have comp := tripCompressor_comp s
  have parked := s.dry.tripState_cases
  rw [← comp] at parked
  have idle := dryingCheck_of_idle s (by rw [trip]; obtain h | h := parked <;> simp [h])
    (by rw [trip]; obtain h | h := parked <;> simp [h])
  rw [trip] at idle
  rw [idle, judgeDrying_of_parked]
  rwa [checkJudged_comp]

theorem tripCompressor_drying (s : State) : (tripCompressor s).air.drying = none := by
  obtain ⟨drying, -⟩ := (tripCompressor_ruled s).slotsFormed (setComp_slotsFormed _ _)
  refine drying.trans (if_neg ?_)
  rw [tripCompressor_comp]
  obtain h | h := s.dry.tripState_cases <;> simp [h]

theorem tripCompressor_condition (s : State) :
    (3 ≤ s.dry.trip.trips.length → hasFlag (tripCompressor s).notice.conditions .compLockout = true)
      ∧ (s.dry.trip.trips.length < 3 → hasFlag (tripCompressor s).notice.conditions .compTrip = true) := by
  have reported (f : Flag) (t : State) :
      hasFlag (requestJob .wearSave (reportCondition f true t)).notice.conditions f = true := by simp
  refine ⟨fun many => ?_, fun few => ?_⟩
  · rw [tripCompressor_eq, if_pos many]
    exact reported _ _
  · rw [tripCompressor_eq, if_neg (by omega)]
    exact reported _ _

theorem tripCompressor_save (s : State) (h : s.store.movePending = false) :
    .wearSave ∈ (tripCompressor s).store.queue := by
  have store : (tripTaken s).store.movePending = s.store.movePending := by
    simp only [tripTaken, setComp_keeps, markIf]
    split
    · rfl
    · rfl
  rw [tripCompressor_eq]
  exact mem_requestJob _ _ (by rw [(reportCondition_keeps _ _ _).2.2, store]; exact h)

/-! ### The warning (R87) -/

/-- R87: the warning as a check leaves it. -/
theorem checkWarning_warning (s : State) :
    (s.front.tcond.status ≠ .valid → (checkWarning s).dry.warning = s.dry.warning)
      ∧ (s.front.tcond.status = .valid → s.dry.warning = false →
        ((checkWarning s).dry.warning = true ↔ (s.path.working.warn : Int) * 10 ≤ s.front.tcond.value))
      ∧ (s.front.tcond.status = .valid → s.dry.warning = true →
        ((checkWarning s).dry.warning = false ↔ s.front.tcond.value < ((s.path.working.warn : Int) - 3) * 10)) := by
  have told (on : Bool) : (setWarning on s).dry.warning = on := by
    cases on with
    | true => rfl
    | false => rfl
  refine ⟨fun invalid => ?_, fun valid was => ?_, fun valid was => ?_⟩
  · rw [checkWarning, if_neg invalid]
  · by_cases hot : (s.path.working.warn : Int) * 10 ≤ s.front.tcond.value
    · simp [checkWarning, valid, was, hot, told]
    · simp [checkWarning, valid, was, hot]
  · by_cases cold : s.front.tcond.value < ((s.path.working.warn : Int) - 3) * 10
    · simp [checkWarning, valid, was, cold, told]
    · simp [checkWarning, valid, was, cold]

/-- R87: the PROTECT slot follows the warning, whose start is noticed. -/
theorem checkWarning_protect (s : State) :
    (s.dry.warning = false → (checkWarning s).dry.warning = true →
        (checkWarning s).air.protect = some 255 ∧ hasFlag (checkWarning s).notice.latched .condHotWarn = true)
      ∧ (s.dry.warning = true → (checkWarning s).dry.warning = false → (checkWarning s).air.protect = none)
      ∧ ((checkWarning s).dry.warning = s.dry.warning → (checkWarning s).air.protect = s.air.protect) := by
  have started : (setWarning true s).dry.warning = true ∧ (setWarning true s).air.protect = some 255
      ∧ hasFlag (setWarning true s).notice.latched .condHotWarn = true := by
    refine ⟨rfl, ?_, by simp [setWarning]⟩
    rw [setWarning_air]
    exact (AirMover.arbitrate_kept _).protect
  have ended : (setWarning false s).dry.warning = false ∧ (setWarning false s).air.protect = none := by
    refine ⟨rfl, ?_⟩
    rw [setWarning_air]
    exact (AirMover.arbitrate_kept _).protect
  unfold checkWarning
  split
  case isFalse => simp +contextual
  case isTrue =>
    split
    case isTrue h => simp [started, h.1]
    case isFalse =>
      split
      case isTrue h => simp [ended, h.1]
      case isFalse => simp +contextual

/-- R67: of a check's parts the warning's alone moves the warning, the PROTECT slot and what is latched. -/
theorem dryingCheck_warning (s : State) :
    (dryingCheck s).dry.warning = (checkWarning (checkTrip s)).dry.warning
      ∧ (dryingCheck s).air.protect = (checkWarning (checkTrip s)).air.protect
      ∧ (dryingCheck s).notice = (checkWarning (checkTrip s)).notice := by
  have rules := judgeDrying_ruled (evaluateDemand (checkDefrost (checkWarning (checkTrip s))))
  have follow := (checkDefrost_air (checkWarning (checkTrip s))).trans
    ((evaluateDemand_followOn _).trans (judgeDrying_followOn _)).air
  refine ⟨?_, follow.protect, by simp [dryingCheck]⟩
  calc (dryingCheck s).dry.warning
      = (evaluateDemand (checkDefrost (checkWarning (checkTrip s)))).dry.warning := congrArg (·.2.2.2) rules.checkFigures
    _ = (checkDefrost (checkWarning (checkTrip s))).dry.warning :=
      (congrArg Drying.warning (evaluateDemand_dry _)).trans rfl
    _ = (checkWarning (checkTrip s)).dry.warning := congrArg (·.2.2.2) (checkDefrost_checkFigures _)

/-! ### The recovery (R89) -/

/-- R89: the compressor that has recovered from its trip, with the hold judged: in standby, in OFF_HOLD while its times are
not done, and otherwise as it was. -/
structure State.Recovered (s t : State) : Prop where
  dry : t.dry = s.dry.withRules t.dry
  held : t.dry.comp = .offHold ∨ s.dry.holdDone s.path.working = true
  standby : t.dry.comp.standby = true

theorem checkTrip_recovered (s : State) (tripped : s.dry.comp = .tripped) (valid : s.front.tcond.status = .valid)
    (low : s.front.tcond.value ≤ ((s.path.working.trip : Int) - 10) * 10) :
    s.Recovered (checkTrip s) ∧ hasFlag (checkTrip s).notice.conditions .compTrip = false := by
  rw [checkTrip_of_recovered s tripped valid low]
  have rules := (reportCondition_ruled .compTrip false (setComp .offHold s)).trans (judgeHold_ruled _)
  have follow := (reportCondition_followOn .compTrip false (setComp .offHold s)).trans (judgeHold_followOn _)
  have dry := rules.dryOff (by simp)
  rw [setComp_dry] at dry
  refine ⟨⟨dry, ?_, rules.standby (by rw [setComp_dry]; rfl)⟩, by simp⟩
  rw [or_iff_not_imp_right, Bool.not_eq_true]
  intro hold
  refine follow.offHold (by simp) ?_
  rw [setComp_dry, (setComp_outside _ _).2.2.2.2.1]
  exact hold

/-- R73: a standby compressor through the other parts of the check. -/
theorem dryingCheck_of_recovered (s : State) (h : s.Recovered (checkTrip s)) :
    ((dryingCheck s).dry.comp = .offHold ↔ s.dry.holdDone s.path.working = false)
      ∧ (dryingCheck s).dry.comp.standby = true
      ∧ (dryingCheck s).dry.offTime = s.dry.offTime ∧ (dryingCheck s).dry.trips = s.dry.trips := by
  obtain ⟨dry, held, standby⟩ := h
  have path : (checkJudged (checkTrip s)).path = s.path := by simp
  rw [dryingCheck_of_idle s (CompState.ne_running_of_standby standby) (CompState.ne_defrost_of_standby standby)]
  generalize judged : checkJudged (checkTrip s) = u at path
  have comp : u.dry.comp = (checkTrip s).dry.comp := judged ▸ checkJudged_comp _
  have figures : u.dry.offTime = s.dry.offTime ∧ u.dry.extraHold = s.dry.extraHold ∧ u.dry.trips = s.dry.trips := by
    rw [← judged, checkJudged_dry, dry]
    exact ⟨rfl, rfl, rfl⟩
  obtain ⟨offTime, extraHold, trips⟩ := figures
  have times : u.dry.holdDone u.path.working = s.dry.holdDone s.path.working := by
    rw [Drying.holdDone, Drying.holdDone, offTime, extraHold, path]
  rw [← comp] at standby held
  rw [← times] at held ⊢
  obtain ⟨hold, standby', rules⟩ := judgeDrying_of_standby u standby held
  refine ⟨hold, standby', ?_, ?_⟩
  · rw [rules]
    exact offTime
  · rw [rules]
    exact trips

/-- R88: a compressor that stays tripped is left by the check as it is. -/
theorem dryingCheck_of_tripped (s : State) (tripped : s.dry.comp = .tripped) (stays : checkTrip s = s) :
    dryingCheck s = checkJudged s := by
  have idle := dryingCheck_of_idle s (by simp [stays, tripped]) (by simp [stays, tripped])
  rw [stays] at idle
  rw [idle, judgeDrying_of_parked]
  exact .inl ((checkJudged_comp s).trans tripped)

/-- Settles O26: the trip, the warning and the recovery each by its part of the check, which the other parts leave. -/
theorem checkProtectsCondenser : Obligations.CheckProtectsCondenser := by
  have frame (s : State) : (dryingCheck s).filter = s.filter ∧ (dryingCheck s).tank = s.tank
      ∧ onlyBlocks s (dryingCheck s) := by simp [onlyBlocks]
  refine ⟨fun s running run valid hot => ?trip, fun s running => ?warning, fun s running tripped => ?recovery⟩
  case trip =>
    have check := dryingCheck_of_trip s (checkTrip_of_hot s run valid hot)
    obtain ⟨lockout, trip⟩ := tripCompressor_condition s
    obtain ⟨-, -, store, conditions⟩ := checkJudged_outside (tripCompressor s)
    have drying := (checkJudged_slots (tripCompressor s)).1.trans (tripCompressor_drying s)
    have comp := (checkJudged_comp (tripCompressor s)).trans (tripCompressor_comp s)
    have dry := checkJudged_dry (tripCompressor s)
    rw [tripCompressor_dry] at dry
    rw [← conditions] at lockout trip
    rw [← check] at dry comp drying lockout trip store
    have figures : (dryingCheck s).dry.offTime = 0 ∧ (dryingCheck s).dry.offTimer = startTimer 1000
        ∧ (dryingCheck s).dry.frostRun = 0 ∧ (dryingCheck s).dry.runTimer = none
        ∧ (dryingCheck s).dry.tripTotal = min 255 (s.dry.tripTotal + 1)
        ∧ (dryingCheck s).dry.defrosts = s.dry.defrosts ∧ (dryingCheck s).dry.starts = s.dry.starts := by
      rw [dry]
      exact ⟨rfl, rfl, rfl, rfl, rfl, rfl, rfl⟩
    obtain ⟨offTime, offTimer, frostRun, runTimer, tripTotal, defrosts, starts⟩ := figures
    have trips : (dryingCheck s).dry.trips = s.dry.trip.trips := by
      rw [dry]
      rfl
    have off : (dryingCheck s).compPin = false := by
      obtain h | h := s.dry.tripState_cases <;> simp [State.compPin, comp, h]
    rw [← trips] at lockout trip
    rw [Drying.tripState, ← trips] at comp
    exact ⟨_, exec_dryingCheck s running, trips, fun many => ⟨comp.trans (if_pos many), lockout many⟩,
      fun few => ⟨comp.trans (if_neg (by omega)), trip few⟩, off, drying, offTime, offTimer, frostRun, runTimer, tripTotal,
      defrosts, starts, fun h => store ▸ tripCompressor_save s h, frame s⟩
  case warning =>
    obtain ⟨warning, protect, notice⟩ := dryingCheck_warning s
    have figure : (checkTrip s).dry.warning = s.dry.warning := congrArg (·.2.2.2) (checkTrip_checkFigures s)
    obtain ⟨invalid, starts, ends⟩ := checkWarning_warning (checkTrip s)
    obtain ⟨started, ended, stands⟩ := checkWarning_protect (checkTrip s)
    rw [← notice, ← protect, ← warning, figure] at started
    rw [← protect, ← warning, figure] at ended
    rw [← protect, ← warning, figure, (checkTrip_air s).protect] at stands
    rw [← warning, figure] at invalid starts ends
    simp only [checkTrip_outside] at invalid starts ends
    exact ⟨_, exec_dryingCheck s running, invalid, starts, ends, started, ended, stands, frame s⟩
  case recovery =>
    refine ⟨_, exec_dryingCheck s running, ?_⟩
    by_cases low : s.front.tcond.status = .valid ∧ s.front.tcond.value ≤ ((s.path.working.trip : Int) - 10) * 10
    case pos =>
      obtain ⟨recovered, condition⟩ := checkTrip_recovered s tripped low.1 low.2
      obtain ⟨hold, standby, offTime, trips⟩ := dryingCheck_of_recovered s recovered
      have conditions : (dryingCheck s).notice.conditions = (checkTrip s).notice.conditions := by simp [dryingCheck]
      refine ⟨decide_eq_false (CompState.ne_running_of_standby standby), offTime, trips, fun _ _ => ⟨?_, ?_, ?_⟩,
        fun high => ?_, frame s⟩
      · rw [conditions, condition]
      · rw [hold, Drying.holdDone_eq_false]
      · exact (CompState.standby_iff _).1 standby
      · obtain h | h := high
        · exact absurd low.1 h
        · omega
    case neg =>
      have high : s.front.tcond.status ≠ .valid ∨ ((s.path.working.trip : Int) - 10) * 10 < s.front.tcond.value := by
        rw [← Int.not_le]
        exact not_and_or.1 low
      have same := dryingCheck_of_tripped s tripped (checkTrip_of_tripped s tripped high)
      have dry := checkJudged_dry s
      rw [← same] at dry
      have comp : (dryingCheck s).dry.comp = .tripped := by rw [dry]; exact tripped
      refine ⟨by simp [State.compPin, comp], by rw [dry], by rw [dry], fun valid cold => absurd ⟨valid, cold⟩ low,
        fun _ => ⟨comp, by simp [same]⟩, frame s⟩

end Sys2Proof.Machine
end

section
/-! SUPPORT. The humidity demand and what it makes of OFF_READY and PRE_RUN (R68 to R71, R74, R75), with their statement. -/

namespace Sys2Proof.Machine

/-! ### One evaluation of the demand (R68 to R71) -/

theorem dryingAllowed_iff (w : Settings) (m : ModeState) :
    dryingAllowed w m = true ↔ m = .standalone ∨ w.mode = .dry ∨ w.mode = .cleanDry := by
  cases m <;> simp [dryingAllowed]

theorem setpointInUse_eq (w : Settings) (m : ModeState) :
    setpointInUse w m = if m = .standalone then w.standaloneRhSetpoint else w.rhSetpoint := by
  cases m <;> rfl

/-- The demand that a humidity VALID gives, between the thresholds of a setpoint. -/
def Drying.validDemand (d : Drying) (w : Settings) (setpoint : Nat) (rh : Int) : Demand :=
  if ((setpoint : Int) + w.bandOn) * 10 ≤ rh then .demand
  else if rh ≤ ((setpoint : Int) - w.bandOff) * 10 then .satisfied
  else if d.demand = .demand ∨ d.demand = .timed true then .demand else .satisfied

theorem Demand.isOn_iff (x : Demand) : x.isOn = true ↔ x = .demand ∨ x = .timed true := by
  cases x <;> simp [Demand.isOn]

section Evaluation

variable (d : Drying) (w : Settings) (rh : ChannelState)

theorem Drying.evaluateDemand_of_forbidden (h : dryingAllowed w d.mode = false) :
    d.evaluateDemand w rh = { d with demand := .satisfied, timedTimer := none } := by
  simp [Drying.evaluateDemand, h]

theorem Drying.evaluateDemand_of_unmeasured (h : dryingAllowed w d.mode = true) (status : rh.status = .unmeasured) :
    d.evaluateDemand w rh = d := by
  simp [Drying.evaluateDemand, h, status]

theorem Drying.evaluateDemand_of_valid (h : dryingAllowed w d.mode = true) (status : rh.status = .valid) :
    d.evaluateDemand w rh
      = { d with demand := d.validDemand w (setpointInUse w d.mode) rh.value, timedTimer := none } := by
  simp only [Drying.evaluateDemand, h, status, if_true, Demand.follow, Demand.isOn_iff]
  rfl

theorem Drying.evaluateDemand_of_faulted (h : dryingAllowed w d.mode = true) (status : rh.status = .faulted)
    (demand : d.demand = .satisfied ∨ d.demand = .demand) :
    d.evaluateDemand w rh = { d with demand := .timed true, timedTimer := startTimer 3600000 } := by
  obtain demand | demand := demand <;> simp [Drying.evaluateDemand, h, status, demand]

theorem Drying.evaluateDemand_of_timed (h : dryingAllowed w d.mode = true) (status : rh.status = .faulted) {on : Bool}
    (demand : d.demand = .timed on) : d.evaluateDemand w rh = d := by
  simp [Drying.evaluateDemand, h, status, demand]

/-- The figures an evaluation reads. -/
def Drying.demandFigures (d : Drying) : Demand × Timer × ModeState := (d.demand, d.timedTimer, d.mode)

theorem Drying.demandFigures_of_check {d e : Drying} (h : e.checkFigures = d.checkFigures) :
    e.demandFigures = d.demandFigures := congrArg (fun f => (f.1, f.2.1, f.2.2.1)) h

theorem Drying.evaluateDemand_congr {d e : Drying} (h : e.demandFigures = d.demandFigures) :
    (e.evaluateDemand w rh).demandFigures = (d.evaluateDemand w rh).demandFigures := by
  simp only [Drying.demandFigures, Prod.mk.injEq] at h
  obtain ⟨demand, timer, mode⟩ := h
  simp only [Drying.evaluateDemand, mode, demand]
  cases dryingAllowed w d.mode with
  | false => simp [Drying.demandFigures]
  | true =>
    cases rh.status with
    | unmeasured => simp [Drying.demandFigures, demand, timer, mode]
    | valid => simp [Drying.demandFigures]
    | faulted => cases d.demand <;> simp [Drying.demandFigures, demand, timer, mode]

end Evaluation

/-- R67: the check judges the demand that it finds, and its rules leave what it has judged. -/
theorem dryingCheck_demand (s : State) :
    (dryingCheck s).dry.demandFigures = (s.dry.evaluateDemand s.path.working s.front.rh).demandFigures := by
  have warned (u : State) : (checkWarning u).dry.demandFigures = u.dry.demandFigures := by
    rw [checkWarning_dry]
    rfl
  have found : (checkDefrost (checkWarning (checkTrip s))).dry.demandFigures = s.dry.demandFigures :=
    calc _ = (checkWarning (checkTrip s)).dry.demandFigures := Drying.demandFigures_of_check (checkDefrost_checkFigures _)
      _ = (checkTrip s).dry.demandFigures := warned _
      _ = s.dry.demandFigures := Drying.demandFigures_of_check (checkTrip_checkFigures s)
  have judged := Drying.evaluateDemand_congr s.path.working s.front.rh found
  have rules := (judgeDrying_ruled (evaluateDemand (checkDefrost (checkWarning (checkTrip s))))).checkFigures
  rw [← judged, dryingCheck, Drying.demandFigures_of_check rules]
  simp [evaluateDemand]

/-! ### OFF_READY and PRE_RUN at a check (R74, R75) -/

theorem checkJudged_startPermitted (s : State) : (checkJudged s).startPermitted ↔ s.startPermitted := by
  obtain ⟨path, front, -⟩ := checkJudged_outside s
  rw [State.startPermitted, checkJudged_dry, path, front]
  rfl

theorem checkJudged_offTime (s : State) : (checkJudged s).dry.offTime = s.dry.offTime :=
  (congrArg Drying.offTime (checkJudged_dry s)).trans rfl

/-- R73: a rested compressor in OFF_READY or PRE_RUN does not fall back into its hold. -/
theorem judgeHold_of_rested (s : State) (ready : s.dry.comp = .offReady ∨ s.dry.comp = .preRun)
    (rested : s.path.working.minOffSeconds ≤ s.dry.offTime) : judgeHold s = s := by
  have met : ¬ s.dry.offTime < s.path.working.minOffSeconds := by omega
  obtain h | h := ready <;> simp [judgeHold, h, met]

/-- R75: with its off time met a compressor in OFF_READY or PRE_RUN has its start judged and nothing else. -/
theorem dryingCheck_of_ready (s : State) (ready : s.dry.comp = .offReady ∨ s.dry.comp = .preRun)
    (rested : s.path.working.minOffSeconds ≤ s.dry.offTime) : dryingCheck s = judgeStart (checkJudged s) := by
  have trip : checkTrip s = s := checkTrip_of_idle s (by obtain h | h := ready <;> simp [h])
    (by obtain h | h := ready <;> simp [h])
  have check := dryingCheck_of_idle s (by rw [trip]; obtain h | h := ready <;> simp [h])
    (by rw [trip]; obtain h | h := ready <;> simp [h])
  rw [trip] at check
  have comp := checkJudged_comp s
  rw [check, judgeDrying_of_off _ (by rw [comp]; obtain h | h := ready <;> simp [h]),
    judgeHold_of_rested _ (by rwa [comp]) (by rw [checkJudged_offTime, (checkJudged_outside s).1]; exact rested)]

/-- R75: what the start's judgement makes of OFF_READY and PRE_RUN. -/
theorem judgeStart_of_ready (s : State) (ready : s.dry.comp = .offReady ∨ s.dry.comp = .preRun) :
    (startHolds s = true → (judgeStart s).dry.comp = .preRun
        ∧ (s.dry.comp = .offReady → (judgeStart s).dry.confirmTimer = startTimer 30000
            ∧ (judgeStart s).air.drying = some s.path.working.dryDuty)
        ∧ (s.dry.comp = .preRun → judgeStart s = s))
      ∧ (startHolds s = false → (judgeStart s).dry.comp = .offReady
        ∧ (s.dry.comp = .preRun → (judgeStart s).dry.confirmTimer = none ∧ (judgeStart s).air.drying = none)) := by
  have slot (c : CompState) (t : State) : (setComp c t).air.drying
      = if c = .preRun ∨ c = .running then some t.path.working.dryDuty else none := by
    have formed := dryingSlotFormed_setComp c t
    rw [dryingSlotFormed, setComp_dry, (setComp_outside c t).2.2.2.2.1] at formed
    exact formed
  obtain comp | comp := ready
  · refine ⟨fun start => ?_, fun stays => ?_⟩
    · simp [judgeStart, comp, start, slot]
    · simp [judgeStart, comp, stays]
  · refine ⟨fun start => ?_, fun stays => ?_⟩
    · simp [judgeStart, comp, start]
    · simp [judgeStart, comp, stays, slot]

/-! ### The writes that evaluate the demand (R69) -/

/-- What the delivery of a setpoint or a band does: the demand evaluated where the setting is in use. -/
theorem settingWritten_demand (off v : Byte) (s : State)
    (hoff : off = 0x03#8 ∨ off = 0x3C#8 ∨ off = 0x04#8 ∨ off = 0x05#8) :
    (settingWritten off v s).dry.demand =
      if (off = 0x03#8 ∧ s.dry.mode = .standalone) ∨ (off = 0x3C#8 ∧ s.dry.mode = .normal) then s.dry.demand
      else (s.dry.evaluateDemand (settingWritten off v s).path.working s.front.rh).demand := by
  obtain ⟨-, dry, -⟩ := settingWritten_blocks off v s
  obtain ⟨front, -, found, -⟩ := judgedWrite_frame off v s
  have working := settingWritten_working off v s
  have judged (u : State) : (judgeDrying u).dry.demand = u.dry.demand := congrArg (·.1) (judgeDrying_ruled u).checkFigures
  have evaluated : (evaluateDemand (judgedWrite off v s)).dry.demand
      = (s.dry.evaluateDemand (judgedWrite off v s).path.working s.front.rh).demand := by
    simp [evaluateDemand, front, found]
  rw [dry, working]
  obtain rfl | rfl | rfl | rfl := hoff
  · have delivered (old : Settings) (u : State) : deliverSetting old (0x03#8 : Byte).toNat u
        = judgeDrying (setpointWritten .normal u) := rfl
    rw [delivered, judged, setpointWritten, found]
    cases s.dry.mode <;> simp [evaluated, found]
  · have delivered (old : Settings) (u : State) : deliverSetting old (0x3C#8 : Byte).toNat u
        = judgeDrying (setpointWritten .standalone u) := rfl
    rw [delivered, judged, setpointWritten, found]
    cases s.dry.mode <;> simp [evaluated, found]
  · have delivered (old : Settings) (u : State) : deliverSetting old (0x04#8 : Byte).toNat u
        = judgeDrying (evaluateDemand u) := rfl
    rw [delivered, judged, evaluated]
    simp
  · have delivered (old : Settings) (u : State) : deliverSetting old (0x05#8 : Byte).toNat u
        = judgeDrying (evaluateDemand u) := rfl
    rw [delivered, judged, evaluated]
    simp

/-- R137: a write outside the mode's cell leaves the mode. -/
theorem settingWritten_mode (off v : Byte) (s : State) (h : 0 ∉ settingGroup off.toNat) :
    (settingWritten off v s).path.working.mode = s.path.working.mode := by
  obtain ⟨path, -⟩ := settingWritten_spec off v s
  have nat : (s.path.written off.toNat v (settingClamp off.toNat v s)).working.nat 0 = s.path.working.nat 0 :=
    congrArg BitVec.toNat (s.path.written_byte_of_notMem off.toNat 0 v (settingClamp off.toNat v s) h)
  rw [path, Settings.mode, nat]
  rfl

/-- Settles O27: the demand by its evaluation, the start by its judgement, the writes by their deliveries. -/
theorem checkEvaluatesDemand : Obligations.CheckEvaluatesDemand := by
  refine ⟨fun setpoint s running inUse => ?demand, fun s running rested ready => ?start,
    fun off v s ⟨hs, _⟩ valid allowed hoff => ?write⟩
  case demand =>
    have judged := dryingCheck_demand s
    simp only [Drying.demandFigures, Prod.mk.injEq] at judged
    obtain ⟨demand, timer, -⟩ := judged
    have frame : (dryingCheck s).filter = s.filter ∧ (dryingCheck s).tank = s.tank ∧ onlyBlocks s (dryingCheck s) := by
      simp [onlyBlocks]
    refine ⟨_, exec_dryingCheck s running, ?_⟩
    rw [demand, timer]
    refine ⟨fun mode off => ?forbidden, fun h => ?allowed, frame⟩
    case forbidden =>
      have forbidden : dryingAllowed s.path.working s.dry.mode = false := by
        rw [Bool.eq_false_iff, ne_eq, dryingAllowed_iff]
        obtain h | h := off <;> simp [mode, h]
      rw [Drying.evaluateDemand_of_forbidden _ _ _ forbidden]
      exact ⟨rfl, rfl⟩
    case allowed =>
      have allowed := (dryingAllowed_iff _ _).2 h
      refine ⟨fun status => ?_, fun status => ⟨fun h => ?_, fun on h => ?_⟩, fun status => ?_⟩
      · rw [Drying.evaluateDemand_of_unmeasured _ _ _ allowed status]
        exact ⟨rfl, rfl⟩
      · rw [Drying.evaluateDemand_of_faulted _ _ _ allowed status h]
        exact ⟨rfl, rfl⟩
      · rw [Drying.evaluateDemand_of_timed _ _ _ allowed status h]
        exact ⟨h, rfl⟩
      · rw [Drying.evaluateDemand_of_valid _ _ _ allowed status, setpointInUse_eq, ← inUse]
        refine ⟨rfl, fun hi => ?_, fun hi lo => ?_, fun hi lo => ?_⟩
        · exact if_pos hi
        · exact (if_neg (by omega)).trans (if_pos lo)
        · exact (if_neg (by omega)).trans (if_neg (by omega))
  case start =>
    have check := dryingCheck_of_ready s ready rested
    have comp := checkJudged_comp s
    obtain ⟨path, -⟩ := checkJudged_outside s
    have rested' : (checkJudged s).compressorRested := fun _ => by
      rw [path, checkJudged_offTime]
      exact rested
    have off : (checkJudged s).dry.comp ≠ .running := by
      rw [comp]
      obtain h | h := ready <;> simp [h]
    obtain ⟨starts, stays⟩ := judgeStart_of_ready (checkJudged s) (by rwa [comp])
    have rules := judgeStart_ruled (checkJudged s) rested'
    have demand : (judgeStart (checkJudged s)).dry.demand = (checkJudged s).dry.demand := congrArg (·.1) rules.checkFigures
    have offTime := (congrArg Drying.offTime (rules.dryOff off)).trans (checkJudged_offTime s)
    have holds : startHolds (checkJudged s) = true ↔ (dryingCheck s).dry.demandOn ∧ s.startPermitted := by
      rw [startHolds_iff, checkJudged_startPermitted, check, Drying.demandOn, Drying.demandOn, demand]
    rw [comp, path, ← check] at starts
    rw [comp, ← check] at stays
    have frame : onlyBlocks s (dryingCheck s) := by simp [onlyBlocks]
    refine ⟨_, exec_dryingCheck s running, fun start => ?_, fun unmet => ?_, ?_, ?_, frame⟩
    · obtain ⟨pre, begins, same⟩ := starts (holds.2 start)
      refine ⟨pre, begins, fun was => ?_⟩
      rw [same was, (checkJudged_slots s).1, checkJudged_dry]
      exact ⟨rfl, rfl⟩
    · exact stays (by rwa [← Bool.not_eq_true, holds])
    · rw [check]
      exact decide_eq_false (rules.compOff off)
    · rw [check]
      exact offTime
  case write =>
    have place : off.toNat < 0x40 ∧ off ≠ 0x18#8 ∧ off ≠ 0x19#8 ∧ 0 ∉ settingGroup off.toNat := by
      obtain rfl | rfl | rfl | rfl := hoff <;> decide
    obtain ⟨low, notLow, notHigh, apart⟩ := place
    have demand := settingWritten_demand off v s hoff
    refine ⟨_, exec_settingWrite_written off v s hs low notLow notHigh, fun other => demand.trans (if_pos other),
      fun used setpoint inUse => ?_⟩
    have allowed' : dryingAllowed (settingWritten off v s).path.working s.dry.mode = true := by
      rw [dryingAllowed_iff, settingWritten_mode off v s apart]
      exact allowed
    rw [demand, if_neg used, Drying.evaluateDemand_of_valid _ _ _ allowed' valid, setpointInUse_eq, ← inUse]
    rfl

end Sys2Proof.Machine
end

section
/-! SUPPORT. Defrost begun on frost, on a faulted TEVAP and on command, and ended warm (R82 to R85), with its statement. -/

namespace Sys2Proof.Machine

/-! ### The entry (R84) -/

/-- R84: what the entry to DEFROST leaves. -/
structure State.Defrosting (s t : State) : Prop where
  comp : t.dry.comp = .defrost
  off : t.compPin = false
  offTime : t.dry.offTime = 0
  offTimer : t.dry.offTimer = startTimer 1000
  frostRun : t.dry.frostRun = 0
  runTimer : t.dry.runTimer = none
  runSinceDefrost : t.dry.runSinceDefrost = 0
  defrosts : t.dry.defrosts = min 65535 (s.dry.defrosts + 1)
  defrostTimer : t.dry.defrostTimer = startTimer (s.path.working.nat 0x20 * 60 * 1000)
  drying : t.air.drying = none
  defrost : t.air.defrost = some s.path.working.defrostDuty
  starts : t.dry.starts = s.dry.starts

theorem enterDefrost_defrosting (s : State) : s.Defrosting (enterDefrost s) := by
  obtain ⟨drying, defrost⟩ : (enterDefrost s).slotsFormed := setComp_slotsFormed .defrost _
  have dry := enterDefrost_dry s
  have comp : (enterDefrost s).dry.comp = .defrost := by rw [dry]
  refine ⟨comp, by simp [State.compPin, comp], ?_, ?_, ?_, ?_, ?_, ?_, ?_, drying.trans (by simp [comp]),
    defrost.trans (by simp [comp]), ?_⟩
  all_goals
    rw [dry]
    rfl

/-- The entry stands while what it left of the compressor and the slots does, from a state with the same counters. -/
theorem State.Defrosting.congr {s s' t t' : State} (h : s.Defrosting t) (path : s'.path.working = s.path.working)
    (counts : s'.dry.defrosts = s.dry.defrosts ∧ s'.dry.starts = s.dry.starts) (slots : t.SlotsStand t')
    (dry : t'.dry = { t.dry with demand := t'.dry.demand, timedTimer := t'.dry.timedTimer }) : s'.Defrosting t' := by
  obtain ⟨comp, -, offTime, offTimer, frostRun, runTimer, runSinceDefrost, defrosts, defrostTimer, drying, defrost,
    starts⟩ := h
  have comp' : t'.dry.comp = .defrost := by
    rw [dry]
    exact comp
  rw [← path] at defrostTimer defrost
  rw [← counts.1] at defrosts
  rw [← counts.2] at starts
  refine ⟨comp', by simp [State.compPin, comp'], ?_, ?_, ?_, ?_, ?_, ?_, ?_, slots.1.trans drying, slots.2.trans defrost, ?_⟩
  all_goals
    rw [dry]
    assumption

/-- R82, R83: the check that completes a frost run, or finds TEVAP FAULTED after 30 min, enters DEFROST and does no more to
the compressor. -/
theorem dryingCheck_defrosting (s : State) (trip : checkTrip s = s) (run : s.dry.comp = .running)
    (due : 121 ≤ nextFrostRun s ∨ (s.front.tevap.status = .faulted ∧ 1800 ≤ s.dry.runSinceDefrost)) :
    s.Defrosting (dryingCheck s) := by
  have warned := checkWarning_dry s
  have comp : (checkWarning s).dry.comp = .running := (congrArg Drying.comp warned).trans run
  have path : (checkWarning s).path = s.path := by simp
  have front : (checkWarning s).front = s.front := by simp
  have due' : 121 ≤ nextFrostRun (checkWarning s)
      ∨ ((checkWarning s).front.tevap.status = .faulted ∧ 1800 ≤ (checkWarning s).dry.runSinceDefrost) := by
    rw [nextFrostRun, warned, path, front]
    exact due
  have enters : checkDefrost (checkWarning s) = enterDefrost (checkWarning s) := by
    rw [checkDefrost, comp]
    exact if_pos due'
  have entered := enterDefrost_defrosting (checkWarning s)
  have check : dryingCheck s = evaluateDemand (enterDefrost (checkWarning s)) := by
    rw [dryingCheck, trip, enters, judgeDrying_of_defrost]
    rw [evaluateDemand_dry]
    exact entered.comp
  rw [check]
  refine entered.congr (by rw [path]) ?_ ⟨rfl, rfl⟩ (evaluateDemand_dry _)
  rw [warned]
  exact ⟨rfl, rfl⟩

/-! ### The end (R85) -/

/-- R85: defrost ended with the hold judged: in standby, in OFF_HOLD while its times are not done. -/
theorem endDefrost_spec (s : State) :
    (endDefrost s).dry = Drying.withRules { s.dry with defrostTimer := none, defendRun := 0 } (endDefrost s).dry
      ∧ ((endDefrost s).dry.comp = .offHold ∨ s.dry.holdDone s.path.working = true)
      ∧ (endDefrost s).dry.comp.standby = true ∧ (endDefrost s).slotsFormed := by
  have rules := judgeHold_ruled (defrostLeft s)
  have off : (defrostLeft s).dry.comp = .offHold := by rw [defrostLeft_dry]
  have dry := rules.dryOff (by simp [off])
  rw [defrostLeft_dry] at dry
  refine ⟨dry, ?_, rules.standby (by rw [off]; rfl), rules.slotsFormed (setComp_slotsFormed .offHold _)⟩
  rw [or_iff_not_imp_right, Bool.not_eq_true]
  intro hold
  refine (judgeHold_followOn (defrostLeft s)).offHold off ?_
  rw [defrostLeft_dry, defrostLeft, (setComp_outside _ _).2.2.2.2.1]
  exact hold

theorem evaluateDemand_slotsFormed (s : State) (h : s.slotsFormed) : (evaluateDemand s).slotsFormed := by
  have comp : (evaluateDemand s).dry.comp = s.dry.comp := (congrArg Drying.comp (evaluateDemand_dry s)).trans rfl
  rw [State.slotsFormed, dryingSlotFormed, comp]
  exact h

/-- R85: the check that completes a defend run ends defrost, and drying's rules follow. -/
theorem dryingCheck_defrosted (s : State) (comp : s.dry.comp = .defrost) (due : 31 ≤ nextDefendRun s) :
    ((dryingCheck s).dry.comp = .offHold ↔ s.dry.holdDone s.path.working = false)
      ∧ (dryingCheck s).dry.comp.standby = true ∧ (dryingCheck s).dry.defrostTimer = none
      ∧ (dryingCheck s).air.defrost = none ∧ (dryingCheck s).dry.offTime = s.dry.offTime := by
  have trip : checkTrip s = s := checkTrip_of_idle s (by simp [comp]) (by simp [comp])
  have warned := checkWarning_dry s
  have comp' : (checkWarning s).dry.comp = .defrost := (congrArg Drying.comp warned).trans comp
  have path : (checkWarning s).path = s.path := by simp
  have front : (checkWarning s).front = s.front := by simp
  have due' : 31 ≤ nextDefendRun (checkWarning s) := by
    rw [nextDefendRun, warned, path, front]
    exact due
  have ends : checkDefrost (checkWarning s) = endDefrost (checkWarning s) := by
    rw [checkDefrost, comp']
    exact if_pos due'
  have check : dryingCheck s = judgeDrying (evaluateDemand (endDefrost (checkWarning s))) := by
    rw [dryingCheck, trip, ends]
  obtain ⟨dry, held, standby, formed⟩ := endDefrost_spec (checkWarning s)
  have judged := evaluateDemand_dry (endDefrost (checkWarning s))
  have formed' := evaluateDemand_slotsFormed _ formed
  have path' : (evaluateDemand (endDefrost (checkWarning s))).path = s.path := by simp
  rw [check]
  generalize evaluateDemand (endDefrost (checkWarning s)) = u at judged formed' path'
  rw [dry, warned] at judged
  have figures : u.dry.comp = (endDefrost (checkWarning s)).dry.comp ∧ u.dry.offTime = s.dry.offTime
      ∧ u.dry.extraHold = s.dry.extraHold ∧ u.dry.defrostTimer = none := by
    rw [judged]
    exact ⟨rfl, rfl, rfl, rfl⟩
  obtain ⟨comp', offTime, extraHold, timer⟩ := figures
  have times : u.dry.holdDone u.path.working = s.dry.holdDone s.path.working := by
    rw [Drying.holdDone, Drying.holdDone, offTime, extraHold, path']
  have held' : u.dry.comp = .offHold ∨ u.dry.holdDone u.path.working = true := by
    rw [comp', times]
    rw [warned, path] at held
    exact held
  rw [← comp'] at standby
  obtain ⟨hold, standby', rules⟩ := judgeDrying_of_standby u standby held'
  obtain ⟨-, defrost⟩ := (judgeDrying_ruled u).slotsFormed formed'
  rw [times] at hold
  refine ⟨hold, standby', ?_, defrost.trans (if_neg (CompState.ne_defrost_of_standby standby')), ?_⟩
  · rw [rules]
    exact timer
  · rw [rules]
    exact offTime

/-! ### The command (R163) -/

theorem exec_defrostNow (s : State) (hs : s.takesCycles = true) (run : s.dry.comp = .running) :
    exec .defrostNow s = .next (enterDefrost (accept .done .none (commandNoted 0x21#8 s))) := by
  have judged : exec .defrostNow s = .next (judgeCommand codeDefrostNow (commandNoted codeDefrostNow s)) := by
    rw [← windowWrite_commandCell _ s hs (by decide)]
    rfl
  have running : (commandNoted 0x21#8 s).dry.comp = .running := by simp [run]
  rw [judged]
  exact congrArg Host.Outcome.next (if_pos running)

theorem enterDefrost_cmd (s : State) : s.cmd.Follows (enterDefrost s).cmd :=
  (markIf_followOn _ (s.setDry (s.dry.enterDefrost s.path.working))).cmd.trans (setComp_follows .defrost _).2

theorem enterDefrost_queue (s : State) : (enterDefrost s).store.queue = s.store.queue := by
  simp only [enterDefrost, setComp_keeps, markIf]
  split
  · rfl
  · rfl

/-- Settles O28: the entry on the check's own condition and on command, the end by the hold's judgement. -/
theorem defrostBeginsAndEnds : Obligations.DefrostBeginsAndEnds := by
  refine ⟨fun s running run cool due => ?entry, fun s running comp valid warm due => ?ends, fun s hs hm run => ?command⟩
  case entry =>
    have due' : 121 ≤ nextFrostRun s ∨ (s.front.tevap.status = .faulted ∧ 1800 ≤ s.dry.runSinceDefrost) := by
      obtain ⟨valid, cold, count⟩ | ⟨faulted, since⟩ := due
      · exact .inl (by simp [nextFrostRun, valid, cold, count])
      · exact .inr ⟨faulted, by omega⟩
    have left := dryingCheck_defrosting s (checkTrip_of_cool s run cool) run due'
    exact ⟨_, exec_dryingCheck s running, left.comp, left.off, left.offTime, left.offTimer, left.frostRun, left.runTimer,
      left.runSinceDefrost, left.defrosts, left.defrostTimer, left.drying, left.defrost, left.starts, by simp [onlyBlocks]⟩
  case ends =>
    have due' : 31 ≤ nextDefendRun s := by simp [nextDefendRun, valid, warm, due]
    obtain ⟨hold, standby, timer, defrost, offTime⟩ := dryingCheck_defrosted s comp due'
    refine ⟨_, exec_dryingCheck s running, (CompState.standby_iff _).1 standby, timer, defrost, offTime, ?_,
      by simp [onlyBlocks]⟩
    rw [hold, Drying.holdDone_eq_false]
  case command =>
    have left := enterDefrost_defrosting (accept .done .none (commandNoted 0x21#8 s))
    have cmd : ((commandNoted 0x21#8 s).cmd.outcome .done .none).Follows
        (enterDefrost (accept .done .none (commandNoted 0x21#8 s))).cmd :=
      enterDefrost_cmd (accept .done .none (commandNoted 0x21#8 s))
    have path : (enterDefrost (accept .done .none (commandNoted 0x21#8 s))).path = (commandNoted 0x21#8 s).path := by simp
    exact ⟨_, exec_defrostNow s hs run, commandTaken_of hm (by simp [onlyBlocks, accept]) cmd.lastCode,
      supervisionRestarted_of path cmd.count cmd.counting, cmd.status, cmd.awaited, left.comp, left.off, left.offTime,
      left.runSinceDefrost, left.defrosts, left.defrostTimer, left.runTimer, left.drying, left.defrost, by simp, by simp,
      by simp, enterDefrost_queue _⟩

end Sys2Proof.Machine
end

section
/-! SUPPORT. The expiries of drying's timers and a write of min off (R70, R73, R77, R85, R92), with their statement. -/

namespace Sys2Proof.Machine

/-! ### The timers' commands -/

theorem exec_offTimeExpiry (s : State) (h : s.dry.offTimer.isSome = true) :
    exec .offTimeExpiry s = .next (offTimeExpiry s) := by
  simp [exec, execOffTimeExpiry, h]

theorem exec_confirmationTimerExpiry (s : State) (pre : s.dry.comp = .preRun) (h : s.dry.confirmTimer.isSome = true) :
    exec .confirmationTimerExpiry s = .next (confirmationExpiry s) := by
  simp [exec, execConfirmationTimerExpiry, pre, h]

theorem exec_extraHoldExpiry (s : State) (h : s.dry.extraHold.isSome = true) :
    exec .extraHoldExpiry s = .next (extraHoldExpiry s) := by
  simp [exec, execExtraHoldExpiry, h]

theorem exec_defrostMaxExpiry (s : State) (comp : s.dry.comp = .defrost) (h : s.dry.defrostTimer.isSome = true) :
    exec .defrostMaxExpiry s = .next (defrostMaxExpiry s) := by
  simp [exec, execDefrostMaxExpiry, comp, h]

theorem exec_timedCycleExpiry (s : State) (h : s.dry.timedTimer.isSome = true) :
    exec .timedCycleExpiry s = .next (judgeDrying (s.setDry s.dry.timedExpiry)) := by
  simp [exec, execTimedCycleExpiry, h]

theorem exec_uptimeMinute (s : State) (h : s.phase = .running) :
    exec .uptimeMinute s = .next (s.setDry { s.dry with uptime := satAdd 16777215 s.dry.uptime 1 }) := by
  simp [exec, execUptimeMinute, whenRunning, h]

/-! ### The off time and the extra hold (R73, R77) -/

/-- The part with a second of off time counted. -/
def offTimeCounted (s : State) : State :=
  s.setDry { s.dry with offTime := satAdd 600 s.dry.offTime 1, offTimer := startTimer 1000 }

theorem offTimeExpiry_of_offHold (s : State) (h : s.dry.comp = .offHold) :
    offTimeExpiry s = judgeStart (judgeHold (offTimeCounted s)) := if_pos h

theorem offTimeExpiry_of_ne (s : State) (h : s.dry.comp ≠ .offHold) : offTimeExpiry s = offTimeCounted s := if_neg h

/-- R73: an off-time expiry counts a second and moves no other figure but the compressor's state. -/
theorem offTimeExpiry_dry (s : State) :
    (offTimeExpiry s).dry = (offTimeCounted s).dry.withRules (offTimeExpiry s).dry := by
  by_cases h : s.dry.comp = .offHold
  · rw [offTimeExpiry_of_offHold s h]
    exact judgeStart_judgeHold_dry _
  · rw [offTimeExpiry_of_ne s h, Drying.withRules_self]

theorem offTimeExpiry_offHold (s : State) (h : s.dry.comp = .offHold) :
    ((offTimeExpiry s).dry.comp = .offHold ↔
        (offTimeCounted s).dry.offTime < s.path.working.minOffSeconds ∨ s.dry.extraHold.isSome = true)
      ∧ (offTimeExpiry s).dry.comp.standby = true := by
  rw [offTimeExpiry_of_offHold s h]
  refine ⟨?_, (judgeStart_judgeHold_ruled _).standby ?_⟩
  · exact (judgeStart_judgeHold_offHold (offTimeCounted s) (.inl h)).trans (Drying.holdDone_eq_false _ _)
  · exact h ▸ rfl

/-! ### The confirmation timer (R77) -/

/-- The part with the start not confirmed, before the condition is reported. -/
def startFailed (s : State) : State :=
  setComp .offHold (s.setDry { s.dry with confirmTimer := none, extraHold := startTimer 60000 })

theorem startFailed_dry (s : State) : (startFailed s).dry
    = { s.dry with confirmTimer := none, extraHold := startTimer 60000, comp := .offHold } := by
  simp [startFailed]

/-- R77: the extra hold keeps the compressor in OFF_HOLD whatever its report leads to. -/
theorem confirmationExpiry_spec (s : State) :
    (confirmationExpiry s).dry.comp = .offHold ∧ (confirmationExpiry s).dry.confirmTimer = none
      ∧ (confirmationExpiry s).dry = (startFailed s).dry.withRules (confirmationExpiry s).dry
      ∧ (confirmationExpiry s).air.drying = none := by
  have off : (startFailed s).dry.comp = .offHold := by rw [startFailed_dry]
  have rules : Ruled (startFailed s) (confirmationExpiry s) := reportCondition_ruled _ _ _
  have comp : (confirmationExpiry s).dry.comp = .offHold := by
    refine (reportCondition_followOn .airflowLow true (startFailed s)).offHold off ?_
    rw [Drying.holdDone_eq_false, startFailed_dry]
    exact .inr rfl
  obtain ⟨drying, -⟩ := rules.slotsFormed (setComp_slotsFormed .offHold _)
  refine ⟨comp, rules.confirmTimer (.inr (by rw [startFailed_dry])) (by simp [comp]), rules.dryOff (by simp [off]),
    drying.trans (if_neg (by simp [comp]))⟩

/-! ### The defrost-max timer (R85) -/

/-- R73: once the hold is judged, the start's judgement leaves OFF_HOLD exactly to a compressor whose times are done. -/
theorem endDefrost_offHold (s : State) : (endDefrost s).dry.comp = .offHold ↔ s.dry.holdDone s.path.working = false := by
  have times : (defrostLeft s).dry.holdDone (defrostLeft s).path.working = s.dry.holdDone s.path.working := by
    rw [defrostLeft_dry, defrostLeft, (setComp_outside _ _).2.2.2.2.1]
    rfl
  have off : (defrostLeft s).dry.comp = .offHold := by rw [defrostLeft_dry]
  rw [← times]
  refine ⟨fun stays => ?_, fun hold => (judgeHold_followOn (defrostLeft s)).offHold off hold⟩
  rw [Bool.eq_false_iff]
  exact fun done => judgeHold_comp_of_done _ done stays

theorem judgeStart_offHold_iff (s : State) : (judgeStart s).dry.comp = .offHold ↔ s.dry.comp = .offHold := by
  refine ⟨judgeStart_comp_offHold s, fun comp => ?_⟩
  have same : judgeStart s = s := by simp [judgeStart, comp]
  rw [same, comp]

/-- The part with defrost ended by its maximum, before the start is judged. -/
def defrostNoticed (s : State) : State := raise .defrostLong (endDefrost s)

theorem defrostMaxExpiry_eq (s : State) : defrostMaxExpiry s = judgeStart (defrostNoticed s) := rfl

theorem defrostMaxExpiry_spec (s : State) :
    ((defrostMaxExpiry s).dry.comp = .offHold ↔ s.dry.holdDone s.path.working = false)
      ∧ (defrostMaxExpiry s).dry
        = Drying.withRules { s.dry with defrostTimer := none, defendRun := 0 } (defrostMaxExpiry s).dry
      ∧ (defrostMaxExpiry s).air.defrost = none := by
  obtain ⟨dry, -, standby, formed⟩ := endDefrost_spec s
  have noticed : (defrostNoticed s).dry = (endDefrost s).dry := by simp [defrostNoticed]
  have rested : (defrostNoticed s).compressorRested :=
    (raise_ruled .defrostLong (endDefrost s)).rested (judgeHold_rested (defrostLeft s))
  have rules : Ruled (endDefrost s) (judgeStart (defrostNoticed s)) :=
    (raise_ruled .defrostLong _).trans (judgeStart_ruled (defrostNoticed s) rested)
  have figures := rules.dryOff (CompState.ne_running_of_standby standby)
  obtain ⟨-, defrost⟩ := rules.slotsFormed formed
  rw [defrostMaxExpiry_eq]
  refine ⟨?_, ?_, defrost.trans (if_neg (CompState.ne_defrost_of_standby (rules.standby standby)))⟩
  · rw [judgeStart_offHold_iff, noticed, endDefrost_offHold]
  · rw [dry, Drying.withRules_withRules] at figures
    exact figures

/-! ### A write of min off (R73) -/

theorem settingWritten_minOff (v : Byte) (s : State) :
    (settingWritten 0x1C#8 v s).dry = (judgeDrying (judgedWrite 0x1C#8 v s)).dry
      ∧ (settingWritten 0x1C#8 v s).air = (judgeDrying (judgedWrite 0x1C#8 v s)).air := by
  obtain ⟨air, dry, -⟩ := settingWritten_blocks 0x1C#8 v s
  exact ⟨dry, air⟩

/-- R73: OFF_READY and PRE_RUN fall back into the hold exactly while min off is not met. -/
theorem judgeStart_judgeHold_of_ready (s : State) (ready : s.dry.comp = .offReady ∨ s.dry.comp = .preRun) :
    (judgeStart (judgeHold s)).dry.comp = .offHold ↔ s.dry.offTime < s.path.working.minOffSeconds := by
  refine ⟨fun stays => ?_, fun early => ?_⟩
  · by_contra met
    have comp := judgeStart_comp_offHold _ stays
    rw [judgeHold_of_rested s ready (by omega)] at comp
    obtain h | h := ready <;> simp [h] at comp
  · have comp : (judgeHold s).dry.comp = .offHold := by
      obtain h | h := ready <;> simp [judgeHold, h, early]
    have same : judgeStart (judgeHold s) = judgeHold s := by simp [judgeStart, comp]
    rw [same, comp]

/-- Settles O29: each expiry by its own figures and what drying's rules make of them. -/
theorem dryingTimersExpire : Obligations.DryingTimersExpire := by
  refine ⟨fun s timer _ => ?offTime, fun s pre timer => ?confirmation, fun s timer => ?extraHold,
    fun s comp timer => ?defrostMax, fun s timer => ?timedCycle, fun s running => ⟨_, exec_uptimeMinute s running, rfl⟩,
    fun v s ⟨hs, _⟩ standby => ?minOff⟩
  case offTime =>
    have dry := offTimeExpiry_dry s
    have figures : (offTimeExpiry s).dry.offTime = min 600 (s.dry.offTime + 1)
        ∧ (offTimeExpiry s).dry.offTimer = startTimer 1000 ∧ (offTimeExpiry s).dry.starts = s.dry.starts
        ∧ (offTimeExpiry s).dry.demand = s.dry.demand := by
      rw [dry]
      exact ⟨rfl, rfl, rfl, rfl⟩
    obtain ⟨offTime, offTimer, starts, demand⟩ := figures
    refine ⟨_, exec_offTimeExpiry s timer, offTime, offTimer, fun h => ?_, fun h => ?_, starts, demand, by simp [onlyBlocks]⟩
    · rw [offTimeExpiry_of_ne s h]
      exact ⟨rfl, rfl⟩
    · obtain ⟨hold, standby⟩ := offTimeExpiry_offHold s h
      rw [offTime]
      exact ⟨hold, (CompState.standby_iff _).1 standby⟩
  case confirmation =>
    obtain ⟨comp, confirm, dry, drying⟩ := confirmationExpiry_spec s
    rw [startFailed_dry] at dry
    have figures : (confirmationExpiry s).dry.extraHold = startTimer 60000
        ∧ (confirmationExpiry s).dry.offTime = s.dry.offTime ∧ (confirmationExpiry s).dry.starts = s.dry.starts := by
      rw [dry]
      exact ⟨rfl, rfl, rfl⟩
    obtain ⟨extraHold, offTime, starts⟩ := figures
    exact ⟨_, exec_confirmationTimerExpiry s pre timer, comp, confirm, extraHold, drying, offTime,
      hasFlag_reportCondition _ _ _, starts, by simp [onlyBlocks]⟩
  case extraHold =>
    have dry : (extraHoldExpiry s).dry = Drying.withRules { s.dry with extraHold := none } (extraHoldExpiry s).dry :=
      judgeStart_judgeHold_dry _
    refine ⟨_, exec_extraHoldExpiry s timer, by rw [dry]; rfl, fun comp => ?_, by rw [dry]; rfl, by simp [onlyBlocks]⟩
    refine (judgeStart_judgeHold_offHold (s.setDry { s.dry with extraHold := none }) (.inl comp)).trans ?_
    simp [Drying.holdDone_eq_false]
  case defrostMax =>
    obtain ⟨hold, dry, defrost⟩ := defrostMaxExpiry_spec s
    refine ⟨_, exec_defrostMaxExpiry s comp timer, by rw [dry]; rfl, defrost, by simp [defrostMaxExpiry],
      by rw [dry]; rfl, ?_, by simp [onlyBlocks]⟩
    rw [hold, Drying.holdDone_eq_false]
  case timedCycle =>
    have rules := (judgeDrying_ruled (s.setDry s.dry.timedExpiry)).checkFigures
    simp only [Drying.checkFigures, Prod.mk.injEq, State.setDry_dry] at rules
    obtain ⟨demand, timedTimer, -⟩ := rules
    refine ⟨_, exec_timedCycleExpiry s timer, fun on => ?_, fun on => ?_, by simp [onlyBlocks]⟩
    · rw [demand, timedTimer]
      simp [Drying.timedExpiry, on]
    · rw [demand, timedTimer]
      simp [Drying.timedExpiry, on]
  case minOff =>
    obtain ⟨dry, air⟩ := settingWritten_minOff v s
    obtain ⟨-, -, found, -⟩ := judgedWrite_frame 0x1C#8 v s
    have working := settingWritten_working 0x1C#8 v s
    have off : (judgedWrite 0x1C#8 v s).dry.comp ≠ .running := by
      rw [found]
      exact CompState.ne_running_of_standby ((CompState.standby_iff _).2 standby)
    have rules := (judgeDrying_ruled (judgedWrite 0x1C#8 v s)).dryOff off
    have slot := judgeDrying_slot (judgedWrite 0x1C#8 v s)
    have judged := judgeDrying_of_off _ off
    refine ⟨_, exec_settingWrite_written 0x1C#8 v s hs (by decide) (by decide) (by decide), ?_⟩
    rw [dry, air, working]
    refine ⟨?_, fun comp => ?_, fun comp => ?_, fun comp falls => ?_⟩
    · rw [rules, ← found]
      rfl
    · have hold := judgeStart_judgeHold_offHold (judgedWrite 0x1C#8 v s) (.inl (by rw [found]; exact comp))
      rw [judged, hold, Drying.holdDone_eq_false, found]
    · have ready := judgeStart_judgeHold_of_ready (judgedWrite 0x1C#8 v s)
        (by rw [found]; exact standby.resolve_left comp)
      rw [judged, ready, found]
    · refine (slot.2 ?_).trans (if_neg (by simp [falls]))
      rw [falls, found]
      exact Ne.symm comp

end Sys2Proof.Machine
end

section
/-! SUPPORT. The run-second with its run-minute, the deferred stop, and the run-minute of a removal's instant (R80, R81, R104,
R107), with their statement. -/

namespace Sys2Proof.Machine

/-! ### The condensate estimate (R104) -/

namespace TankBlock

variable (t : TankBlock) (w : Settings)

theorem start_estimate : (t.start w).estimate = t.estimate := by
  unfold start
  split
  · rfl
  · rfl

theorem judgeEstimate_estimate : (t.judgeEstimate w).estimate = t.estimate := by
  simp only [judgeEstimate]
  split
  · exact start_estimate _ w
  · rfl

/-- R104: a run-minute, and a removal, move the estimate in their own change alone. -/
theorem after_estimate {e : TankEvent} (h : e = .runMinute ∨ e = .present false) :
    (t.after w e).estimate = (t.own w e).estimate := by
  have moved : (t.moved w e).estimate = (t.own w e).estimate := by
    obtain rfl | rfl := h
    · exact start_estimate _ w
    · exact start_estimate _ w
  rw [← moved]
  simp only [after, judged]
  split
  · exact judgeEstimate_estimate _ w
  · rfl

/-- R96: a block without its tank is ABSENT. -/
theorem after_level_of_removed {e : TankEvent} (h : (t.own w e).present = some false) : (t.after w e).level = .absent := by
  have copy : (t.judged w e).present = some false := (t.after_copies w e).present.trans h
  simp [after, evaluated, copy]

end TankBlock

/-! ### The record-changed mark and the run-minute's reports (R108, R149) -/

theorem tankEvent_changed (e : TankEvent) (s : State) (h : s.store.changed = true) :
    (tankEvent e s).store.changed = true := by
  have marked (b : Bool) (u : State) (hu : u.store.changed = true) : (markIf b u).store.changed = true := by
    unfold markIf
    split
    · rfl
    · exact hu
  have reports (before : TankBlock) (forced : Bool) (u : State) (hu : u.store.changed = true) :
      (tankReports before e forced u).store.changed = true := by
    simp only [tankReports]
    split <;> split <;> simp [marked, hu]
  simp only [tankEvent]
  split
  · exact reports _ _ _ h
  · split
    · exact reports _ _ _ h
    · exact h

/-! ### The deferred stop (R80) -/

theorem deferredReason_iff (s : State) : deferredReason s = true
    ↔ ¬ s.dry.demandOn ∨ s.dry.learnPending = true ∨ s.front.tcond.status ≠ .valid := by
  have demand : s.dry.demand.isOn = false ↔ ¬ s.dry.demandOn := by
    rw [Drying.demandOn, ← Demand.isOn_iff, Bool.not_eq_true]
  simp only [deferredReason, Bool.or_eq_true, Bool.not_eq_true', decide_eq_true_eq, demand, or_assoc]

theorem deferredReason_of_clear (s : State)
    (h : s.dry.demandOn ∧ s.dry.learnPending = false ∧ s.front.tcond.status = .valid) : deferredReason s = false := by
  obtain ⟨demand, learn, valid⟩ := h
  rw [Bool.eq_false_iff, ne_eq, deferredReason_iff]
  rintro (off | pending | invalid)
  · exact off demand
  · simp [learn] at pending
  · exact invalid valid

/-- R80: without its time or a reason a running compressor runs on. -/
theorem judgeDrying_of_undeferred (s : State) (run : s.dry.comp = .running)
    (h : s.dry.runTime < s.path.working.minRunSeconds ∨ deferredReason s = false) : judgeDrying s = s := by
  have deferred : judgeDeferred s = s := by
    unfold judgeDeferred
    rw [if_neg]
    rintro ⟨-, late, reason⟩
    obtain h | h := h
    · omega
    · simp [h] at reason
  simp [judgeDrying, deferred, judgeHold, judgeStart, run]

/-- R74: what defers a stop permits no start. -/
theorem startHolds_of_reason {s t : State} (rules : Ruled s t) (front : t.front = s.front)
    (reason : deferredReason s = true) : startHolds t = false := by
  have demand : t.dry.demand = s.dry.demand := congrArg (·.1) rules.checkFigures
  have learn : t.dry.learnPending = s.dry.learnPending := (congrArg Drying.learnPending rules.apart :)
  rw [Bool.eq_false_iff, ne_eq, startHolds_iff]
  rintro ⟨demandOn, permitted⟩
  obtain ⟨-, -, -, -, noLearn, ⟨valid, -⟩, -⟩ := permitted
  rw [Drying.demandOn, demand] at demandOn
  rw [learn] at noLearn
  rw [front] at valid
  obtain h | h | h := (deferredReason_iff s).1 reason
  · exact h demandOn
  · simp [noLearn] at h
  · exact h valid

theorem judgeStart_comp_of_not (s : State) (h : startHolds s = false) : (judgeStart s).dry.comp ≠ .preRun := by
  unfold judgeStart
  split
  case h_1 comp => simp [h, comp]
  case h_2 => simp [h]
  all_goals simp [*]

/-- R80: the deferred stop, with the hold and the start judged after it. -/
theorem judgeDrying_deferred (s : State) (run : s.dry.comp = .running) (late : s.path.working.minRunSeconds ≤ s.dry.runTime)
    (reason : deferredReason s = true) : s.Stopped (judgeDrying s) := by
  have deferred : judgeDrying s = judgeStart (judgeHold (stopCompressor s)) := by
    rw [judgeDrying, judgeDeferred, if_pos ⟨run, late, reason⟩]
  have stopped := stopCompressor_stopped s
  have standby : (stopCompressor s).dry.comp.standby = true := by
    obtain h | h := stopped.comp <;> simp [h, CompState.standby]
  have rules : Ruled (stopCompressor s) (judgeDrying s) := deferred ▸ judgeStart_judgeHold_ruled _
  have noStart : startHolds (judgeHold (stopCompressor s)) = false :=
    startHolds_of_reason ((stopCompressor_ruled s run).trans (judgeHold_ruled _)) (by simp [stopCompressor]) reason
  have notPre : (judgeDrying s).dry.comp ≠ .preRun := deferred ▸ judgeStart_comp_of_not _ noStart
  have standby' := rules.standby standby
  have off := CompState.ne_running_of_standby standby'
  have comp : (judgeDrying s).dry.comp = .offHold ∨ (judgeDrying s).dry.comp = .offReady := by
    obtain h | h | h := (CompState.standby_iff _).1 standby'
    · exact .inl h
    · exact .inr h
    · exact absurd h notPre
  have fromStop : Ruled (setComp .offHold (s.setDry s.dry.stopRun)) (judgeDrying s) := (judgeHold_ruled _).trans rules
  obtain ⟨drying, -⟩ := fromStop.slotsFormed (setComp_slotsFormed _ _)
  refine ⟨(judgeDrying_ruled s).dry.stop run off, comp, drying.trans (if_neg ?_)⟩
  rintro (h | h)
  · exact notPre h
  · exact off h

theorem State.Stopped.compPin {s t : State} (h : s.Stopped t) : t.compPin = false := by
  obtain h | h := h.comp <;> simp [State.compPin, h]

/-! ### The run-second (R81) -/

theorem exec_runSecondExpiry (s : State) (h : s.dry.runTimer.isSome = true ∨ s.dry.runSecondDue = true) :
    exec .runSecondExpiry s = .next (runSecondExpiry s) := by
  have due : (s.dry.runTimer.isSome || s.dry.runSecondDue) = true := by simpa using h
  simp only [exec, execRunSecondExpiry, due, if_true]

/-- Drying with a run-second counted and carried into the run-minute and the run hours. -/
def Drying.secondCounted (d : Drying) : Drying :=
  if d.runSecond.runSeconds < 60 then d.runSecond else { d.runSecond.runMinute with runSeconds := 0 }

/-- The part with a run-minute complete, before the tank block counts it. -/
def minuteCounted (s : State) : State := markChanged (s.setDry s.dry.secondCounted)

theorem runSecondExpiry_of_lt (s : State) (h : s.dry.runSeconds < 59) :
    runSecondExpiry s = judgeDrying (s.setDry s.dry.secondCounted) ∧ s.dry.secondCounted = s.dry.runSecond := by
  have short : s.dry.runSecond.runSeconds < 60 := Nat.succ_lt_succ h
  have counted : s.dry.secondCounted = s.dry.runSecond := if_pos short
  rw [counted]
  exact ⟨if_pos short, rfl⟩

theorem runSecondExpiry_of_minute (s : State) (h : s.dry.runSeconds = 59) :
    runSecondExpiry s = judgeDrying (tankEvent .runMinute (minuteCounted s))
      ∧ s.dry.secondCounted = { s.dry.runSecond.runMinute with runSeconds := 0 } := by
  have full : ¬ s.dry.runSecond.runSeconds < 60 := by
    simp [Drying.runSecond, h]
  have counted : s.dry.secondCounted = { s.dry.runSecond.runMinute with runSeconds := 0 } := if_neg full
  rw [minuteCounted, counted]
  exact ⟨if_neg full, rfl⟩

/-- R81: what the rules make of a run-second. -/
theorem runSecondExpiry_ruled (s : State) (h : s.dry.runSeconds < 60) :
    Ruled (s.setDry s.dry.secondCounted) (runSecondExpiry s) := by
  obtain lt | eq : s.dry.runSeconds < 59 ∨ s.dry.runSeconds = 59 := by omega
  · rw [(runSecondExpiry_of_lt s lt).1]
    exact judgeDrying_ruled _
  · have marked : Ruled (s.setDry s.dry.secondCounted) (minuteCounted s) := report_ruled rfl rfl rfl
    rw [(runSecondExpiry_of_minute s eq).1]
    exact (marked.trans (tankEvent_ruled _ _)).trans (judgeDrying_ruled _)

/-- The figures of a run that a run-second counts. -/
def Drying.runFigures (d : Drying) : Nat × Nat × Nat × Nat × Nat :=
  (d.runTime, d.runSinceDefrost, d.runSeconds, d.runMinutes, d.runHours)

theorem Drying.secondCounted_eq (d : Drying) : d.secondCounted = { d.runSecond with
    runSeconds := d.secondCounted.runSeconds, runMinutes := d.secondCounted.runMinutes,
    runHours := d.secondCounted.runHours } := by
  unfold Drying.secondCounted Drying.runMinute
  split
  · rfl
  · split
    · rfl
    · rfl

theorem Drying.secondCounted_frame (d : Drying) : d.secondCounted.comp = d.comp
    ∧ d.secondCounted.runTime = min 600 (d.runTime + 1) ∧ d.secondCounted.runSinceDefrost = min 1800 (d.runSinceDefrost + 1)
    ∧ d.secondCounted.runSecondDue = false
    ∧ d.secondCounted.runTimer = if d.runTimer.isSome then startTimer 1000 else none := by
  rw [d.secondCounted_eq]
  exact ⟨rfl, rfl, rfl, rfl, rfl⟩

/-- R81: a run-minute carries into the run hours. -/
theorem Drying.runMinute_carry (d : Drying) (hm : d.runMinutes < 60) :
    d.runMinute.runMinutes < 60
      ∧ (d.runHours < 65535 → d.runMinute.runHours * 60 + d.runMinute.runMinutes = d.runHours * 60 + d.runMinutes + 1) := by
  by_cases within : d.runMinutes + 1 < 60
  · rw [Drying.runMinute, if_pos within]
    exact ⟨within, fun _ => by simp only; omega⟩
  · rw [Drying.runMinute, if_neg within]
    simp only [satAdd]
    exact ⟨by omega, fun _ => by omega⟩

theorem Drying.secondCounted_carry (d : Drying) (h : d.runSeconds = 59) (hm : d.runMinutes < 60) :
    d.secondCounted.runSeconds = 0 ∧ d.secondCounted.runMinutes < 60
      ∧ (d.runHours < 65535 →
        d.secondCounted.runHours * 60 + d.secondCounted.runMinutes = d.runHours * 60 + d.runMinutes + 1) := by
  have full : ¬ d.runSecond.runSeconds < 60 := by simp [Drying.runSecond, h]
  rw [Drying.secondCounted, if_neg full]
  exact ⟨rfl, d.runSecond.runMinute_carry hm⟩

theorem runSecondExpiry_runFigures (s : State) (h : s.dry.runSeconds < 60) :
    (runSecondExpiry s).dry.runFigures = s.dry.secondCounted.runFigures :=
  (congrArg Drying.runFigures (runSecondExpiry_ruled s h).apart :)

/-- R81, R107: what remains due, and the timer, after a run-second. -/
theorem runSecondExpiry_timer (s : State) (h : s.dry.runSeconds < 60) :
    (runSecondExpiry s).dry.runSecondDue
        = (decide (s.dry.comp = .running ∧ (runSecondExpiry s).dry.comp ≠ .running) && s.dry.runTimer.isSome)
      ∧ (s.dry.runTimer = none → (runSecondExpiry s).dry.runTimer = none) := by
  obtain ⟨comp, -, -, due, timer⟩ := s.dry.secondCounted_frame
  have rules := (runSecondExpiry_ruled s h).dry
  rw [State.setDry_dry] at rules
  by_cases stops : s.dry.comp = .running ∧ (runSecondExpiry s).dry.comp ≠ .running
  · have dry := rules.stop (comp.trans stops.1) stops.2
    rw [decide_eq_true stops, dry]
    refine ⟨?_, fun _ => rfl⟩
    have ran : s.dry.secondCounted.runTimer.isSome = s.dry.runTimer.isSome := by
      rw [timer]
      cases s.dry.runTimer <;> rfl
    exact ran.trans (Bool.true_and _).symm
  · have dry := rules.stay (by rw [comp]; exact fun run => by_contra fun off => stops ⟨run, off⟩)
    rw [decide_eq_false stops, dry]
    exact ⟨due, fun stopped => timer.trans (by simp [stopped])⟩

theorem runSecondExpiry_minute (s : State) (h : s.dry.runSeconds = 59) :
    (runSecondExpiry s).tank = s.tank.after s.path.working .runMinute
      ∧ (runSecondExpiry s).tank.estimate = min 65535 (s.tank.estimate + s.path.working.condensateRate)
      ∧ (runSecondExpiry s).store.changed = true := by
  have tank : (runSecondExpiry s).tank = s.tank.after s.path.working .runMinute := by
    rw [(runSecondExpiry_of_minute s h).1, (judgeDrying_keeps _).2.1, tankEvent_tank]
    rfl
  refine ⟨tank, ?_, ?_⟩
  · rw [tank, TankBlock.after_estimate _ _ (.inl rfl)]
    rfl
  · rw [(runSecondExpiry_of_minute s h).1, (judgeDrying_keeps _).2.2.2]
    exact tankEvent_changed _ _ rfl

/-! ### The removal of the tank (R78, R107) -/

theorem dryingTankReport_absent_comp (s : State) : (dryingTankReport .absent s).dry.comp ≠ .running :=
  (judgeDrying_ruled _).compOff (immediateStop_comp _)

/-- R97: a tank state that becomes ABSENT is reported to drying. -/
theorem tankReports_absent_comp {before : TankBlock} (e : TankEvent) (forced : Bool) (s : State)
    (absent : s.tank.level = .absent) (changes : before.level ≠ .absent) :
    (tankReports before e forced s).dry.comp ≠ .running := by
  have told : (forced || decide (TankLevel.absent ≠ before.level)) = true := by simp [changes.symm]
  simp only [tankReports, absent]
  rw [if_pos told]
  exact dryingTankReport_absent_comp _

/-- R97, R102: a removal makes a present tank ABSENT, and drying is told. -/
theorem removal_stops (s : State) (present : s.tank.present = some true) (level : s.tank.level ≠ .absent) :
    (tankEvent (.present false) s).dry.comp ≠ .running := by
  have absent := s.tank.after_level_of_removed s.path.working (e := .present false) rfl
  have settled : s.tank.present.isSome = true := by simp [present]
  simp only [tankEvent, settled, if_true]
  exact tankReports_absent_comp _ _ _ absent level

/-- What a removal leaves of a running compressor's run. -/
theorem removal_stopRun (s : State) (run : s.dry.comp = .running) (present : s.tank.present = some true)
    (level : s.tank.level ≠ .absent) :
    (tankEvent (.present false) s).dry = s.dry.stopRun.withRules (tankEvent (.present false) s).dry :=
  (tankEvent_ruled _ s).dry.stop run (removal_stops s present level)

/-- Settles O30: the run-second by its count and what the rules make of it, the deferred stop by its time and its reason, the
removal's run-minute as the run-second of a compressor it has stopped. -/
theorem runSecondCounts : Obligations.RunSecondCounts := by
  refine ⟨fun s due seconds minutes => ?second, fun s run timer seconds => ?deferred, fun v s ⟨hs, _⟩ run => ?minRun,
    fun s run timer seconds present level => ?removal⟩
  case second =>
    obtain ⟨-, runTime, since, -, -⟩ := s.dry.secondCounted_frame
    obtain ⟨stillDue, stopped⟩ := runSecondExpiry_timer s seconds
    have figures := runSecondExpiry_runFigures s seconds
    simp only [Drying.runFigures, Prod.mk.injEq] at figures
    obtain ⟨runTime', since', seconds', minutes', hours'⟩ := figures
    refine ⟨_, exec_runSecondExpiry s due, runTime'.trans runTime, since'.trans since, fun short => ?_, fun full => ?_,
      stillDue, stopped, by simp, by simp [onlyBlocks]⟩
    · obtain ⟨judged, counted⟩ := runSecondExpiry_of_lt s short
      rw [seconds', minutes', hours', counted]
      refine ⟨rfl, rfl, rfl, ?_, ?_⟩
      · simp [judged]
      · simp [judged]
    · obtain ⟨-, estimate, changed⟩ := runSecondExpiry_minute s full
      obtain ⟨zero, below, carry⟩ := s.dry.secondCounted_carry full minutes
      rw [seconds', minutes', hours']
      exact ⟨zero, below, carry, estimate, changed⟩
  case deferred =>
    obtain ⟨judged, counted⟩ := runSecondExpiry_of_lt s seconds
    have runTime : (runSecondExpiry s).dry.runTime = s.dry.secondCounted.runTime :=
      congrArg (·.1) (runSecondExpiry_runFigures s (by omega))
    have run' : (s.setDry s.dry.secondCounted).dry.comp = .running := s.dry.secondCounted_frame.1.trans run
    have reason : deferredReason (s.setDry s.dry.secondCounted) = deferredReason s := by
      rw [counted]
      rfl
    refine ⟨_, exec_runSecondExpiry s (.inl timer), fun late why => ?_, fun stays => ?_⟩
    · have stopped := judgeDrying_deferred (s.setDry s.dry.secondCounted) run' (runTime ▸ late)
        (reason.trans ((deferredReason_iff s).2 why))
      rw [← judged] at stopped
      refine ⟨stopped.compPin, ?_, ?_, stopped.drying, ?_, ?_⟩
      all_goals
        rw [stopped.dry]
        rfl
    · have same := judgeDrying_of_undeferred (s.setDry s.dry.secondCounted) run'
        (stays.imp (runTime ▸ ·) fun clear => reason.trans (deferredReason_of_clear s clear))
      rw [judged, same]
      refine ⟨run', ?_⟩
      rw [State.setDry_dry, counted]
      simp [Drying.runSecond, timer]
  case minRun =>
    obtain ⟨air, dry, -⟩ := settingWritten_blocks 0x1D#8 v s
    obtain ⟨front, -, found, -⟩ := judgedWrite_frame 0x1D#8 v s
    have delivered (old : Settings) (u : State) : deliverSetting old (0x1D#8 : Byte).toNat u = judgeDrying u := rfl
    rw [delivered] at air dry
    have reason : deferredReason (judgedWrite 0x1D#8 v s) = deferredReason s := by
      rw [deferredReason, deferredReason, found, front]
    have run' : (judgedWrite 0x1D#8 v s).dry.comp = .running := by rw [found, run]
    refine ⟨_, exec_settingWrite_written 0x1D#8 v s hs (by decide) (by decide) (by decide), ?_⟩
    rw [settingWritten_working, State.compPin, dry, air]
    refine ⟨fun late why => ?_, fun stays => ?_⟩
    · have stopped := judgeDrying_deferred _ run' (by rw [found]; exact late) (reason.trans ((deferredReason_iff s).2 why))
      refine ⟨stopped.compPin, ?_, stopped.drying⟩
      rw [stopped.dry]
      rfl
    · rw [judgeDrying_of_undeferred _ run' (stays.imp (by rw [found]; exact id) fun clear =>
        reason.trans (deferredReason_of_clear s clear)), found]
  case removal =>
    have dry := removal_stopRun s run present level
    have off := removal_stops s present level
    have tank := tankEvent_tank (.present false) s
    have path : (tankEvent (.present false) s).path = s.path := by simp
    generalize tankEvent (.present false) s = u at dry off tank path
    have figures : u.dry.runSecondDue = true ∧ u.dry.runSeconds = 59 ∧ u.dry.runMinutes = s.dry.runMinutes
        ∧ u.dry.runHours = s.dry.runHours := by
      rw [dry]
      exact ⟨timer, seconds, rfl, rfl⟩
    obtain ⟨due, full, minutes, hours⟩ := figures
    have figures' := runSecondExpiry_runFigures u (by omega)
    simp only [Drying.runFigures, Prod.mk.injEq] at figures'
    obtain ⟨-, -, seconds', minutes', hours'⟩ := figures'
    obtain ⟨after, estimate, -⟩ := runSecondExpiry_minute u full
    have copy : u.tank.present = some false := by
      rw [tank]
      exact (s.tank.after_copies s.path.working (.present false)).present
    have before : u.tank.estimate = s.tank.estimate := by
      rw [tank]
      exact s.tank.after_estimate s.path.working (.inr rfl)
    have rules := runSecondExpiry_ruled u (by omega)
    have counted := u.dry.secondCounted_frame.1
    refine ⟨decide_eq_false off, _, exec_runSecondExpiry u (.inr due), ?_, ?_, ?_, ?_, fun below within => ?_⟩
    · rw [estimate, before, path]
    · rw [after]
      exact u.tank.after_level_of_removed u.path.working copy
    · exact decide_eq_false (rules.compOff (by rw [State.setDry_dry, counted]; exact off))
    · rw [seconds', (runSecondExpiry_of_minute u full).2]
    · obtain ⟨-, -, carry⟩ := u.dry.secondCounted_carry full (by rw [minutes]; exact within)
      rw [minutes', hours', carry (by rw [hours]; exact below), hours, minutes]

end Sys2Proof.Machine
end

section
/-! SUPPORT. The pump output and the tank (R99, R102): steps 2 to 5 of a tank event turn the output on only while the tank
is present, and no command but a tank event, a load or a reset moves the tank block. -/

namespace Sys2Proof.Machine

/-! ### The pump output at the tank block (R99 to R103) -/

namespace TankBlock

/-- R99, R100: the pump output is on. -/
def pumpOn (t : TankBlock) : Bool := decide (t.pump = .running) || decide (t.pump = .afterRun)

/-- R99, R102: the pump output is on only while the tank is present. -/
def pumpHeld (t : TankBlock) : Prop := t.pumpOn = true → t.present = some true

variable {t u : TankBlock} (w : Settings)

theorem pumpHeld_of_off (h : t.pumpOn = false) : t.pumpHeld := fun on => absurd on (by simp [h])

/-- A move that leaves the copies as they are and turns no output on. -/
theorem pumpHeld.move (h : t.pumpHeld) (copies : t.SameCopies u) (on : u.pumpOn = true → t.pumpOn = true) :
    u.pumpHeld := fun running => copies.present.trans (h (on running))

/-- R99: the start condition asks for the tank. -/
theorem pumpHeld.start (h : t.pumpHeld) : (t.start w).pumpHeld := by
  unfold TankBlock.start
  split
  case isTrue asked => exact fun _ => asked.2.2.1
  case isFalse => exact h

theorem pumpHeld.floatMove (h : t.pumpHeld) : (t.floatMove w).pumpHeld := by
  refine h.move (t.floatMove_copies w) ?_
  cases pump : t.pump <;> simp [TankBlock.floatMove, pumpOn, pump]

theorem endOnTime_pumpOn (t : TankBlock) : t.endOnTime.pumpOn = false := by
  cases pump : t.pump <;> simp [endOnTime, pumpOn, pump, pumpOff, complete, clearEstimate]

theorem pumpHeld.endAfterRun (h : t.pumpHeld) : t.endAfterRun.pumpHeld := by
  unfold TankBlock.endAfterRun
  split
  · exact pumpHeld_of_off rfl
  · exact h

theorem pumpHeld.settingMove (h : t.pumpHeld) (off : Nat) : (t.settingMove w off).pumpHeld := by
  unfold TankBlock.settingMove
  split
  · split
    · exact h
    · exact pumpHeld_of_off rfl
  · split
    · split
      · exact pumpHeld_of_off t.endOnTime_pumpOn
      · exact h
    · split
      · split
        · exact h.endAfterRun
        · exact h
      · exact h

theorem pumpHeld.movePump (h : t.pumpHeld) (e : TankEvent) : (t.movePump w e).pumpHeld := by
  refine pumpHeld.start w ?_
  cases e with
  | highFloat | fullFloat => exact h.floatMove w
  | onTimeEnd => exact pumpHeld_of_off t.endOnTime_pumpOn
  | afterRunEnd => exact h.endAfterRun
  | setting off => exact h.settingMove w off
  | present | settle | runMinute => exact h

theorem pumpHeld.judgeEstimate (h : t.pumpHeld) : (t.judgeEstimate w).pumpHeld := by
  simp only [TankBlock.judgeEstimate]
  split
  · exact pumpHeld.start w h
  · exact h

/-- R99 to R103: steps 3 to 5 of an event turn the output on only while the tank is present. -/
theorem after_pumpHeld {e : TankEvent} (h : ((t.own w e).removal t.present e).pumpHeld) : (t.after w e).pumpHeld := by
  have moved : (t.moved w e).pumpHeld := h.movePump w e
  have judged : (t.judged w e).pumpHeld := by
    unfold TankBlock.judged
    split
    · exact moved.judgeEstimate w
    · exact moved
  exact judged

/-- R102: steps 1 and 2 of a change of the tank switch. -/
theorem present_pumpHeld (t : TankBlock) (b : Bool) :
    ((t.own w (.present b)).removal t.present (.present b)).pumpHeld := by
  cases b with
  | false => exact pumpHeld_of_off rfl
  | true => exact fun _ => ((t.own w (.present true)).removal_copies t.present (.present true)).present

end TankBlock

/-! ### The invariant (R18, R99) -/

namespace State.pumpSafe

variable {s t : State}

theorem held (h : s.pumpSafe) : s.tank.pumpHeld := h.2

/-- R18: a switch whose timer runs is settled, and so are all. -/
theorem settled_of_timer (h : s.pumpSafe) {sw : Switch} (timer : (s.front.switch sw).timer.isSome = true) :
    s.front.settling.isSome = false := by
  by_contra unsettled
  obtain ⟨switches, -⟩ := h.1 (Bool.eq_true_of_not_eq_false unsettled)
  simp [switches sw] at timer

theorem of_settled (settled : s.front.settling.isSome = false) (held : s.tank.pumpHeld) : s.pumpSafe :=
  ⟨fun unsettled => absurd unsettled (by simp [settled]), held⟩

theorem congr (h : s.pumpSafe) (settling : t.front.settling.isSome = s.front.settling.isSome)
    (switches : s.front.settling.isSome = true → ∀ sw, t.front.switch sw = s.front.switch sw) (tank : t.tank = s.tank) :
    t.pumpSafe := by
  obtain ⟨unsettled, held⟩ := h
  refine ⟨fun waiting => ?_, ?_⟩
  · rw [settling] at waiting
    obtain ⟨reset, copy⟩ := unsettled waiting
    exact ⟨fun sw => (switches waiting sw).trans (reset sw), tank ▸ copy⟩
  · rw [State.pumpPin, tank]
    exact held

theorem of_blocks (h : s.pumpSafe) (same : t.front = s.front ∧ t.tank = s.tank) : t.pumpSafe :=
  h.congr (by rw [same.1]) (fun _ sw => by rw [same.1]) same.2

theorem ite {c : Prop} [Decidable c] (h : s.pumpSafe) (k : t.pumpSafe) : State.pumpSafe (if c then s else t) := by
  split
  · exact h
  · exact k

/-- R95: a tank event on a part whose steps 1 and 2 keep the pump held; the copy of the tank switch waits for R18. -/
theorem tankEvent (h : s.pumpSafe) {e : TankEvent}
    (held : ((s.tank.own s.path.working e).removal s.tank.present e).pumpHeld)
    (copy : s.front.settling.isSome = true → (s.tank.own s.path.working e).present = s.tank.present) :
    (tankEvent e s).pumpSafe := by
  have front : (Machine.tankEvent e s).front = s.front := by simp
  refine ⟨fun unsettled => ?_, ?_⟩
  · rw [front] at unsettled ⊢
    obtain ⟨switches, waiting⟩ := h.1 unsettled
    exact ⟨switches, (tankEvent_copies e s).present.trans ((copy unsettled).trans waiting)⟩
  · rw [State.pumpPin, tankEvent_tank]
    exact TankBlock.after_pumpHeld s.path.working held

/-! ### The measurement front end -/

theorem restartDebounce (h : s.pumpSafe) (sw : Switch) : (restartDebounce sw s).pumpSafe := by
  have settling : (Machine.restartDebounce sw s).front.settling = s.front.settling := by
    rw [restartDebounce_eq]
    cases sw <;> rfl
  refine h.congr (by rw [settling]) (fun unsettled sw' => ?_) (by simp [restartDebounce_eq])
  rw [restartDebounce_switch]
  split
  case isTrue same => rw [same, (h.1 unsettled).1 sw]; rfl
  case isFalse => rfl

theorem switchRawChange (h : s.pumpSafe) (sw : Switch) (high : Bool) : (switchRawChange sw high s).pumpSafe := by
  have level : (s.setPins (s.pins.setLevel sw high)).pumpSafe := h
  exact .ite (level.restartDebounce sw) level

theorem doorReport (h : s.pumpSafe) (isOpen : Bool) : (doorReport isOpen s).pumpSafe := h.of_blocks (by simp)

theorem debounceExpiry (h : s.pumpSafe) {sw : Switch} (timer : (s.front.switch sw).timer.isSome = true) :
    (debounceExpiry sw s).pumpSafe := by
  have settled : (takeRawState sw s).front.settling.isSome = false := by
    have waiting := h.settled_of_timer timer
    cases sw <;> exact waiting
  have taken : (takeRawState sw s).pumpSafe := .of_settled settled h.held
  have reported (b : Bool) : (switchReport sw b (takeRawState sw s)).pumpSafe := by
    cases sw with
    | highFloat | fullFloat => exact taken.tankEvent taken.held fun _ => rfl
    | tankPresent => exact taken.tankEvent (TankBlock.present_pumpHeld _ _ b) fun waiting => by simp [settled] at waiting
    | door => exact taken.doorReport b
  by_cases same : (s.front.switch sw).debounced = some (rawState s.pins s.path.working sw)
  · rw [debounceExpiry_of_same sw s same]
    exact taken
  · rw [debounceExpiry_of_changed sw s same]
    exact reported _

/-- R18: before the settling expiry the tank block has no copy of its tank switch, so its pump is off. -/
theorem settlingExpiry (h : s.pumpSafe) (waiting : s.front.settling.isSome = true) : (settlingExpiry s).pumpSafe := by
  have off : s.tank.pumpOn = false := by
    by_contra on
    have present := h.held (by simpa using on)
    simp [(h.1 waiting).2] at present
  have settled : (s.setFront (s.front.settled s.pins s.path.working)).pumpSafe := .of_settled rfl h.held
  rw [settlingExpiry_eq]
  exact (settled.tankEvent (e := settleEvent s.pins s.path.working) (TankBlock.pumpHeld_of_off off)
    fun unsettled => by cases unsettled).doorReport _

theorem converterArrival (h : s.pumpSafe) (ch : Channel) (code : BitVec 10) : (converterArrival ch code s).pumpSafe := by
  obtain ⟨-, -, switches, settling, -⟩ :=
    s.front.setChannel_others ch ((s.front.channel ch).arrival s.path.working ch code)
  obtain ⟨-, tank, -⟩ := converterArrival_frame ch code s
  refine h.congr ?_ (fun _ sw => ?_) tank
  · rw [converterArrival_front]
    exact congrArg Option.isSome settling
  · rw [converterArrival_front]
    exact (by cases sw <;> rfl : _ = _).trans (switches sw)

theorem particleWindowEnd (h : s.pumpSafe) : (particleWindowEnd s).pumpSafe := by
  obtain ⟨-, tank, -⟩ := particleWindowEnd_frame s
  refine h.congr (by simp) (fun _ sw => ?_) tank
  rw [particleWindowEnd_front]
  cases sw <;> rfl

theorem judgeSupply (h : s.pumpSafe) : (judgeSupply s).pumpSafe := by
  refine h.congr (by simp) (fun _ sw => ?_) (by simp)
  rw [judgeSupply_front]
  cases sw <;> rfl

/-- Another part of the front end than its switches. -/
theorem setTach (h : s.pumpSafe) (x : TachState) : (s.setFront { s.front with tach := x }).pumpSafe :=
  h.congr rfl (fun _ sw => by cases sw <;> rfl) rfl

theorem setParticle (h : s.pumpSafe) (x : ParticleState) : (s.setFront { s.front with particle := x }).pumpSafe :=
  h.congr rfl (fun _ sw => by cases sw <;> rfl) rfl

/-! ### Drying and the commands of Table 30 -/

theorem runSecondExpiry (h : s.pumpSafe) : (runSecondExpiry s).pumpSafe := by
  have judged {u : State} (hu : u.pumpSafe) : (judgeDrying u).pumpSafe := hu.of_blocks (by simp)
  have counted (d : Drying) : (markChanged (s.setDry d)).pumpSafe := h
  exact .ite (judged h) (judged ((counted _).tankEvent h.held fun _ => rfl))

theorem judgeCommand (h : s.pumpSafe) (code : Byte) : (judgeCommand code s).pumpSafe := by
  have left : (leaveStandalone s).front = s.front ∧ (leaveStandalone s).tank = s.tank := by
    obtain ⟨⟨-, -, -, front, -⟩, -, tank, -⟩ := standaloneLeft_frame s
    obtain ⟨⟨-, -, -, front', -⟩, -, -, -, tank', -⟩ := resumeDone_keeps (standaloneLeft s)
    rw [leaveStandalone_eq]
    exact ⟨front'.trans front, tank'.trans tank⟩
  refine h.of_blocks ?_
  simp only [Machine.judgeCommand, filterReset, learnBaseline, abortLearn, defrostNow, clearLockout, resume, saveNow,
    restartArm, unknownCommand, refuse]
  repeat' split
  all_goals simp [left, accept]

theorem supervisionCount (h : s.pumpSafe) : (supervisionCount s).pumpSafe := by
  refine h.of_blocks ?_
  simp only [Machine.supervisionCount, enterStandalone]
  repeat' split
  all_goals simp

/-! ### Resets, loads and the stored-image unit -/

theorem wholeReset (cause : ResetCause) (written : Nat) (s : State) : (wholeReset cause written s).pumpSafe :=
  .of_settled rfl (TankBlock.pumpHeld_of_off rfl)

theorem beginRestart (s : State) : (beginRestart s).pumpSafe := .of_settled rfl (TankBlock.pumpHeld_of_off rfl)

/-- R18, R94: a load leaves every switch unsettled, the copy of the tank switch unknown and the pump off. -/
theorem loadComplete (pfwLow : Bool) (s : State) : (loadComplete pfwLow s).pumpSafe := by
  have taken (l : LoadReads) (u : State) : (takeLoad l u).pumpSafe :=
    ⟨fun _ => ⟨fun sw => by cases sw <;> rfl, rfl⟩, TankBlock.pumpHeld_of_off rfl⟩
  have judged (l : LoadReads) (u : State) : (judgeLoadedFilter (takeLoad l u)).pumpSafe :=
    (taken l u).of_blocks (by simp)
  exact .ite (judged _ _) (judged _ _)

theorem drainJobComplete (h : s.pumpSafe) : (drainJobComplete s).pumpSafe := by
  unfold Machine.drainJobComplete
  split
  case h_1 => exact .ite (h.of_blocks ⟨rfl, rfl⟩) (h.of_blocks ⟨rfl, rfl⟩)
  all_goals exact h

theorem holdackRise (h : s.pumpSafe) : (holdackRise s).pumpSafe := by
  unfold Machine.holdackRise
  split
  all_goals exact h

theorem holdackFall (h : s.pumpSafe) (written : Nat) : (holdackFall written s).pumpSafe := by
  unfold Machine.holdackFall
  repeat' split
  all_goals exact h

theorem burstComplete (h : s.pumpSafe) : (burstComplete s).pumpSafe := by
  unfold Machine.burstComplete
  split
  case h_1 => exact .ite h h
  all_goals exact h

/-! ### The memory path -/

theorem delivered (h : s.pumpSafe) {old : Settings} (ht : Delivered old s t) : t.pumpSafe := by
  cases ht with
  | tank off => exact .ite h (h.tankEvent h.held fun _ => rfl)
  | polarity =>
    have entry {u : State} (hu : u.pumpSafe) (sw : Switch) : (polarityEntry old u sw).pumpSafe :=
      .ite hu (hu.restartDebounce sw)
    exact entry (entry (entry (entry h .highFloat) .fullFloat) .tankPresent) .door
  | threshold => exact .ite h h.judgeSupply
  | mode =>
    refine h.of_blocks ?_
    simp only [reconsiderAllowed]
    split <;> simp [changeSlots]
  | readWhereUsed | speeds | setpoint | band | drying | dryDuty | defrostDuty | standaloneDuty | filter | lamps
  | lampLevel | policy => exact h.of_blocks (by simp [changeSlots, levelWritten])

theorem recordClamp (h : s.pumpSafe) (clamped : Option Nat) : (recordClamp clamped s).pumpSafe := by
  cases clamped <;> exact h

theorem settingEnded (h : s.pumpSafe) : (settingEnded s).pumpSafe := by
  rw [settingEnded_eq]
  exact h

theorem takeSettingWrite (h : s.pumpSafe) (off : Nat) (v : Byte) : (takeSettingWrite off v s).pumpSafe := by
  have taken : (s.setPath (s.path.takeSetting off v)).pumpSafe := h
  exact ((taken.recordClamp _).delivered (deliverSetting_delivered s.path.working off _)).settingEnded

theorem takeHexhHigh (h : s.pumpSafe) (v : Byte) : (takeHexhHigh v s).pumpSafe := by
  have paired (p : MemoryPath) : (s.setPath p).pumpSafe := h
  have evaluated {u : State} (hu : u.pumpSafe) : (evaluateFilter u).pumpSafe := hu.of_blocks (by simp)
  exact (evaluated ((paired _).recordClamp _)).settingEnded

theorem commandByte (h : s.pumpSafe) (code : Byte) : (commandByte code s).pumpSafe := by
  have noted (p : MemoryPath) : ((noteCommand code s).setPath p).pumpSafe := h
  exact .ite (beginRestart _) ((noted _).judgeCommand code)

theorem controllerWrite (h : s.pumpSafe) (m : BitVec 15) (v : Byte) : (controllerWrite m v s).pumpSafe := by
  have written (b : Byte) (waits : Nat) : (busWrite m b waits s).pumpSafe := h
  simp only [Machine.controllerWrite]
  split
  case h_3 => exact .ite h h
  case h_4 =>
    have low {u : State} (hu : u.pumpSafe) : (takeHexhLow v u).pumpSafe := settingEnded (s := u.setPath _) hu
    exact .ite (low (written _ _)) (.ite ((written _ _).takeHexhHigh v) ((written _ _).takeSettingWrite _ v))
  case h_5 => exact (written _ _).commandByte v
  all_goals exact h

theorem windowWrite (h : s.pumpSafe) (off v : Byte) : (windowWrite off v s).pumpSafe := .ite (h.controllerWrite _ _) h

theorem controllerRead (h : s.pumpSafe) (m : BitVec 15) : (controllerRead m s).pumpSafe := by
  have loaded (off : Byte) : (loadHolder off s).pumpSafe := by
    unfold loadHolder
    split
    · exact .ite h h
    · exact h
  exact .ite (.ite (loaded _) (loaded _)) h

theorem windowRead (h : s.pumpSafe) (off : Byte) : (windowRead off s).pumpSafe := .ite (h.controllerRead _) h

/-! ### Every command and the idle step -/

theorem tick (h : s.pumpSafe) : (tick s).pumpSafe := by
  refine ⟨fun unsettled => ?_, h.2⟩
  have waiting : s.front.settling.isSome = true := by
    simpa [Machine.tick, FrontEnd.tick, tickTimer] using unsettled
  obtain ⟨switches, copy⟩ := h.1 waiting
  refine ⟨fun sw => ?_, copy⟩
  have ticked : (Machine.tick s).front.switch sw = (s.front.switch sw).tick := by cases sw <;> rfl
  rw [ticked, switches sw]
  rfl

/-- R99, R102: every command keeps the pump safe. -/
theorem exec (h : s.pumpSafe) (c : Instr) : ∃ t, exec c s = .next t ∧ t.pumpSafe := by
  have pins (p : Pins) : (s.setPins p).pumpSafe := h
  cases c with
  | powerOn n | nresetAssert n => exact ⟨_, rfl, wholeReset _ _ _⟩
  | loadComplete pfwLow => exact ⟨_, rfl, .ite (loadComplete _ _) h⟩
  | converterArrival ch code => exact ⟨_, rfl, .ite (h.converterArrival _ _) h⟩
  | particleSample high => exact ⟨_, rfl, .ite (h.setParticle _) h⟩
  | particleWindowEnd => exact ⟨_, rfl, .ite h.particleWindowEnd h⟩
  | tachEdge e k => exact ⟨_, rfl, .ite (.ite (h.setTach _) h) h⟩
  | stoppedReport => exact ⟨_, rfl, .ite (h.setTach _) h⟩
  | switchRawChange sw high => exact ⟨_, rfl, h.switchRawChange _ _⟩
  | debounceExpiry sw =>
    refine ⟨_, rfl, ?_⟩
    split
    case isTrue timer => exact h.debounceExpiry timer
    case isFalse => exact h
  | switchSettlingExpiry =>
    refine ⟨_, rfl, ?_⟩
    split
    case isTrue waiting => exact h.settlingExpiry waiting
    case isFalse => exact h
  | stallCheck => exact ⟨_, rfl, .ite (h.of_blocks (by simp)) h⟩
  | airflowPeriod => exact ⟨_, rfl, .ite (h.of_blocks (by simp)) h⟩
  | learnHoldExpiry => exact ⟨_, rfl, .ite (h.of_blocks (by simp)) h⟩
  | learnReading => exact ⟨_, rfl, .ite (h.of_blocks (by simp)) h⟩
  | dosePeriod => exact ⟨_, rfl, .ite (h.of_blocks (by simp)) h⟩
  | dryingCheck => exact ⟨_, rfl, .ite (h.of_blocks (by simp)) h⟩
  | offTimeExpiry => exact ⟨_, rfl, .ite (h.of_blocks (by simp)) h⟩
  | confirmationTimerExpiry => exact ⟨_, rfl, .ite (h.of_blocks (by simp)) h⟩
  | extraHoldExpiry => exact ⟨_, rfl, .ite (h.of_blocks (by simp)) h⟩
  | defrostMaxExpiry => exact ⟨_, rfl, .ite (h.of_blocks (by simp)) h⟩
  | timedCycleExpiry => exact ⟨_, rfl, .ite (h.of_blocks (by simp)) h⟩
  | runSecondExpiry => exact ⟨_, rfl, .ite h.runSecondExpiry h⟩
  | onTimeEnd | afterRunExpiry => exact ⟨_, rfl, .ite (h.tankEvent h.held fun _ => rfl) h⟩
  | lampPhaseTimer lamp =>
    cases lamp with
    | filter | tank => exact ⟨_, rfl, .ite h h⟩
  | settingWrite | hexhLowWrite | hexhHighWrite | latchedWrite | strayWrite | filterReset | learnBaseline | abortLearn
  | defrostNow | clearLockout | resume | saveNow | restartArm | restart | unknownCommand =>
    exact ⟨_, rfl, h.windowWrite _ _⟩
  | anchorWrite v => exact ⟨_, rfl, .ite (h.controllerWrite anchor v) h⟩
  | summaryRead | snapshotLoadRead => exact ⟨_, rfl, h.windowRead _⟩
  | drainJobComplete => exact ⟨_, rfl, .ite h.drainJobComplete h⟩
  | holdackRise => exact ⟨_, rfl, .ite (pins _).holdackRise (pins _)⟩
  | holdackFall n => exact ⟨_, rfl, .ite ((pins _).holdackFall n) (pins _)⟩
  | ackTimerExpiry => exact ⟨_, rfl, .ite (.ite h h) h⟩
  | burstComplete => exact ⟨_, rfl, .ite h.burstComplete h⟩
  | saveTimerExpiry => exact ⟨_, rfl, .ite (.ite (.ite h h) h) h⟩
  | supervisionCount => exact ⟨_, rfl, .ite h.supervisionCount h⟩
  | retryTimerExpiry => exact ⟨_, rfl, .ite (.ite h h) h⟩
  | nresetRelease | loadDelayExpiry | npfwAssert | rampStep | settledTimerExpiry | armingTimerExpiry | stallWaitExpiry
  | uptimeMinute | pulseTimerExpiry | quietTimerExpiry | supervisionPulseEnd => exact ⟨_, rfl, .ite h h⟩

end State.pumpSafe

/-- Settles O36: by the cases of the command, most of which leave the switches and the tank block as they are, and by the
start condition in the others. -/
theorem pumpRunsOnlyWithTank : Obligations.PumpRunsOnlyWithTank := by
  intro s t hs ht
  unfold step at ht
  split at ht
  case h_1 =>
    obtain rfl := Host.Outcome.next.inj ht
    exact hs.tick
  case h_2 c rest _ =>
    have waiting : (s.setPending rest).pumpSafe := hs
    obtain ⟨u, hu, safe⟩ := waiting.exec c
    obtain rfl := Host.Outcome.next.inj (hu.symm.trans ht)
    exact safe

end Sys2Proof.Machine
end

section
/-! SUPPORT. The tank state and the two thresholds of the estimate (R96, R105), and what a tank event reports to the notice
unit and to drying (R97, R98), with their statement. -/

namespace Sys2Proof.Machine

/-! ### Steps 3 to 5 of a tank event (R96, R99, R105) -/

namespace TankBlock

variable (t : TankBlock) (w : Settings)

theorem raised_eq_true (c : Option Bool) : raised c = true ↔ c = some true := by simp [raised]

/-- R99: a float copy is raised or the estimated-full mark is set. -/
def asksPump (t : TankBlock) : Bool := raised t.highFloat || raised t.fullFloat || t.estFull

/-- R99: the pump with its output just turned on. -/
def pumpStarted (t : TankBlock) : TankBlock := { t with pump := .running, onTime := some 0 }

theorem start_of_ready (idle : t.pump = .idle) (fitted : w.pumpFitted = true) (present : t.present = some true)
    (asked : t.asksPump = true) : t.start w = t.pumpStarted :=
  if_pos ⟨idle, fitted, present, asked⟩

theorem start_of_busy (h : t.pump ≠ .idle) : t.start w = t := if_neg fun ready => h ready.1

theorem start_of_barred (h : w.pumpFitted = false ∨ t.present ≠ some true) : t.start w = t := by
  refine if_neg fun ⟨_, fitted, present, _⟩ => ?_
  obtain barred | removed := h
  · simp [barred] at fitted
  · exact removed present

theorem start_of_unasked (h : t.asksPump = false) : t.start w = t :=
  if_neg fun ready => Bool.eq_false_iff.1 h ready.2.2.2

/-- The start condition moves neither the cycles nor the estimate and its marks. -/
theorem start_counts : (t.start w).estimate = t.estimate ∧ (t.start w).oncePerFill = t.oncePerFill
    ∧ (t.start w).estFull = t.estFull ∧ (t.start w).cycles = t.cycles := by
  unfold start
  split <;> exact ⟨rfl, rfl, rfl, rfl⟩

/-- R105: the marks of the two thresholds. -/
def marked (t : TankBlock) (w : Settings) : TankBlock :=
  { t with
    oncePerFill := t.oncePerFill || decide (w.capacity * 150 ≤ t.estimate)
    estFull := t.estFull || decide (w.capacity * 200 ≤ t.estimate) }

theorem judgeEstimate_eq :
    t.judgeEstimate w = if (t.marked w).estFull && !t.estFull then (t.marked w).start w else t.marked w := rfl

theorem judgeEstimate_marks :
    (t.judgeEstimate w).oncePerFill = (t.oncePerFill || decide (w.capacity * 150 ≤ t.estimate))
      ∧ (t.judgeEstimate w).estFull = (t.estFull || decide (w.capacity * 200 ≤ t.estimate)) := by
  obtain ⟨-, once, full, -⟩ := (t.marked w).start_counts w
  rw [judgeEstimate_eq]
  split
  · exact ⟨once, full⟩
  · exact ⟨rfl, rfl⟩

/-- R105: a newly set estimated-full mark starts an idle pump; one that the event has started already runs on. -/
theorem judgeEstimate_start_starts (idle : t.pump = .idle) (fitted : w.pumpFitted = true) (present : t.present = some true)
    (clear : t.estFull = false) (full : ((t.start w).judgeEstimate w).estFull = true) :
    ((t.start w).judgeEstimate w).pump = .running ∧ ((t.start w).judgeEstimate w).onTime = some 0 := by
  obtain ⟨-, -, same, -⟩ := t.start_counts w
  have mark : ((t.start w).marked w).estFull = true := by
    rw [(judgeEstimate_marks _ w).2] at full
    exact full
  have judged : (t.start w).judgeEstimate w = ((t.start w).marked w).start w := by
    rw [judgeEstimate_eq, if_pos (by simp [mark, same, clear])]
  rw [judged]
  by_cases asked : t.asksPump = true
  · rw [start_of_ready t w idle fitted present asked, start_of_busy _ w (by simp [marked, pumpStarted])]
    exact ⟨rfl, rfl⟩
  · rw [start_of_unasked t w (by simpa using asked)] at mark ⊢
    rw [start_of_ready (t.marked w) w idle fitted present (by rw [asksPump, mark, Bool.or_true])]
    exact ⟨rfl, rfl⟩

/-- R95, R105: the two events that are judged against the thresholds by an estimate that may have grown. -/
def EstimateEvent (t : TankBlock) (w : Settings) (e : TankEvent) : Prop :=
  e = .runMinute ∧ w.condensateRate ≠ 0 ∧ t.estimate < 65535 ∨ e = .setting 0x24

variable {t w}

theorem EstimateEvent.moved {e : TankEvent} (h : t.EstimateEvent w e) : t.moved w e = (t.own w e).start w := by
  obtain ⟨rfl, -⟩ | rfl := h
  · rfl
  · rfl

/-- R105: such an event is judged after the pump's moves. -/
theorem EstimateEvent.judged {e : TankEvent} (h : t.EstimateEvent w e) :
    t.judged w e = ((t.own w e).start w).judgeEstimate w := by
  obtain ⟨estimate, -⟩ := (t.own w e).start_counts w
  have judges : estimateJudged t ((t.own w e).start w) e = true := by
    rw [estimateJudged, estimate]
    obtain ⟨rfl, rate, below⟩ | rfl := h
    · have grows : t.estimate ≠ min 65535 (t.estimate + w.condensateRate) := by omega
      exact Bool.or_eq_true_iff.2 (.inl (decide_eq_true grows))
    · simp
  rw [TankBlock.judged, h.moved, if_pos judges]

theorem own_keeps (t : TankBlock) (w : Settings) (e : TankEvent) :
    (t.own w e).oncePerFill = t.oncePerFill ∧ (t.own w e).estFull = t.estFull ∧ (t.own w e).pump = t.pump
      ∧ (t.own w e).onTime = t.onTime ∧ (t.own w e).afterRun = t.afterRun ∧ (t.own w e).cycles = t.cycles := by
  cases e <;> exact ⟨rfl, rfl, rfl, rfl, rfl, rfl⟩

theorem EstimateEvent.own_copies {e : TankEvent} (h : t.EstimateEvent w e) : t.SameCopies (t.own w e) := by
  obtain ⟨rfl, -⟩ | rfl := h
  · exact ⟨rfl, rfl, rfl⟩
  · exact .refl t

theorem EstimateEvent.after_estimate {e : TankEvent} (h : t.EstimateEvent w e) :
    (t.after w e).estimate = (t.own w e).estimate := by
  obtain ⟨estimate, -⟩ := (t.own w e).start_counts w
  rw [after, h.judged]
  exact (judgeEstimate_estimate _ w).trans estimate

/-- R105: the two marks after an event that is judged. -/
theorem EstimateEvent.after_marks {e : TankEvent} (h : t.EstimateEvent w e) :
    (t.after w e).oncePerFill = (t.oncePerFill || decide (w.capacity * 150 ≤ (t.after w e).estimate))
      ∧ (t.after w e).estFull = (t.estFull || decide (w.capacity * 200 ≤ (t.after w e).estimate)) := by
  obtain ⟨once, full⟩ := judgeEstimate_marks ((t.own w e).start w) w
  obtain ⟨estimate, once', full', -⟩ := (t.own w e).start_counts w
  obtain ⟨once'', full'', -⟩ := t.own_keeps w e
  rw [estimate, once', once''] at once
  rw [estimate, full', full''] at full
  rw [h.after_estimate, after, h.judged]
  exact ⟨once, full⟩

/-- R105: the estimated-full mark, newly set, has started an idle pump. -/
theorem EstimateEvent.after_starts {e : TankEvent} (h : t.EstimateEvent w e) (clear : t.estFull = false)
    (full : (t.after w e).estFull = true) (idle : t.pump = .idle) (fitted : w.pumpFitted = true)
    (present : t.present = some true) : (t.after w e).pump = .running ∧ (t.after w e).onTime = some 0 := by
  obtain ⟨-, clear', idle', -⟩ := t.own_keeps w e
  rw [after, h.judged] at full ⊢
  exact judgeEstimate_start_starts _ w (idle'.trans idle) fitted (h.own_copies.present.trans present)
    (clear'.trans clear) full

/-- R96: the tank state by its table. -/
theorem evaluated_table (t : TankBlock) :
    (t.present ≠ some true → t.evaluated = .absent)
      ∧ (t.present = some true →
        (t.fullFloat = some true ∨ t.pump = .failed ∨ t.estFull = true → t.evaluated = .full)
        ∧ (t.fullFloat ≠ some true → t.pump ≠ .failed → t.estFull = false →
          t.evaluated = if t.highFloat = some true then .high else .normal)) := by
  simp only [evaluated, raised_eq_true]
  refine ⟨fun removed => if_pos removed, fun present => ⟨fun full => ?_, fun low runs clear => ?_⟩⟩
  · rw [if_neg (not_not.2 present), if_pos full]
  · rw [if_neg (not_not.2 present), if_neg (by simp [low, runs, clear])]

end TankBlock

/-! ### The reports of a tank event (R97, R98, R110) -/

/-- R110, R111: the report of one condition leaves every other flag as it was. -/
theorem hasFlag_reportChange_of_ne {f g : Flag} (b : Bool) (s : State) (h : f ≠ g) :
    hasFlag (reportChange f b s).notice.conditions g = hasFlag s.notice.conditions g
      ∧ hasFlag (reportChange f b s).notice.latched g = hasFlag s.notice.latched g := by
  unfold reportChange
  split
  · exact ⟨rfl, rfl⟩
  · rw [reportCondition_notice]
    exact hasFlag_condition_of_ne s.notice b h

/-- R97: the four level-class conditions of the tank block, reported in their order. -/
def tankConditions (t : TankBlock) (w : Settings) (s : State) : State :=
  reportChange .pumpFail (decide (t.pump = .failed)) (reportChange .tankHigh (t.tankHigh w)
    (reportChange .tankFull (decide (t.level = .full)) (reportChange .tankAbsent (decide (t.level = .absent)) s)))

theorem tankConditions_conditions (t : TankBlock) (w : Settings) (s : State) :
    hasFlag (tankConditions t w s).notice.conditions .tankAbsent = decide (t.level = .absent)
      ∧ hasFlag (tankConditions t w s).notice.conditions .tankHigh = t.tankHigh w
      ∧ hasFlag (tankConditions t w s).notice.conditions .pumpFail = decide (t.pump = .failed) := by
  simp [tankConditions, hasFlag_reportChange_of_ne]

theorem tankConditions_floatCheck (t : TankBlock) (w : Settings) (s : State) :
    hasFlag (tankConditions t w s).notice.latched .floatCheck = hasFlag s.notice.latched .floatCheck := by
  simp [tankConditions, hasFlag_reportChange_of_ne]

/-- R98: the part with FLOAT_CHECK raised if the event raises it, before the conditions. -/
def floatChecked (before : TankBlock) (e : TankEvent) (s : State) : State :=
  if floatCheck before s.tank e then raise .floatCheck (markIf (decide (s.tank.cycles ≠ before.cycles)) s)
  else markIf (decide (s.tank.cycles ≠ before.cycles)) s

theorem floatChecked_latched (before : TankBlock) (e : TankEvent) (s : State) :
    hasFlag (floatChecked before e s).notice.latched .floatCheck
      = (hasFlag s.notice.latched .floatCheck || floatCheck before s.tank e) := by
  unfold floatChecked
  split
  case isTrue checks => simp [checks]
  case isFalse consistent => simp [consistent]

/-- The notice unit after the reports: FLOAT_CHECK, then the conditions; the reports after them do not reach it. -/
theorem tankReports_notice (before : TankBlock) (e : TankEvent) (forced : Bool) (s : State) :
    (tankReports before e forced s).notice = (tankConditions s.tank s.path.working (floatChecked before e s)).notice := by
  by_cases checks : floatCheck before s.tank e = true
  · simp [tankReports, apply_ite State.notice, tankConditions, floatChecked, checks]
  · simp [tankReports, apply_ite State.notice, tankConditions, floatChecked, checks]

theorem dryingTankReport_copy (level : TankLevel) (s : State) : (dryingTankReport level s).dry.tank = some level := by
  simp only [dryingTankReport]
  split
  · exact ((immediateStop_undisturbed _).trans (judgeDrying_undisturbed _)).dry.tank
  · exact (judgeDrying_undisturbed _).dry.tank

theorem tankReports_told {before : TankBlock} (e : TankEvent) (forced : Bool) (s : State)
    (changes : s.tank.level ≠ before.level) : (tankReports before e forced s).dry.tank = some s.tank.level := by
  have told : (forced || decide (s.tank.level ≠ before.level)) = true := by simp [changes]
  simp only [tankReports]
  rw [if_pos told]
  exact dryingTankReport_copy _ _

/-! ### The event with its reports -/

/-- R94: the tank block reports an event once its switches have settled, and the settling expiry itself. -/
def State.reportsTank (s : State) (e : TankEvent) : Prop :=
  s.tank.present.isSome = true ∨ ∃ high full present, e = .settle high full present

section

variable {e : TankEvent} {s : State}

theorem tankEvent_of_reports (h : s.reportsTank e) :
    ∃ forced, tankEvent e s = tankReports s.tank e forced (s.setTank (s.tank.after s.path.working e)) := by
  obtain settled | ⟨high, full, present, rfl⟩ := h
  · cases e
    case settle => exact ⟨true, rfl⟩
    all_goals exact ⟨false, if_pos settled⟩
  · exact ⟨true, rfl⟩

/-- R97: the conditions of the tank block stand for what the event leaves of it. -/
theorem tankEvent_conditions (h : s.reportsTank e) :
    hasFlag (tankEvent e s).notice.conditions .tankAbsent = decide ((tankEvent e s).tank.level = .absent)
      ∧ hasFlag (tankEvent e s).notice.conditions .tankHigh = (tankEvent e s).tank.tankHigh s.path.working
      ∧ hasFlag (tankEvent e s).notice.conditions .pumpFail = decide ((tankEvent e s).tank.pump = .failed) := by
  obtain ⟨forced, reported⟩ := tankEvent_of_reports h
  rw [tankEvent_tank, reported, tankReports_notice]
  exact tankConditions_conditions _ _ _

/-- R98, R105: the event latches FLOAT_CHECK where it raises it. -/
theorem tankEvent_floatCheck (h : s.reportsTank e) :
    hasFlag (tankEvent e s).notice.latched .floatCheck
      = (hasFlag s.notice.latched .floatCheck || floatCheck s.tank (tankEvent e s).tank e) := by
  obtain ⟨forced, reported⟩ := tankEvent_of_reports h
  rw [tankEvent_tank, reported, tankReports_notice, tankConditions_floatCheck, floatChecked_latched]
  rfl

/-- R97: a tank state that changes is told to drying. -/
theorem tankEvent_told (settled : s.tank.present.isSome = true) (changes : (tankEvent e s).tank.level ≠ s.tank.level) :
    (tankEvent e s).dry.tank = some (tankEvent e s).tank.level := by
  obtain ⟨forced, reported⟩ := tankEvent_of_reports (e := e) (.inl settled)
  rw [tankEvent_tank] at changes ⊢
  rw [reported]
  exact tankReports_told e forced (s.setTank (s.tank.after s.path.working e)) changes

end

/-- Settles O34: the table and the thresholds by the tank block's own steps, the reports by the flags they set. -/
theorem tankStateFollowsTable : Obligations.TankStateFollowsTable := by
  intro e s
  have tank := tankEvent_tank e s
  obtain ⟨removed, table⟩ := (s.tank.after s.path.working e).evaluated_table
  obtain ⟨highCopy, fullCopy, -⟩ := tankEvent_copies e s
  refine ⟨by rw [tank]; exact removed, by rw [tank]; exact table, tankEvent_told, by simp, by simp [onlyBlocks],
    fun settled => ⟨?minute, ?write, fun judged => ?thresholds, ?high, ?full⟩, ?settle⟩
  case minute =>
    rintro rfl
    rw [tank, TankBlock.after_estimate _ _ (.inl rfl)]
    rfl
  case write =>
    rintro rfl
    rw [tank]
    exact TankBlock.EstimateEvent.after_estimate (.inr rfl)
  case thresholds =>
    have judges : s.tank.EstimateEvent s.path.working e := judged
    obtain ⟨once, full⟩ := judges.after_marks
    have checks : floatCheck s.tank (tankEvent e s).tank e = ((tankEvent e s).tank.oncePerFill
        && !s.tank.oncePerFill && !raised (tankEvent e s).tank.highFloat) := by
      obtain ⟨rfl, -⟩ | rfl := judged
      · rfl
      · rfl
    have high : (tankEvent e s).tank.highFloat = s.tank.highFloat := highCopy.trans judges.own_copies.highFloat
    rw [tankEvent_floatCheck (.inl settled), checks, high, tank]
    refine ⟨by rw [once]; simp, by rw [full]; simp, judges.after_starts, ?_⟩
    rw [raised, Bool.and_comm (s.tank.after s.path.working e).oncePerFill]
  case high =>
    rintro up rfl -
    rw [tankEvent_floatCheck (.inl settled), floatCheck, fullCopy]
    rfl
  case full =>
    rintro up rfl -
    rw [tankEvent_floatCheck (.inl settled), floatCheck, highCopy]
    rfl
  case settle =>
    rintro high full present rfl
    rw [tankEvent_floatCheck (.inr ⟨high, full, present, rfl⟩), floatCheck, TankBlock.inconsistent, highCopy, fullCopy]
    simp [TankBlock.own, raised]

end Sys2Proof.Machine
end

section
/-! SUPPORT. The pump's moves (R99 to R103): what the floats, the timers, the tank switch and the writes of the pump's
settings make of the tank block. -/

namespace Sys2Proof.Machine

/-- R95: a report of one of the two floats. -/
def TankEvent.OfFloat (e : TankEvent) : Prop := (∃ up, e = .highFloat up) ∨ ∃ up, e = .fullFloat up

theorem TankEvent.OfFloat.high (up : Bool) : (TankEvent.highFloat up).OfFloat := .inl ⟨up, rfl⟩
theorem TankEvent.OfFloat.full (up : Bool) : (TankEvent.fullFloat up).OfFloat := .inr ⟨up, rfl⟩

namespace TankBlock

variable {t u : TankBlock} {w : Settings} {e : TankEvent}

/-! ### Where the estimate is not judged (R105) -/

theorem judged_of_same (same : (t.moved w e).estimate = t.estimate) (other : e ≠ .setting 0x24) :
    t.judged w e = t.moved w e :=
  if_neg (by simp [estimateJudged, same, other])

/-- A cleared estimate reaches no threshold. -/
theorem judgeEstimate_of_zero (capacity : 1 ≤ w.capacity) (zero : t.estimate = 0) : t.judgeEstimate w = t := by
  have first : ¬ w.capacity * 150 ≤ t.estimate := by omega
  have second : ¬ w.capacity * 200 ≤ t.estimate := by omega
  have unmarked : t.marked w = t := by simp [marked, first, second]
  rw [judgeEstimate_eq, unmarked, Bool.and_not_self]
  rfl

theorem judged_of_zero (capacity : 1 ≤ w.capacity) (zero : (t.moved w e).estimate = 0) : t.judged w e = t.moved w e := by
  rw [judged, judgeEstimate_of_zero capacity zero, ite_self]

/-- R100: a completed pump, which R99 may start again. -/
theorem judged_of_complete (capacity : 1 ≤ w.capacity) (moved : t.moved w e = u.complete.start w) :
    t.judged w e = u.complete.start w := by
  rw [judged_of_zero capacity, moved]
  rw [moved, (u.complete.start_counts w).1]
  rfl

/-! ### The floats (R99, R100) -/

/-- A float copy is raised. -/
def floatsUp (t : TankBlock) : Bool := raised t.highFloat || raised t.fullFloat

theorem floatsUp_eq_true (t : TankBlock) :
    t.floatsUp = true ↔ t.highFloat = some true ∨ t.fullFloat = some true := by
  simp [floatsUp, raised]

theorem floatsUp_eq_false (t : TankBlock) :
    t.floatsUp = false ↔ t.highFloat ≠ some true ∧ t.fullFloat ≠ some true := by
  simp [floatsUp, raised]

/-- The float that lowers leaves the other's copy to decide. -/
theorem floatsUp_of_lowered (h : e = .highFloat false ∧ t.fullFloat ≠ some true
    ∨ e = .fullFloat false ∧ t.highFloat ≠ some true) : (t.own w e).floatsUp = false := by
  rw [floatsUp_eq_false]
  obtain ⟨rfl, other⟩ | ⟨rfl, other⟩ := h
  · exact ⟨by simp [own], other⟩
  · exact ⟨other, by simp [own]⟩

theorem floatsUp_of_raised (h : e = .highFloat true ∨ e = .fullFloat true) : (t.own w e).floatsUp = true := by
  rw [floatsUp_eq_true]
  obtain rfl | rfl := h
  · exact .inl rfl
  · exact .inr rfl

/-- R99: with the floats down a completed pump stays idle, for its estimate is cleared. -/
theorem complete_start (down : t.floatsUp = false) : t.complete.start w = t.complete :=
  start_of_unasked _ w (Bool.or_eq_false_iff.2 ⟨down, rfl⟩)

theorem floatMove_of_lowered (run : t.pump = .running) (down : t.floatsUp = false) (span : 1 ≤ w.pumpAfterRun) :
    t.floatMove w = { t with pump := .afterRun, afterRun := some 0 } := by
  have waits : w.pumpAfterRun ≠ 0 := by omega
  have lowered : (raised t.highFloat || raised t.fullFloat) = false := down
  simp [floatMove, run, lowered, waits]

theorem floatMove_of_lowered_at_once (run : t.pump = .running) (down : t.floatsUp = false) (span : w.pumpAfterRun = 0) :
    t.floatMove w = t.complete := by
  have lowered : (raised t.highFloat || raised t.fullFloat) = false := down
  simp [floatMove, run, lowered, span]

theorem floatMove_of_raised (after : t.pump = .afterRun) (up : t.floatsUp = true) :
    t.floatMove w = { t with pump := .running, afterRun := none } := by
  have lifted : (raised t.highFloat || raised t.fullFloat) = true := up
  simp [floatMove, after, lifted]

theorem floatMove_of_idle (idle : t.pump = .idle) : t.floatMove w = t := by simp [floatMove, idle]

/-! ### A float's report (R95, R99, R100) -/

theorem moved_of_float (float : e.OfFloat) : t.moved w e = ((t.own w e).floatMove w).start w := by
  obtain ⟨up, rfl⟩ | ⟨up, rfl⟩ := float
  · rfl
  · rfl

theorem own_of_float (float : e.OfFloat) : (t.own w e).estimate = t.estimate ∧ (t.own w e).present = t.present
    ∧ (t.own w e).estFull = t.estFull ∧ (t.own w e).pump = t.pump ∧ (t.own w e).onTime = t.onTime
    ∧ (t.own w e).cycles = t.cycles := by
  obtain ⟨up, rfl⟩ | ⟨up, rfl⟩ := float
  · exact ⟨rfl, rfl, rfl, rfl, rfl, rfl⟩
  · exact ⟨rfl, rfl, rfl, rfl, rfl, rfl⟩

/-- A float's report that leaves the estimate is not judged against its thresholds. -/
theorem judged_of_float (float : e.OfFloat) (moved : ((t.own w e).floatMove w).start w = u)
    (estimate : u.estimate = (t.own w e).estimate) : t.judged w e = u := by
  have result := (moved_of_float float).trans moved
  rw [← result]
  refine judged_of_same (by rw [result, estimate]; exact (own_of_float float).1) ?_
  obtain ⟨up, rfl⟩ | ⟨up, rfl⟩ := float
  · simp
  · simp

theorem judged_of_lowered (float : e.OfFloat) (down : (t.own w e).floatsUp = false) (run : t.pump = .running)
    (span : 1 ≤ w.pumpAfterRun) : t.judged w e = { t.own w e with pump := .afterRun, afterRun := some 0 } := by
  have run' : (t.own w e).pump = .running := (t.own_keeps w e).2.2.1.trans run
  refine judged_of_float float ?_ rfl
  rw [floatMove_of_lowered run' down span]
  exact start_of_busy _ w (by simp)

theorem judged_of_raised (float : e.OfFloat) (up : (t.own w e).floatsUp = true) (after : t.pump = .afterRun) :
    t.judged w e = { t.own w e with pump := .running, afterRun := none } := by
  have after' : (t.own w e).pump = .afterRun := (t.own_keeps w e).2.2.1.trans after
  refine judged_of_float float ?_ rfl
  rw [floatMove_of_raised after' up]
  exact start_of_busy _ w (by simp)

theorem judged_of_lowered_at_once (float : e.OfFloat) (down : (t.own w e).floatsUp = false) (run : t.pump = .running)
    (span : w.pumpAfterRun = 0) (capacity : 1 ≤ w.capacity) : t.judged w e = (t.own w e).complete := by
  have run' : (t.own w e).pump = .running := (t.own_keeps w e).2.2.1.trans run
  have moved : t.moved w e = (t.own w e).complete.start w := by
    rw [moved_of_float float, floatMove_of_lowered_at_once run' down span]
  rw [judged_of_complete capacity moved, complete_start down]

/-- R99: for an idle pump a float's report is the start condition. -/
theorem judged_of_idle (float : e.OfFloat) (idle : t.pump = .idle) : t.judged w e = (t.own w e).start w := by
  have idle' : (t.own w e).pump = .idle := (t.own_keeps w e).2.2.1.trans idle
  refine judged_of_float float ?_ ((t.own w e).start_counts w).1
  rw [floatMove_of_idle idle']

/-! ### The timers (R100, R101) -/

theorem endOnTime_of_running (run : t.pump = .running) : t.endOnTime = t.pumpOff .failed := by simp [endOnTime, run]
theorem endOnTime_of_afterRun (after : t.pump = .afterRun) : t.endOnTime = t.complete := by simp [endOnTime, after]
theorem endAfterRun_of_afterRun (after : t.pump = .afterRun) : t.endAfterRun = t.complete := if_pos after

/-- R101: the end of the on-time, by its timer or by a write of max run, fails a running pump. -/
theorem judged_of_failed (moved : t.moved w e = t.endOnTime.start w) (other : e ≠ .setting 0x24)
    (run : t.pump = .running) : t.judged w e = t.pumpOff .failed := by
  have failed : t.moved w e = t.pumpOff .failed := by
    rw [moved, endOnTime_of_running run]
    exact start_of_busy _ w (by simp [pumpOff])
  rw [judged_of_same (by rw [failed]; rfl) other, failed]

/-! ### The tank switch (R102) -/

/-- R102: a removal ends every pump state. -/
theorem judged_of_removed : t.judged w (.present false) = { t with present := some false }.pumpOff .idle := by
  have moved : t.moved w (.present false) = { t with present := some false }.pumpOff .idle :=
    start_of_barred _ w (.inr (by simp [own, removal, pumpOff]))
  rw [judged_of_same (by rw [moved]; rfl) (by simp), moved]

/-- R102: the block with its tank back and the estimate cleared. -/
def reinserted (t : TankBlock) : TankBlock := { t with present := some true }.clearEstimate

/-- R102: after a re-insertion R99 is judged on what it finds. -/
theorem judged_of_reinserted (absent : t.present = some false) (capacity : 1 ≤ w.capacity) :
    t.judged w (.present true) = t.reinserted.start w := by
  have cleared : (t.own w (.present true)).removal t.present (.present true) = t.reinserted := if_pos absent
  have moved : t.moved w (.present true) = t.reinserted.start w := by
    rw [TankBlock.moved, cleared]
    rfl
  rw [judged_of_zero capacity, moved]
  rw [moved]
  exact (start_counts _ w).1

/-! ### The pump's settings (R103) -/

theorem moved_of_maxRun : t.moved w (.setting 0x26)
    = (if reached t.onTime w.pumpMaxRun then t.endOnTime else t).start w := rfl

theorem moved_of_afterRun : t.moved w (.setting 0x27)
    = (if reached t.afterRun w.pumpAfterRun then t.endAfterRun else t).start w := rfl

theorem moved_of_fitted : t.moved w (.setting 0x23)
    = (if w.pumpFitted ∨ t.pump = .idle then t else t.pumpOff .idle).start w := rfl

/-- R103: a write of a span acts on a pump in operation if the stopwatch has reached it, and else leaves the block as it
is. -/
theorem judged_of_span {k : Stopwatch} {seconds ms : Nat}
    (moved : t.moved w e = (if reached k seconds then u else t).start w) (time : k = some ms) (busy : t.pump ≠ .idle)
    (other : e ≠ .setting 0x24) :
    (seconds * 1000 ≤ ms → t.moved w e = u.start w) ∧ (ms < seconds * 1000 → t.judged w e = t) := by
  subst time
  refine ⟨fun past => ?_, fun within => ?_⟩
  · rw [moved, if_pos (show reached (some ms) seconds = true from decide_eq_true past)]
  · have same : t.moved w e = t := by
      rw [moved, if_neg (by simp [reached, within]), start_of_busy t w busy]
    rw [judged_of_same (by rw [same]) other, same]

/-- R103: a pump that is not fitted any more stops. -/
theorem judged_of_unfitted (unfitted : w.pumpFitted = false) :
    (t.judged w (.setting 0x23)).pump = .idle ∧ (t.judged w (.setting 0x23)).cycles = t.cycles
      ∧ (t.judged w (.setting 0x23)).estimate = t.estimate := by
  have moved : t.moved w (.setting 0x23) = if t.pump = .idle then t else t.pumpOff .idle := by
    rw [moved_of_fitted, start_of_barred _ w (.inl unfitted)]
    simp [unfitted]
  by_cases idle : t.pump = .idle
  · rw [if_pos idle] at moved
    rw [judged_of_same (by rw [moved]) (by simp), moved]
    exact ⟨idle, rfl, rfl⟩
  · rw [if_neg idle] at moved
    rw [judged_of_same (by rw [moved]; rfl) (by simp), moved]
    exact ⟨rfl, rfl, rfl⟩

/-- R103: a pump newly fitted is judged by R99. -/
theorem judged_of_fitted (fitted : w.pumpFitted = true) : t.judged w (.setting 0x23) = t.start w := by
  have moved : t.moved w (.setting 0x23) = t.start w := by
    rw [moved_of_fitted, if_pos (.inl fitted)]
  rw [judged_of_same (by rw [moved]; exact (t.start_counts w).1) (by simp), moved]

end TankBlock

end Sys2Proof.Machine
end

section
/-! SUPPORT. The timers' commands and the pump's events at the part (R99 to R102), with their reports. -/

namespace Sys2Proof.Machine

theorem State.pumpPin_eq (s : State) : s.pumpPin = s.tank.pumpOn := rfl

/-- The tank block after an event is what its judgement leaves, with the tank state by its table. -/
theorem tankEvent_judged (e : TankEvent) (s : State) :
    (tankEvent e s).tank
      = { s.tank.judged s.path.working e with level := (s.tank.judged s.path.working e).evaluated } :=
  tankEvent_tank e s

variable {s : State}

/-! ### The timers (R100, R101) -/

theorem exec_onTimeEnd (h : s.tank.onTime.isSome = true) : exec .onTimeEnd s = .next (tankEvent .onTimeEnd s) := by
  simp [exec, execOnTimeEnd, h]

theorem exec_afterRunExpiry (h : s.tank.afterRun.isSome = true) :
    exec .afterRunExpiry s = .next (tankEvent .afterRunEnd s) := by
  simp [exec, execAfterRunExpiry, h]

/-- R97, R101: the pump that fails makes the tank FULL. -/
theorem onTimeEnd_of_running (run : s.tank.pump = .running) (present : s.tank.present = some true) :
    (tankEvent .onTimeEnd s).tank = { s.tank.pumpOff .failed with level := .full }
      ∧ hasFlag (tankEvent .onTimeEnd s).notice.conditions .pumpFail = true := by
  have failed := TankBlock.judged_of_failed (w := s.path.working) (e := .onTimeEnd) rfl (by simp) run
  obtain ⟨-, -, fail⟩ := tankEvent_conditions (e := .onTimeEnd) (s := s) (.inl (by simp [present]))
  have full : (s.tank.pumpOff .failed).evaluated = .full :=
    ((s.tank.pumpOff .failed).evaluated_table.2 present).1 (.inr (.inl rfl))
  rw [fail, tankEvent_judged, failed, full]
  exact ⟨rfl, rfl⟩

/-- R100: the on-time that ends in the after-run completes the pump. -/
theorem onTimeEnd_of_afterRun (after : s.tank.pump = .afterRun) (capacity : 1 ≤ s.path.working.capacity) :
    s.tank.judged s.path.working .onTimeEnd = s.tank.complete.start s.path.working := by
  refine TankBlock.judged_of_complete capacity ?_
  rw [← TankBlock.endOnTime_of_afterRun after]
  rfl

/-- R100: the end of the after-run completes the pump. -/
theorem afterRunEnd_of_afterRun (after : s.tank.pump = .afterRun) (capacity : 1 ≤ s.path.working.capacity)
    (down : s.tank.floatsUp = false) : s.tank.judged s.path.working .afterRunEnd = s.tank.complete := by
  rw [← TankBlock.complete_start (w := s.path.working) down]
  refine TankBlock.judged_of_complete capacity ?_
  rw [← TankBlock.endAfterRun_of_afterRun after]
  rfl

/-! ### The tank switch (R97, R102) -/

/-- R97, R102: a tank state that the removal makes ABSENT stops the compressor. -/
theorem removed_compPin (settled : s.tank.present.isSome = true) (level : s.tank.level ≠ .absent) :
    (tankEvent (.present false) s).compPin = false := by
  obtain ⟨forced, reported⟩ := tankEvent_of_reports (e := .present false) (s := s) (.inl settled)
  have absent := s.tank.after_level_of_removed s.path.working (e := .present false) rfl
  rw [reported]
  exact decide_eq_false (tankReports_absent_comp _ forced (s.setTank _) absent level)

/-- R99, R102: what a re-insertion finds decides over a start. -/
theorem reinserted_start (w : Settings) (idle : s.tank.pump = .idle) :
    (w.pumpFitted = true → s.tank.floatsUp = true → s.tank.reinserted.start w = s.tank.reinserted.pumpStarted)
      ∧ (w.pumpFitted = false ∨ s.tank.floatsUp = false → s.tank.reinserted.start w = s.tank.reinserted) := by
  have asks : s.tank.reinserted.asksPump = s.tank.floatsUp := Bool.or_false _
  refine ⟨fun fitted up => TankBlock.start_of_ready _ w idle fitted rfl (asks.trans up), fun stays => ?_⟩
  obtain unfitted | down := stays
  · exact TankBlock.start_of_barred _ w (.inl unfitted)
  · exact TankBlock.start_of_unasked _ w (asks.trans down)

/-! ### A float's report to an idle pump (R99) -/

section Idle

variable {e : TankEvent} (float : e.OfFloat) (idle : s.tank.pump = .idle)
include float idle

theorem float_starts (raised : e = .highFloat true ∨ e = .fullFloat true) (fitted : s.path.working.pumpFitted = true)
    (present : s.tank.present = some true) :
    (tankEvent e s).tank.pump = .running ∧ (tankEvent e s).tank.onTime = some 0 ∧ (tankEvent e s).pumpPin = true := by
  obtain ⟨-, copy, -, pump, -⟩ := TankBlock.own_of_float (t := s.tank) (w := s.path.working) float
  rw [State.pumpPin_eq, tankEvent_judged, TankBlock.judged_of_idle float idle,
    TankBlock.start_of_ready _ _ (pump.trans idle) fitted (copy.trans present)
      (Bool.or_eq_true_iff.2 (.inl (TankBlock.floatsUp_of_raised raised)))]
  exact ⟨rfl, rfl, rfl⟩

theorem float_barred (barred : s.path.working.pumpFitted = false ∨ s.tank.present ≠ some true) :
    (tankEvent e s).tank.pump = .idle := by
  obtain ⟨-, copy, -, pump, -⟩ := TankBlock.own_of_float (t := s.tank) (w := s.path.working) float
  rw [tankEvent_judged, TankBlock.judged_of_idle float idle, TankBlock.start_of_barred _ _ (by rw [copy]; exact barred)]
  exact pump.trans idle

theorem float_unasked (lowered : e = .highFloat false ∧ s.tank.fullFloat ≠ some true
    ∨ e = .fullFloat false ∧ s.tank.highFloat ≠ some true) (clear : s.tank.estFull = false) :
    (tankEvent e s).tank.pump = .idle := by
  obtain ⟨-, -, mark, pump, -⟩ := TankBlock.own_of_float (t := s.tank) (w := s.path.working) float
  rw [tankEvent_judged, TankBlock.judged_of_idle float idle, TankBlock.start_of_unasked _ _
    (Bool.or_eq_false_iff.2 ⟨TankBlock.floatsUp_of_lowered lowered, mark.trans clear⟩)]
  exact pump.trans idle

end Idle

/-! ### A float's report to a pump in operation (R100) -/

section Busy

variable {e : TankEvent} (float : e.OfFloat)
include float

theorem float_lowered (lowered : e = .highFloat false ∧ s.tank.fullFloat ≠ some true
      ∨ e = .fullFloat false ∧ s.tank.highFloat ≠ some true)
    (run : s.tank.pump = .running) (span : 1 ≤ s.path.working.pumpAfterRun) :
    (tankEvent e s).tank.pump = .afterRun ∧ (tankEvent e s).tank.afterRun = some 0
      ∧ (tankEvent e s).tank.onTime = s.tank.onTime ∧ (tankEvent e s).pumpPin = true := by
  obtain ⟨-, -, -, -, onTime, -⟩ := TankBlock.own_of_float (t := s.tank) (w := s.path.working) float
  rw [State.pumpPin_eq, tankEvent_judged,
    TankBlock.judged_of_lowered float (TankBlock.floatsUp_of_lowered lowered) run span]
  exact ⟨rfl, rfl, onTime, rfl⟩

theorem float_raised (raised : e = .highFloat true ∨ e = .fullFloat true) (after : s.tank.pump = .afterRun) :
    (tankEvent e s).tank.pump = .running ∧ (tankEvent e s).tank.afterRun = none
      ∧ (tankEvent e s).tank.onTime = s.tank.onTime ∧ (tankEvent e s).tank.cycles = s.tank.cycles := by
  obtain ⟨-, -, -, -, onTime, cycles⟩ := TankBlock.own_of_float (t := s.tank) (w := s.path.working) float
  rw [tankEvent_judged, TankBlock.judged_of_raised float (TankBlock.floatsUp_of_raised raised) after]
  exact ⟨rfl, rfl, onTime, cycles⟩

end Busy

end Sys2Proof.Machine
end

section
/-! SUPPORT. The writes of the pump's settings and of the capacity (R103, R105), with the statement of the pump's moves. -/

namespace Sys2Proof.Machine

/-! ### A write of a setting of Table 20 (R103) -/

@[simp] theorem settingEnded_tank (s : State) : (settingEnded s).tank = s.tank := by simp [settingEnded_eq]

theorem judgedWrite_tank (off v : Byte) (s : State) : (judgedWrite off v s).tank = s.tank := by
  simp only [judgedWrite, judgeClamp]
  unfold recordClamp
  split <;> rfl

section Written

variable {off v : Byte} {n : Nat} {s : State} (place : off.toNat = n)
  (deliver : ∀ old u, deliverSetting old n u = tankSettingWritten old n u)
include place deliver

/-- A write that leaves the working byte as it was is none to the tank block. -/
theorem settingWritten_tank_of_same (same : (settingWritten off v s).path.working.byte n = s.path.working.byte n) :
    (settingWritten off v s).tank = s.tank := by
  rw [settingWritten_working] at same
  rw [settingWritten, settingEnded_tank, place, deliver, tankSettingWritten, if_pos same.symm, judgedWrite_tank]

/-- A write that changes the working byte is an event of the tank block under the new settings. -/
theorem settingWritten_tankEvent (changed : (settingWritten off v s).path.working.byte n ≠ s.path.working.byte n) :
    (settingWritten off v s).tank = s.tank.after (settingWritten off v s).path.working (.setting n)
      ∧ (settingWritten off v s).notice = (tankEvent (.setting n) (judgedWrite off v s)).notice := by
  rw [settingWritten_working] at changed ⊢
  have written : settingWritten off v s = settingEnded (tankEvent (.setting n) (judgedWrite off v s)) := by
    rw [settingWritten, place, deliver, tankSettingWritten, if_neg changed.symm]
  rw [written, settingEnded_tank, tankEvent_tank, judgedWrite_tank]
  exact ⟨rfl, by simp⟩

/-- R97: the conditions after such an event. -/
theorem settingWritten_conditions (changed : (settingWritten off v s).path.working.byte n ≠ s.path.working.byte n)
    (settled : s.tank.present.isSome = true) :
    hasFlag (settingWritten off v s).notice.conditions .tankHigh
        = (settingWritten off v s).tank.tankHigh (settingWritten off v s).path.working
      ∧ hasFlag (settingWritten off v s).notice.conditions .pumpFail
        = decide ((settingWritten off v s).tank.pump = .failed) := by
  obtain ⟨tank, notice⟩ := settingWritten_tankEvent place deliver changed
  have reports : (judgedWrite off v s).reportsTank (.setting n) := .inl (by rw [judgedWrite_tank]; exact settled)
  obtain ⟨-, high, fail⟩ := tankEvent_conditions reports
  rw [tankEvent_tank, judgedWrite_tank, ← settingWritten_working, ← tank, ← notice] at high fail
  exact ⟨high, fail⟩

end Written

/-! ### The working values written (R136, R137) -/

theorem Settings.byte_eq_of_nat_eq {w w' : Settings} {off : Nat} (h : w.nat off = w'.nat off) :
    w.byte off = w'.byte off :=
  BitVec.eq_of_toNat_eq h

theorem Settings.byte_ne_of_nat_ne {w w' : Settings} {off : Nat} (h : w.nat off ≠ w'.nat off) :
    w.byte off ≠ w'.byte off :=
  fun same => h (congrArg BitVec.toNat same)

/-- R136: a choice between 0 and 1 is set by any byte but 0. -/
theorem settingWritten_flag (off v : Byte) (s : State) (hoff : off.toNat < 64) (kind : settingKind off.toNat = .choice 1)
    (hlen : s.path.working.bytes.length = 64) (hraw : s.path.raw.length = 64) :
    (settingWritten off v s).path.working.flag off.toNat = decide (v ≠ 0#8) := by
  obtain ⟨path, -⟩ := settingWritten_spec off v s
  have formed := s.path.written_byte_of_mem off.toNat off.toNat v (settingClamp off.toNat v s) hlen hoff
    (mem_settingGroup_self _)
  have raw : rawNat (s.path.raw.set off.toNat v) off.toNat = v.toNat := by
    rw [rawNat, getD_set, if_pos ⟨rfl, hraw ▸ hoff⟩]
  have choice : workingByte (s.path.raw.set off.toNat v) off.toNat = BitVec.ofNat 8 (min 1 v.toNat) := by
    simp only [workingByte, kind, raw]
  have zero : v = 0#8 ↔ v.toNat = 0 := ⟨fun h => by simp [h], fun h => BitVec.eq_of_toNat_eq h⟩
  have least : min 1 v.toNat % 256 = min 1 v.toNat := Nat.mod_eq_of_lt (by omega)
  rw [Settings.flag, Settings.nat, path, formed, choice]
  simp only [BitVec.toNat_ofNat, Nat.reducePow, least, ne_eq, zero, decide_eq_decide]
  omega

/-- R137: a write of another setting leaves the capacity as it is. -/
theorem settingWritten_capacity (off v : Byte) (s : State) (other : 0x24 ∉ settingGroup off.toNat) :
    (settingWritten off v s).path.working.capacity = s.path.working.capacity := by
  obtain ⟨path, -⟩ := settingWritten_spec off v s
  rw [Settings.capacity, Settings.nat, path, s.path.written_byte_of_notMem _ _ _ _ other]
  rfl

/-! ### The five writes (R103, R105) -/

variable {v : Byte} {s : State} {ms : Nat}

theorem capacityWritten_estimate (v : Byte) (s : State) : (settingWritten 0x24#8 v s).tank.estimate = s.tank.estimate := by
  by_cases same : (settingWritten 0x24#8 v s).path.working.byte 0x24 = s.path.working.byte 0x24
  · rw [settingWritten_tank_of_same rfl (fun _ _ => rfl) same]
  · rw [(settingWritten_tankEvent rfl (fun _ _ => rfl) same).1]
    exact TankBlock.EstimateEvent.after_estimate (.inr rfl)

/-- R105: a changed capacity is judged against the estimate that stands. -/
theorem capacityWritten_marks
    (changed : (settingWritten 0x24#8 v s).path.working.capacity ≠ s.path.working.capacity) :
    (settingWritten 0x24#8 v s).tank.oncePerFill = (s.tank.oncePerFill
        || decide ((settingWritten 0x24#8 v s).path.working.capacity * 150 ≤ s.tank.estimate))
      ∧ (settingWritten 0x24#8 v s).tank.estFull = (s.tank.estFull
        || decide ((settingWritten 0x24#8 v s).path.working.capacity * 200 ≤ s.tank.estimate)) := by
  have judges : s.tank.EstimateEvent (settingWritten 0x24#8 v s).path.working (.setting 0x24) := .inr rfl
  obtain ⟨once, full⟩ := judges.after_marks
  rw [judges.after_estimate] at once full
  rw [(settingWritten_tankEvent rfl (fun _ _ => rfl) (Settings.byte_ne_of_nat_ne changed)).1]
  exact ⟨once, full⟩

/-- R103: a write of max run under a stopwatch in operation: a pump that has reached it ends its on-time. -/
theorem maxRunWritten (time : s.tank.onTime = some ms) (busy : s.tank.pump ≠ .idle)
    (changed : (settingWritten 0x26#8 v s).path.working.pumpMaxRun ≠ s.path.working.pumpMaxRun) :
    (settingWritten 0x26#8 v s).tank = s.tank.after (settingWritten 0x26#8 v s).path.working (.setting 0x26)
      ∧ ((settingWritten 0x26#8 v s).path.working.pumpMaxRun * 1000 ≤ ms →
        s.tank.moved (settingWritten 0x26#8 v s).path.working (.setting 0x26)
          = s.tank.endOnTime.start (settingWritten 0x26#8 v s).path.working)
      ∧ (ms < (settingWritten 0x26#8 v s).path.working.pumpMaxRun * 1000 →
        s.tank.judged (settingWritten 0x26#8 v s).path.working (.setting 0x26) = s.tank) :=
  ⟨(settingWritten_tankEvent rfl (fun _ _ => rfl) (Settings.byte_ne_of_nat_ne changed)).1,
    TankBlock.judged_of_span TankBlock.moved_of_maxRun time busy (by simp)⟩

/-- R103: a write of after-run under its stopwatch: a pump that has reached it completes. -/
theorem afterRunWritten (time : s.tank.afterRun = some ms) (busy : s.tank.pump ≠ .idle)
    (changed : (settingWritten 0x27#8 v s).path.working.pumpAfterRun ≠ s.path.working.pumpAfterRun) :
    (settingWritten 0x27#8 v s).tank = s.tank.after (settingWritten 0x27#8 v s).path.working (.setting 0x27)
      ∧ ((settingWritten 0x27#8 v s).path.working.pumpAfterRun * 1000 ≤ ms →
        s.tank.moved (settingWritten 0x27#8 v s).path.working (.setting 0x27)
          = s.tank.endAfterRun.start (settingWritten 0x27#8 v s).path.working)
      ∧ (ms < (settingWritten 0x27#8 v s).path.working.pumpAfterRun * 1000 →
        s.tank.judged (settingWritten 0x27#8 v s).path.working (.setting 0x27) = s.tank) :=
  ⟨(settingWritten_tankEvent rfl (fun _ _ => rfl) (Settings.byte_ne_of_nat_ne changed)).1,
    TankBlock.judged_of_span TankBlock.moved_of_afterRun time busy (by simp)⟩

/-- R103: a changed fitting of the pump, with the conditions it leaves. -/
theorem fittedWritten (settled : s.tank.present.isSome = true)
    (changed : (settingWritten 0x23#8 v s).path.working.pumpFitted ≠ s.path.working.pumpFitted) :
    (settingWritten 0x23#8 v s).tank = s.tank.after (settingWritten 0x23#8 v s).path.working (.setting 0x23)
      ∧ hasFlag (settingWritten 0x23#8 v s).notice.conditions .tankHigh
        = (settingWritten 0x23#8 v s).tank.tankHigh (settingWritten 0x23#8 v s).path.working
      ∧ hasFlag (settingWritten 0x23#8 v s).notice.conditions .pumpFail
        = decide ((settingWritten 0x23#8 v s).tank.pump = .failed) := by
  have byte : (settingWritten 0x23#8 v s).path.working.byte 0x23 ≠ s.path.working.byte 0x23 :=
    fun same => changed (congrArg (fun b : Byte => decide (b.toNat ≠ 0)) same)
  exact ⟨(settingWritten_tankEvent rfl (fun _ _ => rfl) byte).1,
    settingWritten_conditions rfl (fun _ _ => rfl) byte settled⟩

/-! ### The statement -/

/-- Settles O35: by the block's own move for each event, and by where the estimate it leaves is not judged. -/
theorem pumpFollowsFloatsAndTimers : Obligations.PumpFollowsFloatsAndTimers := by
  refine ⟨fun s timer present capacity => ?onTime, fun s pump timer capacity high full => ?afterRun,
    fun s settled => ?removal, fun s absent capacity idle => ?reinsertion, fun s full => ?high,
    fun s idle => ?idle, fun s high => ?full, fun e s run span capacity lowered => ?atOnce,
    fun v s ⟨hs, _⟩ => ?capacityWrite, fun v s ⟨hs, _⟩ run => ?maxRunWrite,
    fun v s ⟨hs, _⟩ pump high full capacity => ⟨?maxRunAfter, ?afterRunWrite⟩,
    fun v s ⟨hs, hraw, hlen⟩ settled => ?fittedWrite⟩
  case onTime =>
    refine ⟨_, exec_onTimeEnd timer, fun run => ?_, fun after => ?_, by simp, by simp [onlyBlocks]⟩
    · obtain ⟨tank, fail⟩ := onTimeEnd_of_running run present
      rw [fail, State.pumpPin_eq, tank]
      exact ⟨rfl, rfl, rfl, rfl, rfl, rfl, rfl⟩
    · obtain ⟨estimate, once, mark, cycles⟩ := s.tank.complete.start_counts s.path.working
      rw [tankEvent_judged, onTimeEnd_of_afterRun after capacity]
      exact ⟨cycles, estimate, once, mark⟩
  case afterRun =>
    refine ⟨_, exec_afterRunExpiry timer, ?_⟩
    rw [State.pumpPin_eq, tankEvent_judged,
      afterRunEnd_of_afterRun pump capacity (s.tank.floatsUp_eq_false.2 ⟨high, full⟩)]
    exact ⟨rfl, rfl, rfl, rfl, rfl, rfl, rfl, rfl, by simp, by simp [onlyBlocks]⟩
  case removal =>
    obtain ⟨absent, -, fail⟩ := tankEvent_conditions (e := .present false) (s := s) (.inl settled)
    rw [fail, absent, State.pumpPin_eq, tankEvent_judged, TankBlock.judged_of_removed]
    exact ⟨rfl, rfl, rfl, rfl, rfl, rfl, rfl, rfl, rfl, removed_compPin settled⟩
  case reinsertion =>
    obtain ⟨estimate, once, mark, -⟩ := s.tank.reinserted.start_counts s.path.working
    obtain ⟨starts, stays⟩ := reinserted_start s.path.working idle
    rw [State.pumpPin_eq, tankEvent_judged, TankBlock.judged_of_reinserted absent capacity]
    refine ⟨estimate, mark, once, fun fitted up => ?_, fun unmoved => ?_⟩
    · rw [starts fitted (s.tank.floatsUp_eq_true.2 up)]
      exact ⟨rfl, rfl, rfl⟩
    · rw [stays (unmoved.imp_right s.tank.floatsUp_eq_false.2)]
      exact idle
  case high =>
    exact ⟨float_lowered (.high false) (.inl ⟨rfl, full⟩), float_raised (.high true) (.inl rfl)⟩
  case idle =>
    refine ⟨fun fitted present => ?_, fun up barred => ⟨float_barred (.high up) idle barred,
      float_barred (.full up) idle barred⟩, fun clear =>
        ⟨fun full => float_unasked (.high false) idle (.inl ⟨rfl, full⟩) clear,
          fun high => float_unasked (.full false) idle (.inr ⟨rfl, high⟩) clear⟩⟩
    obtain ⟨pump, onTime, pin⟩ := float_starts (.high true) idle (.inl rfl) fitted present
    exact ⟨pump, onTime, pin, float_starts (.full true) idle (.inr rfl) fitted present⟩
  case full =>
    exact ⟨float_lowered (.full false) (.inr ⟨rfl, high⟩), float_raised (.full true) (.inr rfl)⟩
  case atOnce =>
    have float : e.OfFloat := lowered.imp (fun h => ⟨false, h.1⟩) fun h => ⟨false, h.1⟩
    obtain ⟨-, -, -, -, -, cycles⟩ := TankBlock.own_of_float (t := s.tank) (w := s.path.working) float
    rw [State.pumpPin_eq, tankEvent_judged,
      TankBlock.judged_of_lowered_at_once float (TankBlock.floatsUp_of_lowered lowered) run span capacity, ← cycles]
    exact ⟨rfl, rfl, rfl, rfl, rfl, rfl, rfl, rfl⟩
  case capacityWrite =>
    refine ⟨_, exec_settingWrite_written 0x24#8 v s hs (by decide) (by decide) (by decide), capacityWritten_estimate v s,
      fun same => settingWritten_tank_of_same rfl (fun _ _ => rfl) (Settings.byte_eq_of_nat_eq same), fun changed => ?_⟩
    obtain ⟨once, full⟩ := capacityWritten_marks changed
    exact ⟨by simp [once], by simp [full]⟩
  case maxRunWrite =>
    refine ⟨_, exec_settingWrite_written 0x26#8 v s hs (by decide) (by decide) (by decide), fun ms time changed => ?_,
      fun same => settingWritten_tank_of_same rfl (fun _ _ => rfl) (Settings.byte_eq_of_nat_eq same)⟩
    obtain ⟨tank, ends, stands⟩ := maxRunWritten time (by simp [run]) changed
    rw [State.pumpPin_eq, tank, TankBlock.after]
    refine ⟨fun past => ?_, fun within => ?_⟩
    · rw [TankBlock.judged_of_failed (ends past) (by simp) run]
      exact ⟨rfl, rfl, rfl⟩
    · rw [stands within]
      exact ⟨run, time⟩
  case maxRunAfter =>
    have capacity' := (settingWritten_capacity 0x26#8 v s (by decide)).symm ▸ capacity
    refine ⟨_, exec_settingWrite_written 0x26#8 v s hs (by decide) (by decide) (by decide), fun ms time changed => ?_,
      fun same => settingWritten_tank_of_same rfl (fun _ _ => rfl) (Settings.byte_eq_of_nat_eq same)⟩
    obtain ⟨tank, ends, stands⟩ := maxRunWritten time (by simp [pump]) changed
    rw [TankBlock.endOnTime_of_afterRun pump] at ends
    rw [tank, TankBlock.after]
    refine ⟨fun past => ?_, fun within => ?_⟩
    · rw [TankBlock.judged_of_complete capacity' (ends past),
        TankBlock.complete_start (s.tank.floatsUp_eq_false.2 ⟨high, full⟩)]
      exact ⟨rfl, rfl, rfl⟩
    · rw [stands within]
      exact ⟨pump, rfl⟩
  case afterRunWrite =>
    have capacity' := (settingWritten_capacity 0x27#8 v s (by decide)).symm ▸ capacity
    refine ⟨_, exec_settingWrite_written 0x27#8 v s hs (by decide) (by decide) (by decide), fun ms time changed => ?_,
      fun same => settingWritten_tank_of_same rfl (fun _ _ => rfl) (Settings.byte_eq_of_nat_eq same)⟩
    obtain ⟨tank, ends, stands⟩ := afterRunWritten time (by simp [pump]) changed
    rw [TankBlock.endAfterRun_of_afterRun pump] at ends
    rw [tank, TankBlock.after]
    refine ⟨fun past => ?_, fun within => ?_⟩
    · rw [TankBlock.judged_of_complete capacity' (ends past),
        TankBlock.complete_start (s.tank.floatsUp_eq_false.2 ⟨high, full⟩)]
      exact ⟨rfl, rfl, rfl, rfl⟩
    · rw [stands within]
      exact ⟨pump, time, rfl⟩
  case fittedWrite =>
    have working : (settingWritten 0x23#8 v s).path.working.pumpFitted = decide (v ≠ 0#8) :=
      settingWritten_flag 0x23#8 v s (by decide) rfl hlen hraw
    refine ⟨_, exec_settingWrite_written 0x23#8 v s hs (by decide) (by decide) (by decide), fun fitted zero => ?_,
      fun absent set => ?_⟩
    · have unfitted : (settingWritten 0x23#8 v s).path.working.pumpFitted = false := by
        rw [working, zero]
        rfl
      obtain ⟨tank, highFlag, fail⟩ := fittedWritten (v := v) settled (by rw [unfitted, fitted]; decide)
      obtain ⟨pump, cycles, estimate⟩ := TankBlock.judged_of_unfitted (t := s.tank) unfitted
      have idle : (settingWritten 0x23#8 v s).tank.pump = .idle := by rw [tank]; exact pump
      refine ⟨idle, by simp [State.pumpPin, idle], by rw [tank]; exact cycles, by rw [tank]; exact estimate, ?_, ?_⟩
      · rw [fail, idle]
        rfl
      · simp [highFlag, TankBlock.tankHigh, unfitted]
    · have fitted : (settingWritten 0x23#8 v s).path.working.pumpFitted = true := by
        rw [working, decide_eq_true set]
      have unfitted : s.path.working.pumpFitted = false := by simp [Settings.pumpFitted, Settings.flag, absent]
      obtain ⟨tank, highFlag, -⟩ := fittedWritten (v := v) settled (by rw [unfitted, fitted]; decide)
      refine ⟨by simp [highFlag, TankBlock.tankHigh, fitted], fun present idle asks => ?_⟩
      have asked : s.tank.asksPump = true := by simpa [TankBlock.asksPump, raised, or_assoc] using asks
      rw [State.pumpPin_eq, tank, TankBlock.after, TankBlock.judged_of_fitted fitted,
        TankBlock.start_of_ready _ _ idle fitted present asked]
      exact ⟨rfl, rfl, rfl⟩

end Sys2Proof.Machine
end

section
/-! SUPPORT. The 24 flags bit by bit (R109 to R117): the two classes, the line's level term, and what a report, an occurrence,
a clearing and a summary read make of the latched flags and of the conditions they stand for. -/

namespace Sys2Proof.Machine

/-! ### The two classes of flags -/

theorem pulseClass_bit (i : Nat) : pulseClass.getLsbD i = decide (i < 12) := by
  by_cases place : i < 24
  · revert place
    revert i
    decide
  · rw [BitVec.getLsbD_of_ge _ _ (by omega)]
    exact (decide_eq_false (by omega)).symm

theorem levelClass_bit (i : Nat) : levelClass.getLsbD i = (decide (12 ≤ i) && decide (i < 24)) := by
  by_cases place : i < 24
  · revert place
    revert i
    decide
  · rw [BitVec.getLsbD_of_ge _ _ (by omega)]
    simp [place]

theorem Flag.bit_getLsbD (f : Flag) (i : Nat) : f.bit.getLsbD i = decide (i = f.number - 1) := by
  have place := f.number_sub_one_lt
  by_cases same : i = f.number - 1
  · simp [Flag.bit, same, place]
  · simp only [Flag.bit, BitVec.getLsbD_shiftLeft, BitVec.getLsbD_one, same, decide_false, Bool.and_eq_false_iff,
      decide_eq_false_iff_not, Bool.not_eq_false', decide_eq_true_eq]
    omega

namespace NoticeUnit

variable {n m : NoticeUnit}

/-- R114: the level term, flag by flag. -/
theorem levelTerm_iff (n : NoticeUnit) (masks : BitVec 24) :
    n.levelTerm masks = true
      ↔ ∃ i, 12 ≤ i ∧ i < 24 ∧ n.latched.getLsbD i = true ∧ masks.getLsbD i = false := by
  have term (i : Nat) : (n.latched &&& ~~~masks &&& levelClass).getLsbD i = true
      ↔ 12 ≤ i ∧ i < 24 ∧ n.latched.getLsbD i = true ∧ masks.getLsbD i = false := by
    simp only [BitVec.getLsbD_and, BitVec.getLsbD_not, levelClass_bit, Bool.and_eq_true, decide_eq_true_eq,
      Bool.not_eq_true']
    tauto
  rw [levelTerm, decide_eq_true_eq]
  constructor
  · intro nonzero
    by_contra none
    push Not at none
    refine nonzero (BitVec.eq_of_getLsbD_eq fun i _ => ?_)
    rw [BitVec.ofNat_eq_ofNat, BitVec.getLsbD_zero, Bool.eq_false_iff, Ne, term]
    rintro ⟨low, high, latched, unmasked⟩
    exact none i low high latched unmasked
  · rintro ⟨i, named⟩ zero
    have set := (term i).2 named
    simp [zero] at set

/-- R114, R115: the line, by the hold of R109, the pulse and the level-class flags. -/
theorem line_iff (n : NoticeUnit) (masks : BitVec 24) :
    n.line masks = true ↔ n.held = false ∧ (n.pulseTimer.isSome = true
      ∨ ∃ i, 12 ≤ i ∧ i < 24 ∧ n.latched.getLsbD i = true ∧ masks.getLsbD i = false) := by
  rw [← levelTerm_iff]
  simp only [line, Bool.and_eq_true, Bool.or_eq_true, Bool.not_eq_true']
  tauto

/-! ### Present conditions and latched flags (R110, R111, R113, R117) -/

/-- R110, R111, R113: each present condition belongs to a level-class flag, which is latched. -/
theorem latchesPresent_iff :
    n.latchesPresent ↔ ∀ i, n.conditions.getLsbD i = true → 12 ≤ i ∧ n.latched.getLsbD i = true := by
  constructor
  · rintro ⟨levelOnly, latched⟩ i present
    have pulse := congrArg (BitVec.getLsbD · i) levelOnly
    have clear := congrArg (BitVec.getLsbD · i) latched
    have place := BitVec.lt_of_getLsbD present
    simp only [BitVec.getLsbD_and, BitVec.getLsbD_not, present, place, pulseClass_bit, BitVec.ofNat_eq_ofNat,
      BitVec.getLsbD_zero, decide_true, Bool.true_and, Bool.not_eq_false', decide_eq_false_iff_not, not_lt] at pulse clear
    exact ⟨pulse, clear⟩
  · intro each
    refine ⟨BitVec.eq_of_getLsbD_eq fun i _ => ?_, BitVec.eq_of_getLsbD_eq fun i _ => ?_⟩
    · cases present : n.conditions.getLsbD i
      · simp [present]
      · have level := (each i present).1
        simp [pulseClass_bit, Nat.not_lt.2 level]
    · cases present : n.conditions.getLsbD i
      · simp [present]
      · simp [(each i present).2]

/-- The invariant reads the conditions and the latched flags alone. -/
theorem latchesPresent.congr (h : n.latchesPresent) (conditions : m.conditions = n.conditions)
    (latched : m.latched = n.latched) : m.latchesPresent := by
  rw [latchesPresent, conditions, latched]
  exact h

/-- R111: an occurrence only latches. -/
theorem latchesPresent.occur (h : n.latchesPresent) (masks : BitVec 24) (f : Flag) :
    (n.occur masks f).latchesPresent := by
  rw [latchesPresent_iff] at h ⊢
  intro i present
  obtain ⟨level, latched⟩ := h i present
  exact ⟨level, by simp [NoticeUnit.occur, latched]⟩

/-- R110, R111: a level-class condition latches its flag as it becomes present. -/
theorem latchesPresent.condition (h : n.latchesPresent) (f : Flag) (b : Bool) (level : 12 < f.number) :
    (n.condition f b).latchesPresent := by
  unfold NoticeUnit.condition
  split
  · split
    · exact h
    · rw [latchesPresent_iff] at h ⊢
      intro i present
      simp only [BitVec.getLsbD_or, f.bit_getLsbD, Bool.or_eq_true, decide_eq_true_eq] at present ⊢
      obtain present | own := present
      · obtain ⟨place, latched⟩ := h i present
        exact ⟨place, .inl latched⟩
      · exact ⟨by omega, .inr own⟩
  · rw [latchesPresent_iff] at h ⊢
    intro i present
    simp only [BitVec.getLsbD_and, Bool.and_eq_true] at present
    exact h i present.1

/-- R113: what a clearing leaves of each flag. -/
theorem clear_latched (n : NoticeUnit) (named : BitVec 24) (i : Nat) :
    (n.clear named).latched.getLsbD i
      = (n.latched.getLsbD i && !(named.getLsbD i && (decide (i < 12) || !n.conditions.getLsbD i))) := by
  by_cases place : i < 24
  · simp only [NoticeUnit.clear, BitVec.getLsbD_and, BitVec.getLsbD_not, BitVec.getLsbD_or, pulseClass_bit, place,
      decide_true, Bool.true_and]
  · simp [BitVec.getLsbD_of_ge _ i (Nat.not_lt.1 place)]

theorem latchesPresent.clear (h : n.latchesPresent) (named : BitVec 24) : (n.clear named).latchesPresent := by
  rw [latchesPresent_iff] at h ⊢
  intro i present
  obtain ⟨level, latched⟩ := h i present
  have held : n.conditions.getLsbD i = true := present
  exact ⟨level, by simp [clear_latched, latched, held, Nat.not_lt.2 level]⟩

/-- R116, R117: what a summary read leaves of each flag. -/
theorem afterSummary_latched (n : NoticeUnit) (masks : BitVec 24) (autoClear : Bool) (i : Nat) :
    (n.afterSummary masks autoClear).latched.getLsbD i
      = (n.latched.getLsbD i && !(autoClear && decide (n.summary masks ≤ 12) && decide (i + 1 = n.summary masks))) := by
  have bit (k : Nat) (positive : 1 ≤ k) (pulse : k ≤ 12) :
      (1#24 <<< (k - 1)).getLsbD i = decide (i + 1 = k) := by
    by_cases same : i + 1 = k
    · obtain rfl : k - 1 = i := by omega
      simp [same, show k - 1 < 24 by omega]
    · simp only [BitVec.getLsbD_shiftLeft, BitVec.getLsbD_one, same, decide_false, Bool.and_eq_false_iff,
        decide_eq_false_iff_not, Bool.not_eq_false', decide_eq_true_eq]
      omega
  simp only [afterSummary]
  split
  case isTrue cleared =>
    simp only [Bool.and_eq_true, decide_eq_true_eq] at cleared
    obtain ⟨⟨auto, positive⟩, pulse⟩ := cleared
    by_cases place : i < 24
    · simp only [BitVec.getLsbD_and, BitVec.getLsbD_not, bit _ positive pulse, place, auto, pulse, decide_true,
        Bool.true_and]
    · simp [BitVec.getLsbD_of_ge _ i (Nat.not_lt.1 place)]
  case isFalse kept =>
    simp only [Bool.and_eq_true, decide_eq_true_eq, not_and, not_le] at kept
    cases latched : n.latched.getLsbD i
    · rfl
    · simp only [Bool.true_and, Bool.true_eq, Bool.not_eq_true', Bool.and_eq_false_iff, decide_eq_false_iff_not]
      by_cases auto : autoClear = true
      · by_cases same : i + 1 = n.summary masks
        · exact .inl (.inr (Nat.not_le.2 (kept ⟨auto, by omega⟩)))
        · exact .inr same
      · exact .inl (.inl (by simpa using auto))

@[simp] theorem afterSummary_keeps (n : NoticeUnit) (masks : BitVec 24) (autoClear : Bool) :
    (n.afterSummary masks autoClear).conditions = n.conditions
      ∧ (n.afterSummary masks autoClear).pulseTimer = n.pulseTimer
      ∧ (n.afterSummary masks autoClear).held = n.held := by
  simp only [afterSummary]
  split <;> exact ⟨rfl, rfl, rfl⟩

/-- R117: a summary read clears no level-class flag. -/
theorem afterSummary_latched_level (n : NoticeUnit) (masks : BitVec 24) (autoClear : Bool) {i : Nat} (level : 12 ≤ i) :
    (n.afterSummary masks autoClear).latched.getLsbD i = n.latched.getLsbD i := by
  rw [afterSummary_latched]
  by_cases same : i + 1 = n.summary masks
  · simp [show ¬ n.summary masks ≤ 12 by omega]
  · simp [same]

theorem latchesPresent.afterSummary (h : n.latchesPresent) (masks : BitVec 24) (autoClear : Bool) :
    (n.afterSummary masks autoClear).latchesPresent := by
  rw [latchesPresent_iff] at h ⊢
  intro i present
  obtain ⟨level, latched⟩ := h i (by simpa using present)
  exact ⟨level, by rw [n.afterSummary_latched_level masks autoClear level, latched]⟩

end NoticeUnit

end Sys2Proof.Machine
end

section
/-! SUPPORT. The lamp engine's own operations (R119 to R123): a lamp that begins a pattern, the selection of both lamps, and
what the selection reads. -/

namespace Sys2Proof.Machine

/-! ### One lamp (R121 to R123) -/

namespace LampState

variable (l : LampState) (level : Nat) (p : Pattern)

/-- R121, R123: a lamp as a new pattern begins, in its first phase. -/
def begun : LampState :=
  { pattern := p, phase := p.firstPhase, elapsed := 0, intensity := phaseIntensity level 0 p.firstPhase
    timer := if p.timed then startTimer 10 else none }

theorem apply_eq : l.apply level p = if p = l.pattern then l else begun level p := rfl

theorem apply_self : l.apply level l.pattern = l := if_pos rfl

@[simp] theorem apply_pattern : (l.apply level p).pattern = p := by
  rw [apply_eq]
  split
  case isTrue same => exact same.symm
  case isFalse => rfl

@[simp] theorem expiry_pattern : (l.expiry level).pattern = l.pattern := by
  unfold expiry
  split <;> rfl

/-- R123: a write of the level is the intensity of a lamp in phase ON or HIGH alone. -/
theorem newLevel_eq : l.newLevel level
    = { l with intensity := if l.phase = .on ∨ l.phase = .high then level else l.intensity } := by
  unfold newLevel
  split <;> rfl

@[simp] theorem newLevel_pattern : (l.newLevel level).pattern = l.pattern := by
  rw [newLevel_eq]

/-- A lamp that begins a pattern at the level in force has that level already. -/
@[simp] theorem begun_newLevel : (begun level p).newLevel level = begun level p := by
  cases p <;> rfl

/-- R121: the first phase of each pattern, with its intensity and its timer. -/
theorem begun_spec :
    (begun level p).elapsed = 0
      ∧ (p = .off → (begun level p).phase = .off ∧ (begun level p).intensity = 0 ∧ (begun level p).timer = none)
      ∧ (p = .on → (begun level p).phase = .on ∧ (begun level p).intensity = level ∧ (begun level p).timer = none)
      ∧ (p = .blink ∨ p = .fastBlink →
        (begun level p).phase = .on ∧ (begun level p).intensity = level ∧ (begun level p).timer = startTimer 10)
      ∧ (p = .breathe →
        (begun level p).phase = .rise ∧ (begun level p).intensity = 0 ∧ (begun level p).timer = startTimer 10) := by
  refine ⟨rfl, ?off, ?on, ?blinks, ?breathe⟩
  case off => rintro rfl; exact ⟨rfl, rfl, rfl⟩
  case on => rintro rfl; exact ⟨rfl, rfl, rfl⟩
  case blinks => rintro (rfl | rfl) <;> exact ⟨rfl, rfl, rfl⟩
  case breathe => rintro rfl; exact ⟨rfl, by simp [begun, Pattern.firstPhase, phaseIntensity], rfl⟩

end LampState

/-! ### The two lamps and their sources (R119) -/

/-- The lamp of a channel. -/
def LampEngine.lamp (e : LampEngine) : Lamp → LampState
  | .filter => e.filter
  | .tank => e.tank

/-- The engine with other lamps: the copies of its neighbours stand. -/
def LampEngine.withLamps (e : LampEngine) (filter tank : LampState) : LampEngine :=
  { e with filter := filter, tank := tank }

/-- The selection reads the copies and the settings, not the lamps. -/
@[simp] theorem LampEngine.withLamps_selected (e : LampEngine) (filter tank : LampState) (w : Settings) (l : Lamp) :
    (e.withLamps filter tank).selected w l = e.selected w l := by
  cases l <;> rfl

theorem LampEngine.select_eq (e : LampEngine) (w : Settings) :
    e.select w = e.withLamps (e.filter.apply w.lampLevel (e.selected w .filter))
      (e.tank.apply w.lampLevel (e.selected w .tank)) := rfl

theorem LampEngine.select_lamp (e : LampEngine) (w : Settings) (l : Lamp) :
    (e.select w).lamp l = (e.lamp l).apply w.lampLevel (e.selected w l) := by
  cases l <;> rfl

/-- The settings of the lamps' sources and patterns (offsets 0x34 to 0x37) stand. -/
def Settings.SameSources (w w' : Settings) : Prop := ∀ off, 0x34 ≤ off → off ≤ 0x37 → w'.byte off = w.byte off

theorem Settings.flag_nat_congr {w w' : Settings} {off : Nat} (h : w'.byte off = w.byte off) :
    w'.flag off = w.flag off ∧ w'.nat off = w.nat off := by
  unfold Settings.flag Settings.nat
  rw [h]
  exact ⟨rfl, rfl⟩

theorem Settings.SameSources.selected {w w' : Settings} (h : w.SameSources w') (e : LampEngine) (l : Lamp) :
    e.selected w' l = e.selected w l := by
  have filterSource := (Settings.flag_nat_congr (h 0x34 (by decide) (by decide))).1
  have tankSource := (Settings.flag_nat_congr (h 0x35 (by decide) (by decide))).1
  have filterPattern := (Settings.flag_nat_congr (h 0x36 (by decide) (by decide))).2
  have tankPattern := (Settings.flag_nat_congr (h 0x37 (by decide) (by decide))).2
  cases l with
  | filter =>
    rw [LampEngine.selected, Settings.filterLampControlled, Settings.filterLampPattern, filterSource, filterPattern]
    rfl
  | tank =>
    rw [LampEngine.selected, Settings.tankLampControlled, Settings.tankLampPattern, tankSource, tankPattern]
    rfl

/-- A setting written at another offset leaves the lamps' sources as they are. -/
theorem takeSetting_sameSources (p : MemoryPath) {off : Nat} (v : Byte) (other : off < 0x34 ∨ 0x37 < off) :
    p.working.SameSources (p.takeSetting off v).working := by
  intro m low high
  refine (takeSetting_byte p off m v).trans (if_neg fun written => ?_)
  have member := written.1
  unfold settingGroup at member
  split_ifs at member <;> simp at member <;> omega

theorem State.lampsSelected_iff (s : State) : s.lampsSelected
    ↔ (s.phase = .running → ∀ l, (s.lamps.lamp l).pattern = s.lamps.selected s.path.working l) := by
  refine forall_congr' fun _ => ⟨fun ⟨filter, tank⟩ l => ?_, fun both => ⟨both .filter, both .tank⟩⟩
  cases l with
  | filter => exact filter
  | tank => exact tank

end Sys2Proof.Machine
end

section
/-! SUPPORT. What an event leaves of the present conditions and of the lamps' patterns (R110 to R113, R119 to R121): one
relation from the state before the event, kept by each report and by each rule that follows it. -/

namespace Sys2Proof.Machine

/-- What the relation below reads of a state. -/
def State.signals (s : State) : BitVec 24 × BitVec 24 × LampEngine × Settings × Phase :=
  (s.notice.conditions, s.notice.latched, s.lamps, s.path.working, s.phase)

/-- From `s` to `t` present conditions stay latched, the lamps stay at the patterns selected, and while the part runs a lamp
of another pattern stands at its beginning. -/
structure State.Noticed (s t : State) : Prop where
  present : s.notice.latchesPresent → t.notice.latchesPresent
  selected : s.lampsSelected → t.lampsSelected
  begun : s.phase = .running → t.phase = .running → ∀ l, (t.lamps.lamp l).pattern = (s.lamps.lamp l).pattern
    ∨ t.lamps.lamp l = .begun t.path.working.lampLevel (t.lamps.lamp l).pattern

namespace State.Noticed

variable {s t u : State}

/-! ### Changes of one block -/

theorem refl (s : State) : s.Noticed s := ⟨id, id, fun _ _ _ => .inl rfl⟩

/-- What moves none of the figures that the relation reads. -/
theorem stands (h : s.Noticed t) (same : u.signals = t.signals) : s.Noticed u := by
  simp only [State.signals, Prod.mk.injEq] at same
  obtain ⟨conditions, latched, lamps, working, phase⟩ := same
  obtain ⟨present, selected, begun⟩ := h
  refine ⟨fun hs => (present hs).congr conditions latched, fun hs => ?_, ?_⟩
  · rw [State.lampsSelected, phase, lamps, working]
    exact selected hs
  · rw [phase, lamps, working]
    exact begun

theorem ite {c : Prop} [Decidable c] (h : s.Noticed t) (k : s.Noticed u) : s.Noticed (if c then t else u) := by
  split
  · exact h
  · exact k

theorem setDry (h : s.Noticed t) (d : Drying) : s.Noticed (t.setDry d) := h.stands rfl
theorem setAir (h : s.Noticed t) (a : AirMover) : s.Noticed (t.setAir a) := h.stands rfl
theorem setCmd (h : s.Noticed t) (c : CommandBlock) : s.Noticed (t.setCmd c) := h.stands rfl
theorem setFilter (h : s.Noticed t) (f : FilterState) : s.Noticed (t.setFilter f) := h.stands rfl
theorem setFront (h : s.Noticed t) (f : FrontEnd) : s.Noticed (t.setFront f) := h.stands rfl
theorem setTank (h : s.Noticed t) (k : TankBlock) : s.Noticed (t.setTank k) := h.stands rfl
theorem setPins (h : s.Noticed t) (p : Pins) : s.Noticed (t.setPins p) := h.stands rfl
theorem setStore (h : s.Noticed t) (x : StoredImages) : s.Noticed (t.setStore x) := h.stands rfl
theorem markIf (h : s.Noticed t) (b : Bool) : s.Noticed (markIf b t) := .ite (h.setStore _) h

/-- A change of the notice unit that keeps present conditions latched. -/
theorem setNotice (h : s.Noticed t) {n : NoticeUnit} (hn : t.notice.latchesPresent → n.latchesPresent) :
    s.Noticed (t.setNotice n) := ⟨hn ∘ h.present, h.selected, h.begun⟩

theorem raise (h : s.Noticed t) (f : Flag) : s.Noticed (raise f t) := h.setNotice fun hn => hn.occur _ f

theorem setCondition (h : s.Noticed t) (f : Flag) (b : Bool) (level : 12 < f.number := by decide) :
    s.Noticed (setCondition f b t) := h.setNotice fun hn => hn.condition f b level

/-- R119: a selection made on lamps that stand as the relation asks, whatever their sources have become. -/
theorem reselected {g : LampEngine → LampEngine} (present : s.notice.latchesPresent → t.notice.latchesPresent)
    (begun : s.phase = .running → t.phase = .running → ∀ l, ((g t.lamps).lamp l).pattern = (s.lamps.lamp l).pattern
      ∨ (g t.lamps).lamp l = .begun t.path.working.lampLevel ((g t.lamps).lamp l).pattern) :
    s.Noticed (updateLamps g t) := by
  refine ⟨present, fun _ => (State.lampsSelected_iff _).2 fun _ l => ?_, fun hs ht l => ?_⟩
  · have selected : ((g t.lamps).select t.path.working).selected t.path.working l
        = (g t.lamps).selected t.path.working l := by rw [LampEngine.select_eq, LampEngine.withLamps_selected]
    simp only [Machine.updateLamps, State.setLamps_lamps, State.setLamps_path, LampEngine.select_lamp, selected,
      LampState.apply_pattern]
  · simp only [Machine.updateLamps, State.setLamps_lamps, State.setLamps_path, LampEngine.select_lamp,
      LampState.apply_eq]
    split
    case isTrue => exact begun hs ht l
    case isFalse => exact .inr rfl

theorem updateLamps (h : s.Noticed t) (g : LampEngine → LampEngine)
    (lamps : ∀ l, (g t.lamps).lamp l = t.lamps.lamp l := by intro l; cases l <;> rfl) :
    s.Noticed (updateLamps g t) :=
  .reselected h.present (by simpa only [lamps] using h.begun)

/-- R123: a lamp that has just begun a pattern has the level in force already. -/
theorem levelWritten (h : s.Noticed t) : s.Noticed (levelWritten t) := by
  have lamp (l : Lamp) : (Machine.levelWritten t).lamps.lamp l = (t.lamps.lamp l).newLevel t.path.working.lampLevel := by
    cases l <;> rfl
  have selected (l : Lamp) : (Machine.levelWritten t).lamps.selected t.path.working l
      = t.lamps.selected t.path.working l := by cases l <;> rfl
  refine ⟨h.present, fun hs => (State.lampsSelected_iff _).2 fun run l => ?_, fun hs ht l => ?_⟩
  · rw [lamp, LampState.newLevel_pattern]
    exact ((State.lampsSelected_iff t).1 (h.selected hs) run l).trans (selected l).symm
  · rw [lamp, LampState.newLevel_pattern]
    refine (h.begun hs ht l).imp id fun fresh => ?_
    exact (congrArg (LampState.newLevel · _) fresh).trans (LampState.begun_newLevel _ _)

/-- Lamps that keep their patterns. -/
theorem relit (s : State) {filter tank : LampState} (filterPattern : filter.pattern = s.lamps.filter.pattern)
    (tankPattern : tank.pattern = s.lamps.tank.pattern) : s.Noticed (s.setLamps (s.lamps.withLamps filter tank)) := by
  have pattern (l : Lamp) : ((s.lamps.withLamps filter tank).lamp l).pattern = (s.lamps.lamp l).pattern := by
    cases l with
    | filter => exact filterPattern
    | tank => exact tankPattern
  refine ⟨id, fun hs => (State.lampsSelected_iff _).2 fun run l => ?_, fun _ _ l => .inl (pattern l)⟩
  rw [State.setLamps_lamps, pattern, LampEngine.withLamps_selected]
  exact (State.lampsSelected_iff s).1 hs run l

/-- A part that does not run after the event. -/
theorem of_unready (present : s.notice.latchesPresent → t.notice.latchesPresent) (phase : t.phase ≠ .running) :
    s.Noticed t :=
  ⟨present, fun _ run => absurd run phase, fun _ run => absurd run phase⟩

/-! ### The sweep's points and drying's rules -/

theorem reportProgress (h : s.Noticed t) (p : Nat) : s.Noticed (reportProgress p t) := (h.setCmd _).updateLamps _

theorem measurePoint (h : s.Noticed t) (i : Nat) : s.Noticed (measurePoint i t) := (h.setAir _).reportProgress _

theorem leaveWaiting (h : s.Noticed t) : s.Noticed (leaveWaiting t) := .ite (h.measurePoint 0) h

theorem setComp (h : s.Noticed t) (c : CompState) : s.Noticed (setComp c t) := ((h.setDry _).setAir _).leaveWaiting

theorem judgeHold (h : s.Noticed t) : s.Noticed (judgeHold t) := by
  unfold Machine.judgeHold
  split
  · exact .ite (h.setComp _) h
  · exact .ite (h.setComp _) h
  · exact .ite ((h.setDry _).setComp _) h
  all_goals exact h

theorem judgeStart (h : s.Noticed t) : s.Noticed (judgeStart t) := by
  unfold Machine.judgeStart
  split
  · exact .ite ((h.setDry _).setComp _) h
  · exact .ite h ((h.setDry _).setComp _)
  all_goals exact h

theorem stopCompressor (h : s.Noticed t) : s.Noticed (stopCompressor t) := ((h.setDry _).setComp _).judgeHold
theorem immediateStop (h : s.Noticed t) : s.Noticed (immediateStop t) := .ite h.stopCompressor h

theorem judgeDrying (h : s.Noticed t) : s.Noticed (judgeDrying t) :=
  (judgeHold (.ite h.stopCompressor h)).judgeStart

theorem evaluateDemand (h : s.Noticed t) : s.Noticed (evaluateDemand t) := h.setDry _

/-! ### Conditions, all-stop and the sweep -/

theorem setAllStop (h : s.Noticed t) (on : Bool) : s.Noticed (setAllStop on t) := by
  have told : s.Noticed (allStopTold on t) := ((h.setCmd _).setAir _).setDry _
  exact judgeDrying (.ite told.immediateStop told)

theorem judgeAllStop (h : s.Noticed t) : s.Noticed (judgeAllStop t) := .ite (h.setAllStop true) h

theorem reportCondition (h : s.Noticed t) (f : Flag) (b : Bool) (level : 12 < f.number := by decide) :
    s.Noticed (reportCondition f b t) := (h.setCondition f b level).judgeAllStop

theorem reportChange (h : s.Noticed t) (f : Flag) (b : Bool) (level : 12 < f.number := by decide) :
    s.Noticed (reportChange f b t) := .ite h (h.reportCondition f b level)

theorem requestJob (h : s.Noticed t) (j : Job) : s.Noticed (requestJob j t) := h.setStore _

theorem tellLearnPending (h : s.Noticed t) (b : Bool) : s.Noticed (tellLearnPending b t) := (h.setDry _).judgeDrying

theorem startSweep (h : s.Noticed t) : s.Noticed (startSweep t) := by
  have asked : s.Noticed (sweepAsked t) := (h.setAir _).tellLearnPending true
  exact .ite ((asked.setAir _).reportProgress 1) (asked.measurePoint 0)

theorem abandonSweep (h : s.Noticed t) : s.Noticed (abandonSweep t) :=
  .ite h ((((h.setAir _).reportProgress 11).tellLearnPending false).raise _)

/-! ### Filter accounting -/

theorem reportRise (h : s.Noticed t) (stage : Stage) : s.Noticed (reportRise stage t) := by
  have marked : s.Noticed (markChanged t) := h.setStore _
  have told := marked.updateLamps fun e => { e with stage := stage }
  cases stage with
  | good => exact told
  | worn => exact told.raise _
  | exhausted => exact told.reportCondition _ _

theorem evaluateFilter (h : s.Noticed t) : s.Noticed (evaluateFilter t) :=
  .ite (h.setFilter _) ((h.setFilter _).reportRise _)

theorem dosePeriod (h : s.Noticed t) : s.Noticed (dosePeriod t) := ((h.setFilter _).markIf _).evaluateFilter

/-! ### The tank block -/

theorem dryingTankReport (h : s.Noticed t) (level : TankLevel) : s.Noticed (dryingTankReport level t) :=
  judgeDrying (.ite (h.setDry _).immediateStop (h.setDry _))

theorem tankReports (h : s.Noticed t) (before : TankBlock) (e : TankEvent) (forced : Bool) :
    s.Noticed (tankReports before e forced t) := by
  have checked : s.Noticed (floatChecked before e t) := .ite ((h.markIf _).raise _) (h.markIf _)
  have told {u : State} (hu : s.Noticed u) (c : Prop) [Decidable c] (level : TankLevel) :
      s.Noticed (if c then Machine.dryingTankReport level u else u) := .ite (hu.dryingTankReport level) hu
  exact told (((((checked.reportChange .tankAbsent _).reportChange .tankFull _).reportChange .tankHigh _).reportChange
    .pumpFail _).updateLamps _) _ _

theorem tankEvent (h : s.Noticed t) (e : TankEvent) : s.Noticed (tankEvent e t) := by
  have reported (forced : Bool) := (h.setTank (t.tank.after t.path.working e)).tankReports t.tank e forced
  cases e with
  | settle => exact reported true
  | highFloat | fullFloat | present | runMinute | onTimeEnd | afterRunEnd | setting =>
    exact .ite (reported false) (h.setTank _)

theorem runSecondExpiry (h : s.Noticed t) : s.Noticed (runSecondExpiry t) := by
  have counted (d : Drying) : s.Noticed (markChanged (t.setDry d)) := (h.setDry d).setStore _
  exact .ite (h.setDry _).judgeDrying ((counted _).tankEvent _).judgeDrying

/-! ### Drying's events -/

theorem tripCompressor (h : s.Noticed t) : s.Noticed (tripCompressor t) := by
  have tripped := (h.setDry t.dry.trip).markIf (decide (t.dry.trip.tripTotal ≠ t.dry.tripTotal))
  have reported : s.Noticed (if 3 ≤ t.dry.trip.trips.length then _ else _) :=
    .ite ((tripped.setComp .lockedOut).reportCondition .compLockout true)
      ((tripped.setComp .tripped).reportCondition .compTrip true)
  exact reported.requestJob _

theorem checkTrip (h : s.Noticed t) : s.Noticed (checkTrip t) := by
  unfold Machine.checkTrip
  split
  · exact .ite h.tripCompressor h
  · exact .ite ((h.setComp _).reportCondition _ _).judgeHold h
  all_goals exact h

theorem setWarning (h : s.Noticed t) (on : Bool) : s.Noticed (setWarning on t) :=
  .ite (((h.setDry _).setAir _).raise _) ((h.setDry _).setAir _)

theorem checkWarning (h : s.Noticed t) : s.Noticed (checkWarning t) :=
  .ite (.ite (h.setWarning _) (.ite (h.setWarning _) h)) h

theorem enterDefrost (h : s.Noticed t) : s.Noticed (enterDefrost t) := ((h.setDry _).markIf _).setComp _
theorem endDefrost (h : s.Noticed t) : s.Noticed (endDefrost t) := ((h.setDry _).setComp _).judgeHold

theorem checkDefrost (h : s.Noticed t) : s.Noticed (checkDefrost t) := by
  unfold Machine.checkDefrost
  split
  · exact .ite h.enterDefrost (h.setDry _)
  · exact .ite h.endDefrost (h.setDry _)
  all_goals exact h

theorem dryingCheck (h : s.Noticed t) : s.Noticed (dryingCheck t) :=
  h.checkTrip.checkWarning.checkDefrost.evaluateDemand.judgeDrying

theorem enterRunning (h : s.Noticed t) : s.Noticed (enterRunning t) := ((h.setDry _).markIf _).setComp _

theorem airflowReport (h : s.Noticed t) : s.Noticed (airflowReport t) := by
  unfold Machine.airflowReport
  split
  · exact .ite (h.enterRunning.reportCondition _ _) h
  · exact .ite (h.stopCompressor.reportCondition _ _) (.ite (h.reportCondition _ _) h)
  all_goals exact h

theorem offTimeExpiry (h : s.Noticed t) : s.Noticed (offTimeExpiry t) :=
  .ite (h.setDry _).judgeHold.judgeStart (h.setDry _)

theorem confirmationExpiry (h : s.Noticed t) : s.Noticed (confirmationExpiry t) :=
  ((h.setDry _).setComp _).reportCondition _ _

theorem extraHoldExpiry (h : s.Noticed t) : s.Noticed (extraHoldExpiry t) := (h.setDry _).judgeHold.judgeStart
theorem defrostMaxExpiry (h : s.Noticed t) : s.Noticed (defrostMaxExpiry t) := (h.endDefrost.raise _).judgeStart

theorem dryingClearLockout (h : s.Noticed t) : s.Noticed (dryingClearLockout t) :=
  .ite (((h.setDry _).setComp _).reportCondition _ _).judgeHold.judgeStart h

theorem dryingModeReport (h : s.Noticed t) (m : ModeState) : s.Noticed (dryingModeReport m t) :=
  (h.setDry _).evaluateDemand.judgeDrying

/-! ### The air mover's events -/

theorem reportFanStall (h : s.Noticed t) (b : Bool) : s.Noticed (reportFanStall b t) :=
  ((h.reportCondition _ _).setDry _).judgeDrying

theorem declareStall (h : s.Noticed t) : s.Noticed (declareStall t) :=
  (ite (h.setAir _) ((h.setAir _).reportFanStall true)).immediateStop.abandonSweep

theorem stallCheck (h : s.Noticed t) : s.Noticed (stallCheck t) := by
  rw [stallCheck_eq]
  have counted : s.Noticed (stallCounted t) := h.setAir _
  exact .ite h.declareStall (.ite ((counted.setAir _).reportFanStall false) counted)

theorem airflowPeriod (h : s.Noticed t) : s.Noticed (airflowPeriod t) := by
  have formed (a : AirMover) : s.Noticed (markChanged (t.setAir a)) := (h.setAir a).setStore _
  exact airflowReport (.ite (formed _).evaluateFilter (h.setAir _))

theorem completeSweep (h : s.Noticed t) (results : List Nat) : s.Noticed (completeSweep results t) :=
  ((((h.setAir _).markIf _).evaluateFilter.reportProgress 10).tellLearnPending false).requestJob _

theorem placeResult (h : s.Noticed t) (i : Nat) (taken : List Nat) : s.Noticed (placeResult i taken t) :=
  .ite h.abandonSweep (.ite ((h.setAir _).measurePoint _) (h.completeSweep _))

theorem learnHoldExpiry (h : s.Noticed t) : s.Noticed (learnHoldExpiry t) := by
  unfold Machine.learnHoldExpiry
  split
  · exact h.setAir _
  · exact h

theorem learnReading (h : s.Noticed t) : s.Noticed (learnReading t) := by
  unfold Machine.learnReading
  split
  · exact .ite (h.setAir _) (h.placeResult _ _)
  · exact h

theorem airModeReport (h : s.Noticed t) (m : ModeState) : s.Noticed (airModeReport m t) := h.setAir _

theorem airDoorReport (h : s.Noticed t) (isOpen : Bool) : s.Noticed (airDoorReport isOpen t) := by
  have arbitrated := h.setAir t.air.arbitrate
  simp only [Machine.airDoorReport]
  split
  · split
    · exact arbitrated.abandonSweep
    · exact arbitrated
    · exact arbitrated
  · exact arbitrated.leaveWaiting

/-! ### The measurement front end -/

theorem judgeSupply (h : s.Noticed t) : s.Noticed (judgeSupply t) := by
  have detected (f : FrontEnd) (c : Prop) [Decidable c] :
      s.Noticed (if c then Machine.raise .supplyLow (t.setFront f) else t.setFront f) :=
    .ite ((h.setFront f).raise _) (h.setFront f)
  exact .ite h (((detected _ _).setAir _).setDry _).judgeDrying

theorem statusReport (h : s.Noticed t) (ch : Channel) : s.Noticed (statusReport ch t) := by
  cases ch with
  | rh => exact h.evaluateDemand.judgeDrying
  | troom => exact h.judgeDrying
  | tevap => exact judgeDrying (.ite h (h.setDry _))
  | tcond => exact h.judgeDrying
  | supply => exact h

theorem converterArrival (h : s.Noticed t) (ch : Channel) (code : BitVec 10) : s.Noticed (converterArrival ch code t) := by
  have judged : s.Noticed (arrivalJudged ch code t) := (h.setFront _).reportChange _ _
  have reported : s.Noticed (arrivalReported ch code t) := .ite judged (judged.statusReport ch)
  rw [converterArrival_eq]
  exact .ite reported.judgeSupply reported

theorem particleWindowEnd (h : s.Noticed t) : s.Noticed (particleWindowEnd t) := by
  have judged : s.Noticed (windowJudged t) := (h.setFront _).reportChange _ _
  rw [particleWindowEnd_eq]
  exact judged.setAir _

theorem restartDebounce (h : s.Noticed t) (sw : Switch) : s.Noticed (restartDebounce sw t) := .ite (h.setFront _) h

theorem switchRawChange (h : s.Noticed t) (sw : Switch) (high : Bool) : s.Noticed (switchRawChange sw high t) :=
  .ite ((h.setPins _).restartDebounce sw) (h.setPins _)

theorem doorReport (h : s.Noticed t) (isOpen : Bool) : s.Noticed (doorReport isOpen t) := by
  have copied : s.Noticed (doorCopied isOpen t) := ((h.setAir _).setDry _).updateLamps _
  have told : s.Noticed (filterDoorReport isOpen _) :=
    ((copied.airDoorReport isOpen).setFilter _).reportCondition .filterDoor isOpen
  rw [doorReport_eq]
  exact judgeDrying (.ite told.immediateStop told)

theorem switchReport (h : s.Noticed t) (sw : Switch) (b : Bool) : s.Noticed (switchReport sw b t) := by
  cases sw with
  | highFloat => exact h.tankEvent (.highFloat b)
  | fullFloat => exact h.tankEvent (.fullFloat b)
  | tankPresent => exact h.tankEvent (.present b)
  | door => exact h.doorReport b

theorem debounceExpiry (h : s.Noticed t) (sw : Switch) : s.Noticed (debounceExpiry sw t) :=
  .ite (h.setFront _) ((h.setFront _).switchReport _ _)

theorem settlingExpiry (h : s.Noticed t) : s.Noticed (settlingExpiry t) := by
  rw [settlingExpiry_eq]
  exact ((h.setFront _).tankEvent _).doorReport _

/-! ### The commands of Table 30 and supervision -/

theorem accept (h : s.Noticed t) (status : CommandStatus) (awaited : Awaited) : s.Noticed (accept status awaited t) :=
  h.setCmd _

theorem refuse (h : s.Noticed t) (status : CommandStatus) : s.Noticed (refuse status t) := (h.setCmd _).raise _

theorem clearFilter (h : s.Noticed t) : s.Noticed (clearFilter t) :=
  (((((h.setAir _).setFilter _).markIf _).evaluateFilter.reportChange .filterExhausted false).updateLamps _).requestJob _

theorem filterReset (h : s.Noticed t) : s.Noticed (filterReset t) :=
  .ite (h.accept _ _).clearFilter.startSweep (h.accept _ _).clearFilter

theorem learnBaseline (h : s.Noticed t) : s.Noticed (learnBaseline t) :=
  .ite (h.refuse _) (.ite (h.refuse _) (h.accept _ _).startSweep)

theorem abortLearn (h : s.Noticed t) : s.Noticed (abortLearn t) := .ite (h.accept _ _).abandonSweep (h.refuse _)

theorem defrostNow (h : s.Noticed t) : s.Noticed (defrostNow t) := .ite (h.accept _ _).enterDefrost (h.refuse _)

theorem clearLockout (h : s.Noticed t) : s.Noticed (clearLockout t) := by
  have freed := (h.accept .accepted .save).dryingClearLockout
  have both : s.Noticed (airClearLockout _) := .ite (freed.setAir _) freed
  exact .ite (both.requestJob _) (h.refuse _)

/-- R172: the steps of a RESUME, each after the one before. -/
theorem leaveStandalone (h : s.Noticed t) : s.Noticed (leaveStandalone t) := by
  have ended : s.Noticed (if t.cmd.allStop then Machine.setAllStop false t else t) := .ite (h.setAllStop false) h
  exact (((((ended.setCmd _).airModeReport .normal).dryingModeReport .normal).reportCondition .standalone
    false).setCmd _).accept _ _

theorem judgeCommand (h : s.Noticed t) (code : Byte) : s.Noticed (judgeCommand code t) :=
  .ite h.filterReset (.ite h.learnBaseline (.ite h.abortLearn (.ite h.defrostNow (.ite h.clearLockout
    (.ite (.ite h.leaveStandalone (h.refuse _)) (.ite ((h.accept _ _).requestJob _) (.ite (h.accept _ _)
      (h.refuse _))))))))

theorem enterStandalone (h : s.Noticed t) : s.Noticed (enterStandalone t) := by
  have entered := (h.setCmd { t.cmd with mode := .standalone, count := 0, counting := none }).setCondition .standalone true
  have judged := ((entered.airModeReport .standalone).abandonSweep.dryingModeReport .standalone).judgeAllStop
  exact .ite (judged.setStore _) judged

theorem supervisionCount (h : s.Noticed t) : s.Noticed (supervisionCount t) := .ite h.enterStandalone (h.setCmd _)

end State.Noticed

end Sys2Proof.Machine
end

section
/-! SUPPORT. The same relation through the memory path, the stored-image unit, the resets and the load, and so through every
command and the idle step, with the statement of the present conditions (R110, R111, R113, R117). -/

namespace Sys2Proof.Machine

theorem wholeReset_unready (cause : ResetCause) (written : Nat) (s : State) :
    (wholeReset cause written s).phase ≠ .running := by
  simp only [wholeReset]
  split <;> simp

theorem NoticeUnit.atReset_latchesPresent : NoticeUnit.latchesPresent .atReset := ⟨by decide, by decide⟩

namespace State.Noticed

variable {s t u : State}

/-- The relation from a state that differs in none of the figures it reads. -/
theorem of_signals (h : u.Noticed t) (same : u.signals = s.signals) : s.Noticed t := by
  simp only [State.signals, Prod.mk.injEq] at same
  obtain ⟨conditions, latched, lamps, working, phase⟩ := same
  obtain ⟨present, selected, begun⟩ := h
  refine ⟨fun hs => present (hs.congr conditions latched), fun hs => selected ?_, ?_⟩
  · rw [State.lampsSelected, phase, lamps, working]
    exact hs
  · rw [← phase, ← lamps]
    exact begun

theorem of_reset (notice : t.notice = .atReset) (phase : t.phase ≠ .running) : s.Noticed t :=
  .of_unready (fun _ => notice ▸ NoticeUnit.atReset_latchesPresent) phase

/-! ### Setting writes (R135 to R141) -/

/-- Settings written with the lamps not told yet: their sources stand. -/
theorem rewritten (s : State) {p : MemoryPath} (sources : s.path.working.SameSources p.working) :
    s.Noticed (s.setPath p) := by
  refine ⟨id, fun hs => (State.lampsSelected_iff _).2 fun run l => ?_, fun _ _ _ => .inl rfl⟩
  rw [State.setPath_path, State.setPath_lamps, sources.selected]
  exact (State.lampsSelected_iff s).1 hs run l

theorem delivered (h : s.Noticed t) {old : Settings} (ht : Delivered old t u) : s.Noticed u := by
  have slots (f : AirMover → AirMover) : s.Noticed (changeSlots f t) := h.setAir _
  cases ht with
  | readWhereUsed => exact h
  | mode => exact judgeDrying (.ite (slots _) (slots _).evaluateDemand)
  | setpoint m => exact judgeDrying (.ite h.evaluateDemand h)
  | band => exact h.evaluateDemand.judgeDrying
  | drying => exact h.judgeDrying
  | dryDuty => exact (slots _).judgeDrying
  | speeds | defrostDuty | standaloneDuty => exact slots _
  | filter => exact h.evaluateFilter
  | tank off => exact .ite h (h.tankEvent _)
  | polarity =>
    have entry {v : State} (hv : s.Noticed v) (sw : Switch) : s.Noticed (polarityEntry old v sw) :=
      .ite hv (hv.restartDebounce sw)
    exact entry (entry (entry (entry h .highFloat) .fullFloat) .tankPresent) .door
  | threshold => exact .ite h h.judgeSupply
  | lamps => exact h.updateLamps id
  | lampLevel => exact h.levelWritten
  | policy => exact h.judgeAllStop

theorem recordClamp (h : s.Noticed t) (clamped : Option Nat) : s.Noticed (recordClamp clamped t) := by
  cases clamped with
  | none => exact h
  | some off => exact (h.raise _).stands rfl

theorem settingEnded (h : s.Noticed t) : s.Noticed (settingEnded t) := by
  rw [settingEnded_eq]
  exact h.stands rfl

/-- R119, R135: a write of a lamp's source selects at once; no other write moves a source. -/
theorem takeSettingWrite (s : State) (off : Nat) (v : Byte) : s.Noticed (takeSettingWrite off v s) := by
  refine settingEnded (t := deliverSetting s.path.working off _) ?_
  by_cases source : 0x34 ≤ off ∧ off ≤ 0x37
  · have taken : NoticeUnit.latchesPresent s.notice → NoticeUnit.latchesPresent
        (judgeClamp s.path.working off (s.setPath (s.path.takeSetting off v))).notice := by
      unfold judgeClamp Machine.recordClamp
      split
      · exact id
      · exact fun present => present.occur _ _
    have lamps : (judgeClamp s.path.working off (s.setPath (s.path.takeSetting off v))).lamps = s.lamps := by
      unfold judgeClamp Machine.recordClamp
      split <;> rfl
    have place : off = 0x34 ∨ off = 0x35 ∨ off = 0x36 ∨ off = 0x37 := by omega
    obtain rfl | rfl | rfl | rfl := place
    all_goals exact .reselected (g := id) taken fun _ _ l => .inl (by rw [id, lamps])
  · exact ((rewritten s (takeSetting_sameSources s.path v (by omega))).recordClamp _).delivered
      (deliverSetting_delivered _ _ _)

theorem takeHexhHigh (s : State) (v : Byte) : s.Noticed (takeHexhHigh v s) := by
  refine settingEnded (evaluateFilter (recordClamp ?_ _))
  exact rewritten s fun _ _ _ => rfl

/-! ### The controller's cycles -/

theorem commandByte (h : s.Noticed t) (code : Byte) : s.Noticed (commandByte code t) := by
  have noted : s.Noticed ((noteCommand code t).setPath { t.path with armed := decide (code = codeRestartArm) }) :=
    h.stands rfl
  exact .ite (.of_reset rfl (by simp [beginRestart])) (noted.judgeCommand code)

theorem takeStray (h : s.Noticed t) (off : Byte) : s.Noticed (takeStray off t) := by
  have recorded : s.Noticed (t.setPath { t.path with lastStray := off }) := h.stands rfl
  exact recorded.raise _

theorem controllerWrite (s : State) (m : BitVec 15) (v : Byte) : s.Noticed (controllerWrite m v s) := by
  have written (b : Byte) (waits : Nat) : s.Noticed (busWrite m b waits s) := (refl s).stands rfl
  simp only [Machine.controllerWrite]
  split
  · exact written _ _
  · exact written _ _
  · exact .ite (written _ _) ((written _ _).setStore _)
  · exact .ite (settingEnded ((written _ _).stands rfl))
      (.ite ((takeHexhHigh _ _).of_signals rfl) ((takeSettingWrite _ _ _).of_signals rfl))
  · exact (written _ _).commandByte v
  · exact (written _ _).setNotice fun present => present.clear _
  all_goals exact (written _ _).takeStray _

theorem windowWrite (s : State) (off v : Byte) : s.Noticed (windowWrite off v s) := .ite (controllerWrite _ _ _) (refl s)

theorem controllerRead (s : State) (m : BitVec 15) : s.Noticed (controllerRead m s) := by
  have loaded (off : Byte) : (loadHolder off s).signals = s.signals := by
    unfold loadHolder
    repeat' split
    all_goals rfl
  have read (off b : Byte) (waits : Nat) : s.Noticed (busRead b waits (loadHolder off s)) := (refl s).stands (loaded off)
  have summary (off b : Byte) (waits : Nat) (masks : BitVec 24) (autoClear : Bool) :
      s.Noticed ((busRead b waits (loadHolder off s)).setNotice (s.notice.afterSummary masks autoClear)) := by
    obtain ⟨-, selected, begun⟩ := read off b waits
    exact ⟨fun present => present.afterSummary masks autoClear, selected, begun⟩
  exact .ite (.ite (summary _ _ _ _ _) (read _ _ _)) ((refl s).stands rfl)

theorem windowRead (s : State) (off : Byte) : s.Noticed (windowRead off s) := .ite (controllerRead _ _) (refl s)

/-! ### The load and the drain (R118, R157, R158, R160) -/

/-- R118: the lamps select anew at the end of a load, whatever they were; the notice unit keeps what it latched. -/
theorem loadComplete (h : s.phase ≠ .running) (pfwLow : Bool) : s.Noticed (loadComplete pfwLow s) := by
  have occurred (l : LoadReads) : s.Noticed (loadOccurrences l s) := by
    have settings : s.Noticed (if l.settingsOk then s else Machine.raise .settingsDefaulted s) :=
      .ite (refl s) ((refl s).raise _)
    exact .ite settings (settings.raise _)
  have reported (l : LoadReads) :=
    ((refl (takeLoad l (loadOccurrences l s))).evaluateFilter).reportChange .filterExhausted
      (decide ((Machine.evaluateFilter (takeLoad l (loadOccurrences l s))).filter.stage = .exhausted))
  have judged (l : LoadReads) : s.Noticed (judgeLoadedFilter (takeLoad l (loadOccurrences l s))) := by
    simp only [judgeLoadedFilter]
    exact .reselected (fun present => (reported l).present ((occurred l).present present)) fun run => absurd run h
  exact .ite (((judged _).setPins _).setStore _) ((judged _).setPins _)

theorem drainJobComplete (h : s.phase = .draining) : s.Noticed (drainJobComplete s) := by
  unfold Machine.drainJobComplete
  split
  case h_1 => exact .ite (.of_unready id (by simp)) (.of_unready id (by simp [h]))
  all_goals exact refl s

/-! ### The stored-image unit -/

theorem holdackRise (h : s.Noticed t) : s.Noticed (holdackRise t) := by
  unfold Machine.holdackRise
  split
  · exact h.setStore _
  all_goals exact h

theorem holdackFall (h : s.Noticed t) (written : Nat) : s.Noticed (holdackFall written t) := by
  have cut (sv : Service) : s.Noticed (cutBurst sv written t) := by cases sv <;> exact h.stands rfl
  unfold Machine.holdackFall
  split
  · split
    · exact cut _
    · exact h
  · exact h.setStore _
  · exact .ite h (h.setStore _)
  · exact h

theorem refuseHold (h : s.Noticed t) : s.Noticed (refuseHold t) := .ite (h.setStore _) ((h.setStore _).raise _)

theorem burstComplete (h : s.Noticed t) : s.Noticed (burstComplete t) := by
  have finished (sv : Service) : s.Noticed (finishBurst sv t) := by cases sv <;> exact h.stands rfl
  unfold Machine.burstComplete
  split
  · exact finished _
  all_goals exact h

/-! ### Every command and the idle step -/

theorem tick (s : State) : s.Noticed (tick s) :=
  (relit s (filter := { s.lamps.filter with timer := tickTimer s.lamps.filter.timer })
    (tank := { s.lamps.tank with timer := tickTimer s.lamps.tank.timer }) rfl rfl).stands rfl

theorem lampPhaseTimer (lamp : Lamp) (s : State) : ∃ t, exec (.lampPhaseTimer lamp) s = .next t ∧ s.Noticed t := by
  cases lamp with
  | filter => exact ⟨_, rfl, .ite (relit s (LampState.expiry_pattern _ _) rfl) (refl s)⟩
  | tank => exact ⟨_, rfl, .ite (relit s rfl (LampState.expiry_pattern _ _)) (refl s)⟩

/-- Every command keeps the relation from the state it meets. -/
theorem exec (c : Instr) (s : State) : ∃ t, exec c s = .next t ∧ s.Noticed t := by
  have h := refl s
  cases c with
  | powerOn n | nresetAssert n =>
    exact ⟨_, rfl, .of_reset rfl (wholeReset_unready _ _ _)⟩
  | nresetRelease => exact ⟨_, rfl, .ite (.of_unready id (by simp)) (h.setPins _)⟩
  | loadDelayExpiry => exact ⟨_, rfl, .ite (.of_unready id (by simp)) h⟩
  | loadComplete pfwLow =>
    refine ⟨_, rfl, ?_⟩
    split
    case isTrue loading => exact loadComplete (by simp [loading]) _
    case isFalse => exact h
  | drainJobComplete =>
    refine ⟨_, rfl, ?_⟩
    split
    case isTrue draining => exact drainJobComplete draining
    case isFalse => exact h
  | converterArrival ch code => exact ⟨_, rfl, .ite (h.converterArrival _ _) h⟩
  | particleWindowEnd => exact ⟨_, rfl, .ite h.particleWindowEnd h⟩
  | tachEdge e k => exact ⟨_, rfl, .ite (.ite (h.setFront _) h) h⟩
  | particleSample | stoppedReport => exact ⟨_, rfl, .ite (h.setFront _) h⟩
  | switchRawChange sw high => exact ⟨_, rfl, h.switchRawChange _ _⟩
  | debounceExpiry sw => exact ⟨_, rfl, .ite (h.debounceExpiry _) h⟩
  | switchSettlingExpiry => exact ⟨_, rfl, .ite h.settlingExpiry h⟩
  | npfwAssert => exact ⟨_, rfl, .ite ((h.setPins _).setStore _) (h.setPins _)⟩
  | rampStep | settledTimerExpiry | armingTimerExpiry | stallWaitExpiry => exact ⟨_, rfl, .ite (h.setAir _) h⟩
  | stallCheck => exact ⟨_, rfl, .ite h.stallCheck h⟩
  | airflowPeriod => exact ⟨_, rfl, .ite h.airflowPeriod h⟩
  | learnHoldExpiry => exact ⟨_, rfl, .ite h.learnHoldExpiry h⟩
  | learnReading => exact ⟨_, rfl, .ite h.learnReading h⟩
  | dosePeriod => exact ⟨_, rfl, .ite h.dosePeriod h⟩
  | dryingCheck => exact ⟨_, rfl, .ite h.dryingCheck h⟩
  | offTimeExpiry => exact ⟨_, rfl, .ite h.offTimeExpiry h⟩
  | confirmationTimerExpiry => exact ⟨_, rfl, .ite h.confirmationExpiry h⟩
  | extraHoldExpiry => exact ⟨_, rfl, .ite h.extraHoldExpiry h⟩
  | runSecondExpiry => exact ⟨_, rfl, .ite h.runSecondExpiry h⟩
  | defrostMaxExpiry => exact ⟨_, rfl, .ite h.defrostMaxExpiry h⟩
  | timedCycleExpiry => exact ⟨_, rfl, .ite (h.setDry _).judgeDrying h⟩
  | uptimeMinute => exact ⟨_, rfl, .ite (h.setDry _) h⟩
  | onTimeEnd | afterRunExpiry => exact ⟨_, rfl, .ite (h.tankEvent _) h⟩
  | pulseTimerExpiry => exact ⟨_, rfl, .ite (h.stands rfl) h⟩
  | lampPhaseTimer lamp => exact lampPhaseTimer lamp s
  | quietTimerExpiry =>
    have stopped : s.Noticed (s.setPath { s.path with quietTimer := none }) := h.stands rfl
    exact ⟨_, rfl, .ite (stopped.requestJob _) h⟩
  | settingWrite | hexhLowWrite | hexhHighWrite | latchedWrite | strayWrite | filterReset | learnBaseline | abortLearn
  | defrostNow | clearLockout | resume | saveNow | restartArm | restart | unknownCommand =>
    exact ⟨_, rfl, windowWrite _ _ _⟩
  | anchorWrite v => exact ⟨_, rfl, .ite (controllerWrite _ anchor v) h⟩
  | summaryRead | snapshotLoadRead => exact ⟨_, rfl, windowRead _ _⟩
  | holdackRise => exact ⟨_, rfl, .ite (h.setPins _).holdackRise (h.setPins _)⟩
  | holdackFall n => exact ⟨_, rfl, .ite ((h.setPins _).holdackFall n) (h.setPins _)⟩
  | ackTimerExpiry => exact ⟨_, rfl, .ite h.refuseHold h⟩
  | retryTimerExpiry => exact ⟨_, rfl, .ite (.ite (h.setStore _) (h.setStore _)) h⟩
  | burstComplete => exact ⟨_, rfl, .ite h.burstComplete h⟩
  | saveTimerExpiry => exact ⟨_, rfl, .ite (.ite (.ite (h.setStore _) (h.setStore _)) (h.setStore _)) h⟩
  | supervisionCount => exact ⟨_, rfl, .ite h.supervisionCount h⟩
  | supervisionPulseEnd => exact ⟨_, rfl, .ite (h.setStore _) h⟩

/-- Every step keeps it: the queue of commands is no figure of the relation. -/
theorem step (h : step s = .next t) : s.Noticed t := by
  unfold Machine.step at h
  split at h
  case h_1 =>
    obtain rfl := Host.Outcome.next.inj h
    exact tick s
  case h_2 c rest _ =>
    obtain ⟨u, hu, noticed⟩ := exec c (s.setPending rest)
    obtain rfl := Host.Outcome.next.inj (hu.symm.trans h)
    exact noticed.of_signals rfl

end State.Noticed

/-- Settles O38: each report, clearing and summary read keeps a present condition latched, and so does every step. -/
theorem presentConditionsStayLatched : Obligations.PresentConditionsStayLatched :=
  fun _ _ present stepped => (State.Noticed.step stepped).present present

end Sys2Proof.Machine
end

section
/-! SUPPORT. The lamps' phases, the writes of the lamp level and of the curve, and the drive outputs (R121 to R124), with the
statement of the lamps. -/

namespace Sys2Proof.Machine

/-! ### One expiry of a phase timer (R122, R123) -/

/-- R122: the phases of the timed patterns, each with its duration in ms and the phase after it. -/
def phaseTable : List (Pattern × LampPhase × Nat × LampPhase) :=
  [(.blink, .on, 500, .off), (.blink, .off, 500, .on), (.fastBlink, .on, 200, .off), (.fastBlink, .off, 200, .on),
    (.breathe, .rise, 1000, .high), (.breathe, .high, 500, .fall), (.breathe, .fall, 1000, .low),
    (.breathe, .low, 500, .rise)]

theorem phaseTable_holds : ∀ row ∈ phaseTable, phaseDuration row.1 row.2.1 = row.2.2.1
    ∧ nextPhase row.1 row.2.1 = row.2.2.2 := by
  decide

namespace LampState

variable (l : LampState) (level : Nat)

theorem expiry_of_within (within : l.elapsed + 10 < phaseDuration l.pattern l.phase) :
    (l.expiry level).phase = l.phase ∧ (l.expiry level).elapsed = l.elapsed + 10 := by
  rw [expiry, if_neg (by omega)]
  exact ⟨rfl, rfl⟩

theorem expiry_of_end (ends : phaseDuration l.pattern l.phase ≤ l.elapsed + 10) :
    (l.expiry level).phase = nextPhase l.pattern l.phase ∧ (l.expiry level).elapsed = 0 := by
  rw [expiry, if_pos ends]
  exact ⟨rfl, rfl⟩

theorem expiry_timer : (l.expiry level).timer = startTimer 10 := by
  unfold expiry
  split <;> rfl

/-- R123: the intensity after an expiry is that of its phase and of the time elapsed in it. -/
theorem expiry_intensity :
    (l.expiry level).intensity = phaseIntensity level (l.expiry level).elapsed (l.expiry level).phase := by
  unfold expiry
  split <;> rfl

/-- R122: one expiry by the table of phases. -/
theorem expiry_table : ∀ row ∈ phaseTable, row.1 = l.pattern → row.2.1 = l.phase →
    (l.elapsed + 10 < row.2.2.1 → (l.expiry level).phase = l.phase ∧ (l.expiry level).elapsed = l.elapsed + 10)
    ∧ (row.2.2.1 ≤ l.elapsed + 10 → (l.expiry level).phase = row.2.2.2 ∧ (l.expiry level).elapsed = 0) := by
  intro row member pattern phase
  obtain ⟨duration, next⟩ := phaseTable_holds row member
  rw [pattern, phase] at duration next
  rw [← duration, ← next]
  exact ⟨l.expiry_of_within level, l.expiry_of_end level⟩

end LampState

theorem exec_lampPhaseTimer (lamp : Lamp) (s : State) (timer : (s.lamps.lamp lamp).timer.isSome = true) :
    exec (.lampPhaseTimer lamp) s = .next (s.setLamps (match lamp with
      | .filter => { s.lamps with filter := (s.lamps.lamp lamp).expiry s.path.working.lampLevel }
      | .tank => { s.lamps with tank := (s.lamps.lamp lamp).expiry s.path.working.lampLevel })) := by
  cases lamp with
  | filter => exact congrArg Host.Outcome.next (if_pos timer)
  | tank => exact congrArg Host.Outcome.next (if_pos timer)

/-! ### The writes of the lamp level and of the curve (R123, R124) -/

theorem settingWritten_lamps (off v : Byte) (s : State) :
    (settingWritten off v s).lamps = (deliverSetting s.path.working off.toNat (judgedWrite off v s)).lamps := by
  rw [settingWritten, settingEnded_eq]
  rfl

theorem judgedWrite_lamps (off v : Byte) (s : State) : (judgedWrite off v s).lamps = s.lamps := by
  simp only [judgedWrite, judgeClamp]
  unfold recordClamp
  split <;> rfl

/-- R123: after a write of the lamp level each lamp stands at it in phase ON or HIGH, and goes on in another. -/
theorem levelWritten_lamp (v : Byte) (s : State) (l : Lamp) : (settingWritten 0x38#8 v s).lamps.lamp l
    = (s.lamps.lamp l).newLevel (settingWritten 0x38#8 v s).path.working.lampLevel := by
  have delivered : (settingWritten 0x38#8 v s).lamps = (levelWritten (judgedWrite 0x38#8 v s)).lamps :=
    settingWritten_lamps 0x38#8 v s
  rw [delivered, settingWritten_working, ← judgedWrite_lamps 0x38#8 v s]
  cases l <;> rfl

theorem curveWritten_lamps (v : Byte) (s : State) : (settingWritten 0x39#8 v s).lamps = s.lamps :=
  (settingWritten_lamps 0x39#8 v s).trans (judgedWrite_lamps 0x39#8 v s)

/-! ### The drive outputs (R124) -/

theorem lampPin_eq (s : State) (l : Lamp) :
    s.lampPin l = lampOutput (s.path.working.flag 0x39) (s.lamps.lamp l).intensity := by
  cases l <;> rfl

theorem lampPin_of_linear (s : State) (l : Lamp) (linear : s.path.working.flag 0x39 = false) :
    s.lampPin l = (s.lamps.lamp l).intensity := by
  rw [lampPin_eq, linear]
  rfl

theorem lampPin_of_perceptual (s : State) (l : Lamp) (perceptual : s.path.working.flag 0x39 = true) :
    s.lampPin l = (s.lamps.lamp l).intensity * (s.lamps.lamp l).intensity / 255 := by
  rw [lampPin_eq, perceptual]
  rfl

/-! ### The patterns selected (R119, R120) -/

/-- R119, R120: what each source selects. -/
theorem LampEngine.selected_spec (e : LampEngine) (w : Settings) :
    (w.flag 0x34 = false → e.selected w .filter = e.autoFilter)
      ∧ (w.flag 0x35 = false → e.selected w .tank = e.autoTank)
      ∧ (w.flag 0x34 = true → e.selected w .filter = patternOf (w.nat 0x36))
      ∧ (w.flag 0x35 = true → e.selected w .tank = patternOf (w.nat 0x37)) := by
  refine ⟨fun source => ?_, fun source => ?_, fun source => ?_, fun source => ?_⟩
  · rw [selected, Settings.filterLampControlled, source]; rfl
  · rw [selected, Settings.tankLampControlled, source]; rfl
  · rw [selected, Settings.filterLampControlled, source]; rfl
  · rw [selected, Settings.tankLampControlled, source]; rfl

/-! ### The statement -/

/-- A lamp before a command with the same lamp after it. -/
theorem lamp_of_pair {e e' : LampEngine} {l l' : LampState}
    (pair : (l = e.filter ∧ l' = e'.filter) ∨ (l = e.tank ∧ l' = e'.tank)) :
    ∃ lamp, l = e.lamp lamp ∧ l' = e'.lamp lamp :=
  pair.elim (fun both => ⟨.filter, both⟩) fun both => ⟨.tank, both⟩

/-- Settles O39: the phases by the table's rows, the patterns by the relation that every command keeps, and the two writes by
what a setting write delivers. -/
theorem lampsFollowPatterns : Obligations.LampsFollowPatterns := by
  refine ⟨?phases, fun s t selected stepped => (State.Noticed.step stepped).selected selected, ?automatic, ?begun,
    LampState.apply_self, ?level, ?pins, ?curve⟩
  case phases =>
    intro lamp s l same timer
    obtain rfl : l = s.lamps.lamp lamp := by cases lamp <;> exact same
    have intensity := (s.lamps.lamp lamp).expiry_intensity s.path.working.lampLevel
    refine ⟨_, (s.lamps.lamp lamp).expiry s.path.working.lampLevel, exec_lampPhaseTimer lamp s timer, ?_,
      LampState.expiry_pattern _ _, LampState.expiry_timer _ _, LampState.expiry_table _ _, ?high, ?low, ?rise, ?fall⟩
    · cases lamp <;> rfl
    case high => rintro (phase | phase) <;> rw [intensity, phase] <;> rfl
    case low => rintro (phase | phase) <;> rw [intensity, phase] <;> rfl
    case rise => intro phase; rw [intensity, phase]; rfl
    case fall => intro phase; rw [intensity, phase]; rfl
  case automatic => exact LampEngine.selected_spec
  case begun =>
    intro c s t running taken runs l l' pair changed
    obtain ⟨lamp, rfl, rfl⟩ := lamp_of_pair pair
    obtain ⟨u, hu, noticed⟩ := State.Noticed.exec c s
    obtain rfl := Host.Outcome.next.inj (hu.symm.trans taken)
    have fresh := (noticed.begun running runs lamp).resolve_left changed
    rw [fresh]
    exact LampState.begun_spec _ _
  case level =>
    rintro v s ⟨cycles, -, -⟩
    refine ⟨_, exec_settingWrite_written 0x38#8 v s cycles (by decide) (by decide) (by decide), fun l l' pair => ?_⟩
    obtain ⟨lamp, rfl, rfl⟩ := lamp_of_pair pair
    rw [levelWritten_lamp, LampState.newLevel_eq]
  case pins =>
    intro lamp s l same
    obtain rfl : l = s.lamps.lamp lamp := by cases lamp <;> exact same
    exact ⟨fun zero => lampPin_of_linear s lamp (by simp [Settings.flag, zero]),
      fun nonzero => lampPin_of_perceptual s lamp (by simp [Settings.flag, nonzero])⟩
  case curve =>
    rintro v s ⟨cycles, raw, bytes⟩
    have lamps := curveWritten_lamps v s
    have curve := settingWritten_flag 0x39#8 v s (by decide) rfl bytes raw
    refine ⟨_, exec_settingWrite_written 0x39#8 v s cycles (by decide) (by decide) (by decide), lamps, fun zero => ?_,
      fun nonzero => ?_⟩
    · have linear := curve.trans (decide_eq_false (not_not.2 zero))
      rw [lampPin_of_linear _ _ linear, lampPin_of_linear _ _ linear, lamps]
      exact ⟨rfl, rfl⟩
    · have perceptual := curve.trans (decide_eq_true nonzero)
      rw [lampPin_of_perceptual _ _ perceptual, lampPin_of_perceptual _ _ perceptual, lamps]
      exact ⟨rfl, rfl⟩

end Sys2Proof.Machine
end

section
/-! SUPPORT. The controller's cycles at the notice unit: the latched cells, the summary and the masks, with their statement
(R112 to R117, R131). -/

namespace Sys2Proof.Machine

/-! ### The bits of the cells (R112, Table 32) -/

/-- The flags that a byte written to latched cell `k` names. -/
theorem flagsNamed_bit {k i : Nat} (v : Byte) (place : i < 24) :
    (flagsNamed k v).getLsbD i = (decide (i / 8 = k) && v.getLsbD (i % 8)) := by
  simp only [flagsNamed, BitVec.getLsbD_shiftLeft, BitVec.getLsbD_setWidth, place, decide_true, Bool.true_and]
  obtain below | same | above : i / 8 < k ∨ i / 8 = k ∨ k < i / 8 := by omega
  · simp [show i < 8 * k by omega, show ¬ i / 8 = k by omega]
  · have bit : i - 8 * k = i % 8 := by omega
    simp [same, bit, show ¬ i < 8 * k by omega, show i % 8 < 24 by omega]
  · rw [BitVec.getLsbD_of_ge v _ (by omega)]
    simp [show ¬ i / 8 = k by omega]

/-- R112: the mask of a flag stands in the mask byte of its eight flags. -/
theorem Settings.masks_bit (w : Settings) {i : Nat} (place : i < 24) :
    w.masks.getLsbD i = (w.byte (0x30 + i / 8)).getLsbD (i % 8) := by
  simp only [Settings.masks, BitVec.getLsbD_append]
  obtain low | mid | high : i / 8 = 0 ∨ i / 8 = 1 ∨ i / 8 = 2 := by omega
  · have bit : i % 8 = i := by omega
    simp [low, bit, show i < 8 by omega]
  · have bit : i % 8 = i - 8 := by omega
    simp [mid, bit, show ¬ i < 8 by omega, show i - 8 < 8 by omega]
  · have bit : i % 8 = i - 8 - 8 := by omega
    simp [high, bit, show ¬ i < 8 by omega, show ¬ i - 8 < 8 by omega]

theorem State.noticePin_iff (s : State) : s.noticePin = true ↔ s.notice.held = false ∧ (s.notice.pulseTimer.isSome = true
    ∨ ∃ i, 12 ≤ i ∧ i < 24 ∧ s.notice.latched.getLsbD i = true ∧ s.path.working.masks.getLsbD i = false) :=
  s.notice.line_iff s.path.working.masks

/-! ### A latched write (R113, R131) -/

/-- The part after a write of `v` to latched cell `k`. -/
def latchedWritten (k : Nat) (v : Byte) (s : State) : State :=
  (busWrite (address s.path.page (BitVec.ofNat 8 (0x4B + k))) 0 (takenWriteWaits s.path.working) s).setNotice
    (s.notice.clear (flagsNamed k v))

theorem exec_latchedWrite {k : Nat} (v : Byte) (s : State) (cycles : s.takesCycles = true) (cell : k < 3) :
    exec (.latchedWrite (BitVec.ofNat 8 (0x4B + k)) v) s = .next (latchedWritten k v s) := by
  obtain rfl | rfl | rfl : k = 0 ∨ k = 1 ∨ k = 2 := by omega
  all_goals
    refine congrArg Host.Outcome.next ((windowWrite_eq _ v s cycles).trans ?_)
    rw [controllerWrite, classify_address _ _ (by decide)]
    rfl

/-! ### A summary read (R116, R117) -/

namespace NoticeUnit

variable (n : NoticeUnit) (masks : BitVec 24)

/-- The flags that the summary answers for: latched and unmasked. -/
theorem shown_bit {i : Nat} (place : i < 24) : (n.latched &&& ~~~masks).getLsbD i = true
    ↔ n.latched.getLsbD i = true ∧ masks.getLsbD i = false := by
  simp only [BitVec.getLsbD_and, BitVec.getLsbD_not, place, decide_true, Bool.true_and, Bool.and_eq_true,
    Bool.not_eq_true']

theorem summary_of_none (silent : n.summary masks = 0) : n.latched &&& ~~~masks = 0 := by
  unfold summary at silent
  split at silent
  case h_1 => omega
  case h_2 clear =>
    rw [List.find?_eq_none] at clear
    exact BitVec.eq_of_getLsbD_eq fun i place => by simpa using clear i (List.mem_range.2 place)

/-- R116: the summary is the number of the least flag that is latched and unmasked. -/
theorem summary_of_some (answers : 0 < n.summary masks) :
    n.summary masks ≤ 24 ∧ n.latched.getLsbD (n.summary masks - 1) = true
      ∧ masks.getLsbD (n.summary masks - 1) = false
      ∧ ∀ i, i < n.summary masks - 1 → n.latched.getLsbD i = false ∨ masks.getLsbD i = true := by
  cases found : (List.range 24).find? fun i => (n.latched &&& ~~~masks).getLsbD i with
  | none =>
    simp only [summary, found] at answers
    exact absurd answers (Nat.lt_irrefl 0)
  | some k =>
    have number : n.summary masks = k + 1 := by simp only [summary, found]
    rw [List.find?_range_eq_some] at found
    obtain ⟨shown, member, least⟩ := found
    have place : k < 24 := List.mem_range.1 member
    obtain ⟨latched, unmasked⟩ := (n.shown_bit masks place).1 shown
    rw [number]
    refine ⟨by omega, latched, unmasked, fun i below => ?_⟩
    have below' : i < k := by omega
    have hidden : ¬ (n.latched &&& ~~~masks).getLsbD i = true := by
      simpa only [Bool.not_eq_true', Bool.not_eq_true] using least i below'
    rw [n.shown_bit masks (below'.trans place), not_and_or, Bool.not_eq_true, Bool.not_eq_false] at hidden
    exact hidden

theorem afterSummary_eq (autoClear : Bool) :
    n.afterSummary masks autoClear = { n with latched := (n.afterSummary masks autoClear).latched } := by
  simp only [afterSummary]
  split <;> rfl

theorem afterSummary_of_none (autoClear : Bool) (silent : n.summary masks = 0) : n.afterSummary masks autoClear = n := by
  simp [afterSummary, silent]

/-- R116, R117: auto-clear reaches the flag that the summary answers, if it is of the pulse class. -/
theorem afterSummary_latched_of_some (autoClear : Bool) (answers : 0 < n.summary masks) (i : Nat) :
    (n.afterSummary masks autoClear).latched.getLsbD i = (n.latched.getLsbD i
      && !(autoClear && decide (n.summary masks ≤ 12) && decide (i = n.summary masks - 1))) := by
  have answered : decide (i + 1 = n.summary masks) = decide (i = n.summary masks - 1) := decide_eq_decide.2 (by omega)
  rw [afterSummary_latched, answered]

/-- R117: a summary read leaves the line, which no pulse-class flag holds. -/
theorem afterSummary_line (autoClear : Bool) : (n.afterSummary masks autoClear).line masks = n.line masks := by
  obtain ⟨-, pulse, held⟩ := n.afterSummary_keeps masks autoClear
  rw [Bool.eq_iff_iff, line_iff, line_iff, pulse, held]
  refine and_congr_right fun _ => or_congr_right (exists_congr fun i => and_congr_right fun level => ?_)
  rw [n.afterSummary_latched_level masks autoClear level]

end NoticeUnit

/-- The part after a summary read. -/
def summaryTaken (s : State) : State :=
  (busRead (BitVec.ofNat 8 (s.notice.summary s.path.working.masks)) s.path.working.waitCell s).setNotice
    (s.notice.afterSummary s.path.working.masks s.path.working.autoClear)

theorem exec_summaryRead (s : State) (cycles : s.takesCycles = true) :
    exec .summaryRead s = .next (summaryTaken s) := by
  refine congrArg Host.Outcome.next ((windowRead_eq _ s cycles).trans ?_)
  rw [controllerRead, classify_address _ _ (by decide), address_off]
  rfl

/-! ### A mask write (R112, R114) -/

/-- R138: a mask byte is taken as written, so no mask write records a clamp. -/
theorem settingClamp_of_mask {off : Nat} (v : Byte) (s : State) (kind : settingKind off = .mask)
    (alone : settingGroup off = [off]) (place : off < 64) (bytes : s.path.working.bytes.length = 64) :
    settingClamp off v s = none := by
  refine clampedBy_none ?_ fun m member other => absurd (by simpa [alone] using member) other
  have taken := takeSetting_byte s.path off off v
  rw [if_pos ⟨mem_settingGroup_self off, bytes ▸ place⟩] at taken
  refine taken.trans ?_
  simp only [workingByte, kind]

theorem judgedWrite_notice_of_unclamped (off v : Byte) (s : State) (unclamped : settingClamp off.toNat v s = none) :
    (judgedWrite off v s).notice = s.notice := by
  have judged : judgedWrite off v s = recordClamp (settingClamp off.toNat v s) _ := rfl
  rw [judged, unclamped]
  rfl

theorem maskCell_toNat {k : Nat} (cell : k < 3) : (BitVec.ofNat 8 (0x30 + k)).toNat = 0x30 + k := by
  simp only [BitVec.toNat_ofNat]
  omega

/-- A mask write is delivered to no block, and latches nothing. -/
theorem maskWritten_notice {k : Nat} (v : Byte) (s : State) (cell : k < 3) (bytes : s.path.working.bytes.length = 64) :
    (settingWritten (BitVec.ofNat 8 (0x30 + k)) v s).notice = s.notice := by
  obtain rfl | rfl | rfl : k = 0 ∨ k = 1 ∨ k = 2 := by omega
  all_goals
    obtain ⟨-, -, -, -, -, ended, -⟩ := settingEnded_keeps (judgedWrite _ v s)
    exact ended.trans (judgedWrite_notice_of_unclamped _ v s (settingClamp_of_mask v s rfl rfl (by decide) bytes))

/-- R112: a mask write is the masks of its eight flags, and leaves the others. -/
theorem maskWritten_masks {k i : Nat} (v : Byte) (s : State) (cell : k < 3) (place : i < 24)
    (raw : s.path.raw.length = 64) (bytes : s.path.working.bytes.length = 64) :
    (settingWritten (BitVec.ofNat 8 (0x30 + k)) v s).path.working.masks.getLsbD i
      = if i / 8 = k then v.getLsbD (i % 8) else s.path.working.masks.getLsbD i := by
  have alone : settingGroup (0x30 + k) = [0x30 + k] := by
    unfold settingGroup
    rw [if_neg (by omega), if_neg (by omega)]
  have kind : settingKind (0x30 + k) = .mask := by
    obtain rfl | rfl | rfl : k = 0 ∨ k = 1 ∨ k = 2 := by omega
    all_goals rfl
  obtain ⟨path, -⟩ := settingWritten_spec (BitVec.ofNat 8 (0x30 + k)) v s
  rw [Settings.masks_bit _ place, path, maskCell_toNat cell]
  split
  case isTrue own =>
    rw [own, s.path.written_byte_of_mem _ _ v _ bytes (by omega) (mem_settingGroup_self _)]
    have byte : workingByte (s.path.raw.set (0x30 + k) v) (0x30 + k) = v := by
      simp only [workingByte, kind]
      rw [getD_set, if_pos ⟨rfl, by omega⟩]
    rw [byte]
  case isFalse other =>
    rw [s.path.written_byte_of_notMem _ _ v _ (by rw [alone, List.mem_singleton]; omega), Settings.masks_bit _ place]

/-! ### The statement -/

/-- Settles O37: each of the three cycles by what it leaves of each flag, and the line by the flags and the masks. -/
theorem controllerClearsFlags : Obligations.ControllerClearsFlags := by
  refine ⟨fun k v s cycles canonical cell => ?latched, fun s cycles => ?summary, fun k v s writable cell => ?mask⟩
  case latched =>
    refine ⟨_, exec_latchedWrite v s cycles cell, fun i place => ?_, rfl, rfl, rfl,
      (latchedWritten k v s).noticePin_iff, ?_, rfl⟩
    · rw [← flagsNamed_bit v place]
      exact s.notice.clear_latched (flagsNamed k v) i
    · have written := Memory.read_write s.memory (address s.path.page (BitVec.ofNat 8 (0x4B + k))).toNat 0 canonical
      exact ⟨(written _).trans (if_pos rfl), fun a other => (written a).trans (if_neg other)⟩
  case summary =>
    refine ⟨_, s.notice.summary s.path.working.masks, exec_summaryRead s cycles, rfl, fun silent => ?_, fun answers => ?_,
      s.notice.afterSummary_line _ _, ?_⟩
    · exact ⟨s.notice.summary_of_none _ silent, s.notice.afterSummary_of_none _ _ silent⟩
    · obtain ⟨number, latched, unmasked, least⟩ := s.notice.summary_of_some _ answers
      exact ⟨number, latched, unmasked, least, fun i _ => s.notice.afterSummary_latched_of_some _ _ answers i⟩
    · have kept := s.notice.afterSummary_eq s.path.working.masks s.path.working.autoClear
      exact congrArg (fun n => (busRead _ _ s).setNotice n) kept
  case mask =>
    obtain ⟨cycles, raw, bytes⟩ := writable
    have notice := maskWritten_notice v s cell bytes
    have offset := maskCell_toNat cell
    have apart {x : Byte} (below : x.toNat < 0x30) : BitVec.ofNat 8 (0x30 + k) ≠ x := fun same => by
      rw [← same, offset] at below
      omega
    refine ⟨_, exec_settingWrite_written _ v s cycles (by omega) (apart (by decide)) (apart (by decide)), notice,
      fun i flag => maskWritten_masks v s cell flag raw bytes, ?_⟩
    rw [State.noticePin_iff, notice]

end Sys2Proof.Machine
end

section
/-! SUPPORT. The ends of the pulse timer, the quiet timer, the save timer and the supervision pulse, with their statement
(R115, R139, R148, R149, R161). -/

namespace Sys2Proof.Machine

/-! ### A request at the queue (R148) -/

namespace StoredImages

variable (x : StoredImages) (j : Job)

/-- R148: a request is dropped behind a move, merged with one of its kind, or appended. -/
theorem request_queue :
    (x.request j).queue = if x.movePending = true ∨ j ∈ x.queue then x.queue else x.queue ++ [j] := by
  have queued : x.queue.contains j = true ↔ j ∈ x.queue := List.contains_iff_mem
  by_cases move : x.movePending = true
  · simp [request, move]
  · by_cases merged : j ∈ x.queue
    · simp [request, move, merged]
    · simp [request, move, merged]

/-- A request moves the queue alone. -/
theorem request_eq : x.request j = { x with queue := (x.request j).queue } := by
  unfold request
  split
  · rfl
  · split <;> rfl

end StoredImages

/-! ### The save timer (R149) -/

/-- R149: at an expiry the next 15 min have begun. -/
def saveRestarted (s : State) : State := s.setStore { s.store with saveTimer := startTimer 900000 }

theorem saveTimerExpiry_eq (s : State) :
    saveTimerExpiry s = if s.store.changed then requestOwnSave (saveRestarted s) else saveRestarted s := rfl

theorem requestOwnSave_queue (s : State) :
    (requestOwnSave s).store.queue = (s.store.request .wearSave).queue := by
  unfold requestOwnSave
  split
  · exact ((s.store.request .wearSave).ask_keeps s.pins.holdAck).1
  · rfl

/-- A request of the unit's own leaves every block but the unit, whose save timer runs on. -/
theorem requestOwnSave_frame (s : State) :
    requestOwnSave s = s.setStore (requestOwnSave s).store ∧ (requestOwnSave s).store.saveTimer = s.store.saveTimer := by
  have kept : (s.store.request .wearSave).saveTimer = s.store.saveTimer := by rw [StoredImages.request_eq]
  unfold requestOwnSave
  split
  · refine ⟨rfl, Eq.trans ?_ kept⟩
    simp only [requestJob, State.setStore_store, StoredImages.ask]
    split <;> rfl
  · exact ⟨rfl, kept⟩

/-- R160: in a drain and a reload the request asks for no bus. -/
theorem requestOwnSave_hold (s : State) (phase : s.phase ≠ .running) :
    (requestOwnSave s).store.holdReq = s.store.holdReq ∧ (requestOwnSave s).store.hold = s.store.hold := by
  rw [requestOwnSave, if_neg phase, State.setStore_store, StoredImages.request_eq]
  exact ⟨rfl, rfl⟩

/-! ### The statement -/

/-- Settles O40: each end is one update of its block, and the requests reach the queue by R148. -/
theorem shortTimersEnd : Obligations.ShortTimersEnd := by
  refine ⟨fun s runs => ?pulse, fun s runs => ?quiet, fun s runs => ?save, fun s running pulse => ?supervision⟩
  case pulse =>
    refine ⟨_, congrArg Host.Outcome.next (if_pos runs), rfl, ?_⟩
    rw [State.noticePin_iff]
    simp [NoticeUnit.pulseExpiry]
  case quiet =>
    refine ⟨_, congrArg Host.Outcome.next (if_pos runs), ?_, rfl⟩
    exact (StoredImages.ask_keeps _ _).1.trans (s.store.request_queue .crcUpdate)
  case save =>
    have taken : exec .saveTimerExpiry s = .next (saveTimerExpiry s) := congrArg Host.Outcome.next (if_pos runs)
    refine ⟨_, taken, ?_⟩
    rw [saveTimerExpiry_eq]
    split
    case isTrue changed =>
      obtain ⟨frame, timer⟩ := requestOwnSave_frame (saveRestarted s)
      refine ⟨timer, fun unchanged => by simp [changed] at unchanged, fun _ => ?_,
        requestOwnSave_hold (saveRestarted s), frame⟩
      rw [requestOwnSave_queue]
      exact (saveRestarted s).store.request_queue .wearSave
    case isFalse unchanged =>
      exact ⟨rfl, fun _ => rfl, fun changed => absurd changed unchanged, fun _ => ⟨rfl, rfl⟩, rfl⟩
  case supervision =>
    refine ⟨_, congrArg Host.Outcome.next (if_pos pulse), rfl, ?_, ?_⟩
    · simp [State.controllerResetPin, State.controllerHeld, pulse]
    · simp [State.controllerResetPin, State.controllerHeld, running]

end Sys2Proof.Machine
end

section
/-! SUPPORT. What a series of the part's own writes leaves: the last byte at each offset, in the memory and in the protected
image alike, and the bytes of a save and of a move (R131, R145, R153, Table 27). -/

namespace Sys2Proof.Machine

/-! ### The last byte written -/

/-- The last byte that a series of writes puts at the memory offset `a`, if it puts one there. -/
def lastWritten : List (BitVec 15 × Byte) → Nat → Option Byte
  | [], _ => none
  | w :: rest, a => (lastWritten rest a).or (if w.1.toNat = a then some w.2 else none)

theorem lastWritten_append (xs ys : List (BitVec 15 × Byte)) (a : Nat) :
    lastWritten (xs ++ ys) a = (lastWritten ys a).or (lastWritten xs a) := by
  induction xs with
  | nil => simp [lastWritten]
  | cons w rest ih => rw [List.cons_append, lastWritten, lastWritten, ih, Option.or_assoc]

theorem lastWritten_singleton (w : BitVec 15 × Byte) (a : Nat) :
    lastWritten [w] a = if w.1.toNat = a then some w.2 else none := by simp [lastWritten]

/-- The last byte written is one of those written. -/
theorem mem_of_lastWritten {ws : List (BitVec 15 × Byte)} {a : Nat} {b : Byte} (h : lastWritten ws a = some b) :
    ∃ w ∈ ws, w.1.toNat = a ∧ w.2 = b := by
  induction ws with
  | nil => simp [lastWritten] at h
  | cons w rest ih =>
    rw [lastWritten, Option.or_eq_some_iff] at h
    obtain later | ⟨-, own⟩ := h
    · obtain ⟨x, hx, here⟩ := ih later
      exact ⟨x, List.mem_cons_of_mem _ hx, here⟩
    · split at own
      case isTrue here => exact ⟨w, List.mem_cons_self, here, Option.some.inj own⟩
      case isFalse => cases own

/-- A read after a series of writes: the last byte written there, or the old byte. -/
theorem Memory.read_writeAll (m : Memory) (ws : List (BitVec 15 × Byte)) (canonical : m.wf = true) (a : Nat) :
    (m.writeAll ws).read a = (lastWritten ws a).getD (m.read a) := by
  induction ws generalizing m with
  | nil => rfl
  | cons w rest ih =>
    have written := ih (m.write w.1.toNat w.2) (Memory.wf_write m _ _ canonical w.1.isLt)
    rw [Memory.read_write m _ _ canonical] at written
    refine written.trans ?_
    rw [lastWritten]
    simp only [eq_comm (a := a)]
    cases lastWritten rest a with
    | some b => rfl
    | none => by_cases here : w.1.toNat = a <;> simp [here]

/-- Writes that put at `a` only the byte the memory has there leave it. -/
theorem Memory.read_writeAll_of_same (m : Memory) (ws : List (BitVec 15 × Byte)) (canonical : m.wf = true) {a : Nat}
    (same : ∀ w ∈ ws, w.1.toNat = a → w.2 = m.read a) : (m.writeAll ws).read a = m.read a := by
  rw [Memory.read_writeAll m ws canonical]
  cases last : lastWritten ws a with
  | none => rfl
  | some b =>
    obtain ⟨w, hw, here, byte⟩ := mem_of_lastWritten last
    exact byte.symm.trans (same w hw here)

/-! ### Bytes at rising window offsets -/

theorem offset_toNat {n : Nat} (h : n < 256) : (BitVec.ofNat 8 n).toNat = n := by
  simp only [BitVec.toNat_ofNat]
  omega

theorem offset_ofNat (off : Byte) : BitVec.ofNat 8 off.toNat = off := by simp

/-- A memory offset is an address when its page and its window offset are. -/
theorem toNat_eq_address_iff (m : BitVec 15) (page : BitVec 7) (off : Byte) :
    m.toNat = (address page off).toNat ↔ m.toNat / 256 = page.toNat ∧ m.toNat % 256 = off.toNat := by
  have place := off.isLt
  rw [address_toNat]
  omega

theorem address_eq_iff (page page' : BitVec 7) (off off' : Byte) :
    (address page off).toNat = (address page' off').toNat ↔ page = page' ∧ off = off' := by
  rw [toNat_eq_address_iff, address_page, address_off, BitVec.toNat_inj, BitVec.toNat_inj]

/-- The writes of a run of bytes, each with its place. -/
theorem mem_writesAt {page : BitVec 7} {off : Nat} {bytes : List Byte} {w : BitVec 15 × Byte} (h : w ∈ writesAt page off bytes) :
    ∃ i, i < bytes.length ∧ w = (address page (BitVec.ofNat 8 (off + i)), bytes.getD i 0) := by
  induction bytes generalizing off with
  | nil => cases h
  | cons b rest ih =>
    obtain rfl | later := List.mem_cons.1 h
    · exact ⟨0, Nat.succ_pos _, rfl⟩
    · obtain ⟨i, place, here⟩ := ih later
      refine ⟨i + 1, Nat.succ_lt_succ place, here.trans ?_⟩
      rw [show off + (i + 1) = off + 1 + i by omega]
      rfl

/-- What a run of bytes leaves at the window offset `o` of its page. -/
theorem lastWritten_writesAt (page : BitVec 7) {off : Nat} {bytes : List Byte} (fits : off + bytes.length ≤ 256) (o : Byte) :
    lastWritten (writesAt page off bytes) (address page o).toNat
      = if off ≤ o.toNat then bytes[o.toNat - off]? else none := by
  induction bytes generalizing off with
  | nil => simp [writesAt, lastWritten]
  | cons b rest ih =>
    rw [List.length_cons] at fits
    have own : (address page (BitVec.ofNat 8 off)).toNat = (address page o).toNat ↔ off = o.toNat := by
      rw [address_inj, ← BitVec.toNat_inj, offset_toNat (by omega)]
    rw [writesAt, lastWritten, ih (by omega)]
    simp only [own]
    obtain before | here | after : o.toNat < off ∨ o.toNat = off ∨ off < o.toNat := by omega
    · simp [show ¬ off + 1 ≤ o.toNat by omega, show ¬ off = o.toNat by omega, show ¬ off ≤ o.toNat by omega]
    · simp [here]
    · obtain ⟨k, place⟩ : ∃ k, o.toNat = off + 1 + k := ⟨o.toNat - (off + 1), by omega⟩
      simp [place, show off + 1 + k - off = k + 1 by omega, show off ≤ off + 1 + k by omega,
        show ¬ off = off + 1 + k by omega]

/-- What a save leaves at the window offset `o` of its page: the record, then its check byte. -/
theorem lastWritten_saveWrites (page : BitVec 7) {record : List Byte} (size : record.length = 38) (o : Byte) :
    lastWritten (saveWrites page record) (address page o).toNat
      = if o = 0xC6#8 then some (crc8 record) else if 0xA0 ≤ o.toNat then record[o.toNat - 0xA0]? else none := by
  rw [saveWrites, lastWritten_append, lastWritten_singleton, lastWritten_writesAt page (by omega)]
  simp only [address_inj]
  by_cases check : o = 0xC6#8
  · simp [check]
  · simp [check, Ne.symm check]

/-- What a move leaves at the window offset `o` of its target page: the raw image, the check bytes and the record. -/
theorem lastWritten_moveWrites (page : BitVec 7) {raw record : List Byte} (length : raw.length = 64)
    (size : record.length = 38) (o : Byte) :
    lastWritten (moveWrites page raw record) (address page o).toNat
      = if o = 0xFE#8 then some (crc8 raw) else if o = 0xC6#8 then some (crc8 record)
        else if 0xA0 ≤ o.toNat then record[o.toNat - 0xA0]? else raw[o.toNat]? := by
  rw [moveWrites, lastWritten_append, lastWritten_append, lastWritten_singleton, lastWritten_saveWrites page size,
    lastWritten_writesAt page (by omega)]
  simp only [address_inj]
  by_cases settings : o = 0xFE#8
  · subst settings
    simp [size]
  · by_cases check : o = 0xC6#8
    · simp [check]
    · by_cases high : 0xA0 ≤ o.toNat
      · have beyond : raw[o.toNat]? = none := List.getElem?_eq_none (by omega)
        simp [settings, Ne.symm settings, check, high, beyond]
      · simp [settings, Ne.symm settings, check, high]

/-- The places of a save. -/
theorem mem_saveWrites {page : BitVec 7} {record : List Byte} (size : record.length = 38) {w : BitVec 15 × Byte}
    (h : w ∈ saveWrites page record) :
    ∃ n, 0xA0 ≤ n ∧ n ≤ 0xC6 ∧ w.1 = address page (BitVec.ofNat 8 n) := by
  obtain run | check := List.mem_append.1 h
  · obtain ⟨i, place, rfl⟩ := mem_writesAt run
    exact ⟨0xA0 + i, by omega, by omega, rfl⟩
  · obtain rfl := List.mem_singleton.1 check
    exact ⟨0xC6, by decide, by decide, rfl⟩

/-- The places of a move, with the bytes of the raw image among them. -/
theorem mem_moveWrites {page : BitVec 7} {raw record : List Byte} (length : raw.length = 64) (size : record.length = 38)
    {w : BitVec 15 × Byte} (h : w ∈ moveWrites page raw record) :
    (∃ n, n < 0x40 ∧ w = (address page (BitVec.ofNat 8 n), raw.getD n 0))
      ∨ ∃ n, ((0xA0 ≤ n ∧ n ≤ 0xC6) ∨ n = 0xFE) ∧ w.1 = address page (BitVec.ofNat 8 n) := by
  obtain settings | save := List.mem_append.1 h
  · obtain run | check := List.mem_append.1 settings
    · obtain ⟨i, place, rfl⟩ := mem_writesAt run
      exact .inl ⟨i, by omega, by rw [Nat.zero_add]⟩
    · obtain rfl := List.mem_singleton.1 check
      exact .inr ⟨0xFE, .inr rfl, rfl⟩
  · obtain ⟨n, low, high, here⟩ := mem_saveWrites size save
    exact .inr ⟨n, .inl ⟨low, high⟩, here⟩

/-! ### The protected image (R131) -/

/-- The window offset of byte `i` of the protected image. -/
def protectedOffset (i : Nat) : Byte := if i = 39 then 0xFE#8 else BitVec.ofNat 8 (0xA0 + i)

theorem protectedOffset_toNat {i : Nat} (h : i < 40) :
    (protectedOffset i).toNat = if i = 39 then 0xFE else 0xA0 + i := by
  unfold protectedOffset
  split
  · rfl
  · exact offset_toNat (by omega)

theorem protectedIndex_eq_some_iff (off : Byte) (i : Nat) :
    protectedIndex off = some i ↔ i < 40 ∧ off = protectedOffset i := by
  by_cases place : i < 40
  · rw [← BitVec.toNat_inj, protectedOffset_toNat place, protectedIndex]
    split_ifs <;> simp <;> omega
  · simp only [place, false_and, iff_false, protectedIndex]
    split_ifs <;> simp <;> omega

theorem protectedByte_of_index (image : List Byte) {i : Nat} (h : i < 40) :
    protectedByte image (protectedOffset i) = image.getD i 0 := by
  rw [protectedByte, (protectedIndex_eq_some_iff _ i).2 ⟨h, rfl⟩]

theorem protectedByte_of_none (image : List Byte) {off : Byte} (h : protectedIndex off = none) : protectedByte image off = 0 := by
  rw [protectedByte, h]

/-- The protected image after one write of the part's own. -/
def protectedWrite (image : List Byte) (page : BitVec 7) (w : BitVec 15 × Byte) : List Byte :=
  protectedAfter image page [w]

theorem protectedAfter_cons (image : List Byte) (page : BitVec 7) (w : BitVec 15 × Byte) (rest : List (BitVec 15 × Byte)) :
    protectedAfter image page (w :: rest) = protectedAfter (protectedWrite image page w) page rest := rfl

theorem protectedWrite_eq (image : List Byte) (page : BitVec 7) (w : BitVec 15 × Byte) :
    protectedWrite image page w = if w.1.toNat / 256 = page.toNat then
      (match protectedIndex (BitVec.ofNat 8 (w.1.toNat % 256)) with
        | some i => image.set i w.2
        | none => image) else image := rfl

theorem protectedWrite_length (image : List Byte) (page : BitVec 7) (w : BitVec 15 × Byte) :
    (protectedWrite image page w).length = image.length := by
  rw [protectedWrite_eq]
  split
  · split
    · exact List.length_set
    · rfl
  · rfl

theorem protectedAfter_length (image : List Byte) (page : BitVec 7) (ws : List (BitVec 15 × Byte)) :
    (protectedAfter image page ws).length = image.length := by
  induction ws generalizing image with
  | nil => rfl
  | cons w rest ih => rw [protectedAfter_cons, ih, protectedWrite_length]

theorem protectedWrite_getD {image : List Byte} (length : image.length = 40) (page : BitVec 7) (w : BitVec 15 × Byte)
    {i : Nat} (place : i < 40) : (protectedWrite image page w).getD i 0
      = if w.1.toNat = (address page (protectedOffset i)).toNat then w.2 else image.getD i 0 := by
  have offset : w.1.toNat % 256 = (protectedOffset i).toNat
      ↔ protectedIndex (BitVec.ofNat 8 (w.1.toNat % 256)) = some i := by
    rw [protectedIndex_eq_some_iff, ← BitVec.toNat_inj, offset_toNat (Nat.mod_lt _ (by decide))]
    simp only [place, true_and]
  simp only [toNat_eq_address_iff, offset, protectedWrite_eq]
  by_cases own : w.1.toNat / 256 = page.toNat
  · cases protectedIndex (BitVec.ofNat 8 (w.1.toNat % 256)) with
    | none => simp [own]
    | some k =>
      simp only [own, if_true, true_and, Option.some.injEq, eq_comm (a := k)]
      rw [getD_set, length]
      simp only [place, and_true]
  · simp [own]

/-- R131: the protected image after a series of the part's own writes, byte by byte. -/
theorem protectedAfter_getD {image : List Byte} (length : image.length = 40) (page : BitVec 7)
    (ws : List (BitVec 15 × Byte)) {i : Nat} (place : i < 40) : (protectedAfter image page ws).getD i 0
      = (lastWritten ws (address page (protectedOffset i)).toNat).getD (image.getD i 0) := by
  induction ws generalizing image with
  | nil => rfl
  | cons w rest ih =>
    rw [protectedAfter_cons, ih ((protectedWrite_length _ _ _).trans length), protectedWrite_getD length page w place,
      lastWritten]
    cases lastWritten rest (address page (protectedOffset i)).toNat with
    | some b => rfl
    | none => by_cases here : w.1.toNat = (address page (protectedOffset i)).toNat <;> simp [here]

/-- A list of 40 bytes by its bytes. -/
theorem eq_of_getD {xs ys : List Byte} {n : Nat} (hx : xs.length = n) (hy : ys.length = n)
    (h : ∀ i, i < n → xs.getD i 0 = ys.getD i 0) : xs = ys := by
  refine List.ext_getElem (hx.trans hy.symm) fun i left right => ?_
  have byte := h i (hx ▸ left)
  rwa [List.getD_eq_getElem _ _ left, List.getD_eq_getElem _ _ right] at byte

end Sys2Proof.Machine
end

section
/-! SUPPORT. What an event leaves of the images: the window page, the raw image, the protected image, the bus, the memory and
the job in service, as one relation from the state before the event (R131, R145, R152). -/

namespace Sys2Proof.Machine

/-- What the relation below reads of a state. -/
def State.imageFigures (s : State) :
    (Phase × BitVec 7 × List Byte × List Byte) × BusCycle × Memory × Option Service × HoldState :=
  ((s.phase, s.path.page, s.path.raw, s.path.protectedImage), s.bus, s.memory, s.store.service, s.store.hold)

/-- From `s` to `t` the phase, the images, the bus, the memory and the job in service stand, and a burst goes on. -/
structure State.ImagesStand (s t : State) : Prop where
  phase : t.phase = s.phase
  page : t.path.page = s.path.page
  raw : t.path.raw = s.path.raw
  protectedImage : t.path.protectedImage = s.path.protectedImage
  bus : t.bus = s.bus
  memory : t.memory = s.memory
  service : t.store.service = s.store.service
  burst : s.store.hold = .burst → t.store.hold = .burst

namespace State.ImagesStand

variable {s t u : State}

/-! ### Changes of one block -/

theorem refl (s : State) : s.ImagesStand s := ⟨rfl, rfl, rfl, rfl, rfl, rfl, rfl, id⟩

theorem trans (h : s.ImagesStand t) (k : t.ImagesStand u) : s.ImagesStand u :=
  ⟨k.phase.trans h.phase, k.page.trans h.page, k.raw.trans h.raw, k.protectedImage.trans h.protectedImage,
    k.bus.trans h.bus, k.memory.trans h.memory, k.service.trans h.service, k.burst ∘ h.burst⟩

/-- What moves none of the figures that the relation reads. -/
theorem stands (h : s.ImagesStand t) (same : u.imageFigures = t.imageFigures) : s.ImagesStand u := by
  simp only [State.imageFigures, Prod.mk.injEq] at same
  obtain ⟨⟨phase, page, raw, protectedImage⟩, bus, memory, service, hold⟩ := same
  exact h.trans ⟨phase, page, raw, protectedImage, bus, memory, service, fun burst => hold.trans burst⟩

/-- A report to the blocks beside the stored-image unit. -/
theorem reported (h : s.ImagesStand t) (blocks : onlyBlocks t u) (store : u.store = t.store) : s.ImagesStand u := by
  obtain ⟨phase, -, -, -, path, bus, memory, -⟩ := blocks
  exact h.stands (by simp only [State.imageFigures, phase, path, bus, memory, store])

theorem ite {c : Prop} [Decidable c] (h : s.ImagesStand t) (k : s.ImagesStand u) : s.ImagesStand (if c then t else u) := by
  split
  · exact h
  · exact k

theorem setPins (h : s.ImagesStand t) (p : Pins) : s.ImagesStand (t.setPins p) := h.stands rfl
theorem setFront (h : s.ImagesStand t) (f : FrontEnd) : s.ImagesStand (t.setFront f) := h.stands rfl
theorem setAir (h : s.ImagesStand t) (a : AirMover) : s.ImagesStand (t.setAir a) := h.stands rfl
theorem setFilter (h : s.ImagesStand t) (f : FilterState) : s.ImagesStand (t.setFilter f) := h.stands rfl
theorem setDry (h : s.ImagesStand t) (d : Drying) : s.ImagesStand (t.setDry d) := h.stands rfl
theorem setTank (h : s.ImagesStand t) (k : TankBlock) : s.ImagesStand (t.setTank k) := h.stands rfl
theorem setNotice (h : s.ImagesStand t) (n : NoticeUnit) : s.ImagesStand (t.setNotice n) := h.stands rfl
theorem setLamps (h : s.ImagesStand t) (e : LampEngine) : s.ImagesStand (t.setLamps e) := h.stands rfl
theorem setCmd (h : s.ImagesStand t) (c : CommandBlock) : s.ImagesStand (t.setCmd c) := h.stands rfl

/-- Another state of the memory path, with the same images. -/
theorem setPath (h : s.ImagesStand t) {p : MemoryPath} (page : p.page = t.path.page) (raw : p.raw = t.path.raw)
    (image : p.protectedImage = t.path.protectedImage) : s.ImagesStand (t.setPath p) :=
  h.trans ⟨rfl, page, raw, image, rfl, rfl, rfl, id⟩

/-- Another state of the stored-image unit, with the same job in service. -/
theorem setStore (h : s.ImagesStand t) {x : StoredImages} (service : x.service = t.store.service := by rfl)
    (burst : t.store.hold = .burst → x.hold = .burst := by exact id) : s.ImagesStand (t.setStore x) :=
  h.trans ⟨rfl, rfl, rfl, rfl, rfl, rfl, service, burst⟩

/-! ### The stored-image unit (R148 to R150) -/

/-- R150: the question for the bus leaves a job in service and its burst. -/
theorem ask (h : s.ImagesStand t) {x : StoredImages} (service : x.service = t.store.service) (hold : x.hold = t.store.hold)
    (ack : Bool) : s.ImagesStand (t.setStore (x.ask ack)) := by
  refine h.setStore ((x.ask_keeps ack).2.2.1.trans service) fun burst => ?_
  have held : x.hold = .burst := hold.trans burst
  rw [x.ask_of_kept ack (.inl (by simp [held]))]
  exact held

theorem request (h : s.ImagesStand t) (j : Job) : s.ImagesStand (t.setStore (t.store.request j)) :=
  h.setStore (by rw [StoredImages.request_eq]) (by rw [StoredImages.request_eq]; exact id)

theorem requestJob (h : s.ImagesStand t) (j : Job) : s.ImagesStand (requestJob j t) :=
  h.ask (by rw [StoredImages.request_eq]) (by rw [StoredImages.request_eq]) _

theorem requestUrgent (h : s.ImagesStand t) : s.ImagesStand (requestUrgent t) :=
  h.ask (x := t.store.requestUrgentSave) rfl rfl _

theorem markChanged (h : s.ImagesStand t) : s.ImagesStand (markChanged t) := h.setStore
theorem markIf (h : s.ImagesStand t) (b : Bool) : s.ImagesStand (markIf b t) := .ite h.markChanged h

theorem refuseHold (h : s.ImagesStand t) (asking : t.store.hold = .requesting) : s.ImagesStand (refuseHold t) := by
  have waiting (n : Nat) : s.ImagesStand (t.setStore { t.store.enterRetryWait with refusals := n }) :=
    h.setStore rfl (by simp [asking])
  exact .ite (waiting _) ((waiting _).setNotice _)

theorem saveTimerExpiry (h : s.ImagesStand t) : s.ImagesStand (saveTimerExpiry t) := by
  have restarted : s.ImagesStand (saveRestarted t) := h.setStore
  rw [saveTimerExpiry_eq]
  exact .ite (.ite (restarted.requestJob _) (restarted.request _)) restarted

/-! ### Reports (R26, R42 to R47, R66, R110, R119, R171) -/

theorem raise (h : s.ImagesStand t) (f : Flag) : s.ImagesStand (raise f t) := h.setNotice _
theorem updateLamps (h : s.ImagesStand t) (g : LampEngine → LampEngine) : s.ImagesStand (updateLamps g t) := h.setLamps _

theorem setComp (h : s.ImagesStand t) (c : CompState) : s.ImagesStand (setComp c t) :=
  h.reported (by simp [onlyBlocks]) (by simp)

theorem judgeHold (h : s.ImagesStand t) : s.ImagesStand (judgeHold t) := h.reported (by simp [onlyBlocks]) (by simp)
theorem judgeStart (h : s.ImagesStand t) : s.ImagesStand (judgeStart t) := h.reported (by simp [onlyBlocks]) (by simp)

theorem stopCompressor (h : s.ImagesStand t) : s.ImagesStand (stopCompressor t) :=
  h.reported (by simp [onlyBlocks]) (by simp)

theorem judgeDrying (h : s.ImagesStand t) : s.ImagesStand (judgeDrying t) := h.reported (by simp [onlyBlocks]) (by simp)
theorem evaluateDemand (h : s.ImagesStand t) : s.ImagesStand (evaluateDemand t) := h.setDry _

theorem judgeAllStop (h : s.ImagesStand t) : s.ImagesStand (judgeAllStop t) :=
  h.reported (by simp [onlyBlocks]) (by simp)

theorem setAllStop (h : s.ImagesStand t) (on : Bool) : s.ImagesStand (setAllStop on t) :=
  h.reported (by simp [onlyBlocks]) (by simp)

theorem reportCondition (h : s.ImagesStand t) (f : Flag) (b : Bool) : s.ImagesStand (reportCondition f b t) :=
  h.reported (by simp [onlyBlocks]) (by simp)

theorem reportChange (h : s.ImagesStand t) (f : Flag) (b : Bool) : s.ImagesStand (reportChange f b t) :=
  .ite h (h.reportCondition f b)

theorem reportProgress (h : s.ImagesStand t) (p : Nat) : s.ImagesStand (reportProgress p t) := (h.setCmd _).updateLamps _
theorem measurePoint (h : s.ImagesStand t) (i : Nat) : s.ImagesStand (measurePoint i t) := (h.setAir _).reportProgress _

theorem tellLearnPending (h : s.ImagesStand t) (b : Bool) : s.ImagesStand (tellLearnPending b t) := (h.setDry _).judgeDrying

theorem startSweep (h : s.ImagesStand t) : s.ImagesStand (startSweep t) := h.reported (by simp [onlyBlocks]) (by simp)
theorem abandonSweep (h : s.ImagesStand t) : s.ImagesStand (abandonSweep t) := h.reported (by simp [onlyBlocks]) (by simp)

/-! ### Filter accounting (R50 to R61) -/

theorem reportRise (h : s.ImagesStand t) (stage : Stage) : s.ImagesStand (reportRise stage t) := by
  have told := h.markChanged.updateLamps fun e => { e with stage := stage }
  cases stage with
  | good => exact told
  | worn => exact told.raise _
  | exhausted => exact told.reportCondition _ _

theorem evaluateFilter (h : s.ImagesStand t) : s.ImagesStand (evaluateFilter t) :=
  .ite (h.setFilter _) ((h.setFilter _).reportRise _)

theorem dosePeriod (h : s.ImagesStand t) : s.ImagesStand (dosePeriod t) := ((h.setFilter _).markIf _).evaluateFilter

theorem judgeLoadedFilter (h : s.ImagesStand t) : s.ImagesStand (judgeLoadedFilter t) := by
  simp only [Machine.judgeLoadedFilter]
  exact (h.evaluateFilter.reportChange _ _).updateLamps _

/-! ### The tank block (R95 to R107) -/

theorem tankReports (h : s.ImagesStand t) (before : TankBlock) (e : TankEvent) (forced : Bool) :
    s.ImagesStand (tankReports before e forced t) := by
  have checked : s.ImagesStand (floatChecked before e t) := .ite ((h.markIf _).raise _) (h.markIf _)
  have told {u : State} (hu : s.ImagesStand u) (c : Prop) [Decidable c] (level : TankLevel) :
      s.ImagesStand (if c then dryingTankReport level u else u) :=
    .ite (hu.reported (by simp [onlyBlocks]) (by simp)) hu
  exact told (((((checked.reportChange .tankAbsent _).reportChange .tankFull _).reportChange .tankHigh _).reportChange
    .pumpFail _).updateLamps _) _ _

theorem tankEvent (h : s.ImagesStand t) (e : TankEvent) : s.ImagesStand (tankEvent e t) := by
  have reports (forced : Bool) := (h.setTank (t.tank.after t.path.working e)).tankReports t.tank e forced
  cases e with
  | settle => exact reports true
  | highFloat | fullFloat | present | runMinute | onTimeEnd | afterRunEnd | setting =>
    exact .ite (reports false) (h.setTank _)

theorem runSecondExpiry (h : s.ImagesStand t) : s.ImagesStand (runSecondExpiry t) :=
  .ite (h.setDry _).judgeDrying ((h.setDry _).markChanged.tankEvent _).judgeDrying

/-! ### Drying's events (R67 to R90) -/

theorem tripCompressor (h : s.ImagesStand t) : s.ImagesStand (tripCompressor t) := by
  have tripped := (h.setDry t.dry.trip).markIf (decide (t.dry.trip.tripTotal ≠ t.dry.tripTotal))
  have told : s.ImagesStand (if 3 ≤ t.dry.trip.trips.length then _ else _) :=
    .ite ((tripped.setComp .lockedOut).reportCondition .compLockout true)
      ((tripped.setComp .tripped).reportCondition .compTrip true)
  exact told.requestJob _

theorem checkTrip (h : s.ImagesStand t) : s.ImagesStand (checkTrip t) := by
  unfold Machine.checkTrip
  split
  · exact .ite h.tripCompressor h
  · exact .ite ((h.setComp _).reportCondition _ _).judgeHold h
  all_goals exact h

theorem checkWarning (h : s.ImagesStand t) : s.ImagesStand (checkWarning t) := h.reported (by simp [onlyBlocks]) (by simp)

theorem enterDefrost (h : s.ImagesStand t) : s.ImagesStand (enterDefrost t) := ((h.setDry _).markIf _).setComp _
theorem endDefrost (h : s.ImagesStand t) : s.ImagesStand (endDefrost t) := ((h.setDry _).setComp _).judgeHold

theorem checkDefrost (h : s.ImagesStand t) : s.ImagesStand (checkDefrost t) := by
  unfold Machine.checkDefrost
  split
  · exact .ite h.enterDefrost (h.setDry _)
  · exact .ite h.endDefrost (h.setDry _)
  all_goals exact h

theorem dryingCheck (h : s.ImagesStand t) : s.ImagesStand (dryingCheck t) :=
  h.checkTrip.checkWarning.checkDefrost.evaluateDemand.judgeDrying

theorem enterRunning (h : s.ImagesStand t) : s.ImagesStand (enterRunning t) := ((h.setDry _).markIf _).setComp _

theorem airflowReport (h : s.ImagesStand t) : s.ImagesStand (airflowReport t) := by
  unfold Machine.airflowReport
  split
  · exact .ite (h.enterRunning.reportCondition _ _) h
  · exact .ite (h.stopCompressor.reportCondition _ _) (.ite (h.reportCondition _ _) h)
  all_goals exact h

theorem offTimeExpiry (h : s.ImagesStand t) : s.ImagesStand (offTimeExpiry t) :=
  .ite (h.setDry _).judgeHold.judgeStart (h.setDry _)

theorem confirmationExpiry (h : s.ImagesStand t) : s.ImagesStand (confirmationExpiry t) :=
  ((h.setDry _).setComp _).reportCondition _ _

theorem extraHoldExpiry (h : s.ImagesStand t) : s.ImagesStand (extraHoldExpiry t) := (h.setDry _).judgeHold.judgeStart
theorem defrostMaxExpiry (h : s.ImagesStand t) : s.ImagesStand (defrostMaxExpiry t) := (h.endDefrost.raise _).judgeStart

/-! ### The air mover's events (R31 to R46) -/

theorem stallCheck (h : s.ImagesStand t) : s.ImagesStand (stallCheck t) := h.reported (by simp [onlyBlocks]) (by simp)

theorem airflowPeriod (h : s.ImagesStand t) : s.ImagesStand (airflowPeriod t) :=
  airflowReport (.ite (h.setAir _).markChanged.evaluateFilter (h.setAir _))

theorem completeSweep (h : s.ImagesStand t) (results : List Nat) : s.ImagesStand (completeSweep results t) :=
  ((((h.setAir _).markIf _).evaluateFilter.reportProgress 10).tellLearnPending false).requestJob _

theorem placeResult (h : s.ImagesStand t) (i : Nat) (taken : List Nat) : s.ImagesStand (placeResult i taken t) :=
  .ite h.abandonSweep (.ite ((h.setAir _).measurePoint _) (h.completeSweep _))

theorem learnHoldExpiry (h : s.ImagesStand t) : s.ImagesStand (learnHoldExpiry t) :=
  h.reported (by simp [onlyBlocks]) (by simp)

theorem learnReading (h : s.ImagesStand t) : s.ImagesStand (learnReading t) := by
  unfold Machine.learnReading
  split
  · exact .ite (h.setAir _) (h.placeResult _ _)
  · exact h

/-! ### The measurement front end (R2 to R20) -/

theorem judgeSupply (h : s.ImagesStand t) : s.ImagesStand (judgeSupply t) := by
  have detected (f : FrontEnd) (c : Prop) [Decidable c] :
      s.ImagesStand (if c then Machine.raise .supplyLow (t.setFront f) else t.setFront f) :=
    .ite ((h.setFront f).raise _) (h.setFront f)
  exact .ite h (((detected _ _).setAir _).setDry _).judgeDrying

theorem statusReport (h : s.ImagesStand t) (ch : Channel) : s.ImagesStand (statusReport ch t) := by
  cases ch with
  | rh => exact h.evaluateDemand.judgeDrying
  | tevap => exact judgeDrying (.ite h (h.setDry _))
  | troom | tcond => exact h.judgeDrying
  | supply => exact h

theorem converterArrival (h : s.ImagesStand t) (ch : Channel) (code : BitVec 10) :
    s.ImagesStand (converterArrival ch code t) := by
  have judged : s.ImagesStand (arrivalJudged ch code t) := (h.setFront _).reportChange _ _
  have told : s.ImagesStand (arrivalReported ch code t) :=
    .ite judged (judged.statusReport ch)
  rw [converterArrival_eq]
  exact .ite told.judgeSupply told

theorem particleWindowEnd (h : s.ImagesStand t) : s.ImagesStand (particleWindowEnd t) := by
  have judged : s.ImagesStand (windowJudged t) := (h.setFront _).reportChange _ _
  rw [particleWindowEnd_eq]
  exact judged.setAir _

theorem restartDebounce (h : s.ImagesStand t) (sw : Switch) : s.ImagesStand (restartDebounce sw t) := .ite (h.setFront _) h

theorem switchRawChange (h : s.ImagesStand t) (sw : Switch) (high : Bool) : s.ImagesStand (switchRawChange sw high t) :=
  .ite ((h.setPins _).restartDebounce sw) (h.setPins _)

theorem doorReport (h : s.ImagesStand t) (isOpen : Bool) : s.ImagesStand (doorReport isOpen t) :=
  h.reported (by simp [onlyBlocks]) (by simp)

theorem switchReport (h : s.ImagesStand t) (sw : Switch) (b : Bool) : s.ImagesStand (switchReport sw b t) := by
  cases sw with
  | highFloat => exact h.tankEvent (.highFloat b)
  | fullFloat => exact h.tankEvent (.fullFloat b)
  | tankPresent => exact h.tankEvent (.present b)
  | door => exact h.doorReport b

theorem debounceExpiry (h : s.ImagesStand t) (sw : Switch) : s.ImagesStand (debounceExpiry sw t) :=
  .ite (h.setFront _) ((h.setFront _).switchReport _ _)

theorem settlingExpiry (h : s.ImagesStand t) : s.ImagesStand (settlingExpiry t) := by
  rw [settlingExpiry_eq]
  exact ((h.setFront _).tankEvent _).doorReport _

/-! ### The commands of Table 30 and supervision (R163 to R172) -/

theorem setCondition (h : s.ImagesStand t) (f : Flag) (b : Bool) : s.ImagesStand (setCondition f b t) := h.setNotice _
theorem airModeReport (h : s.ImagesStand t) (m : ModeState) : s.ImagesStand (airModeReport m t) := h.setAir _

theorem dryingModeReport (h : s.ImagesStand t) (m : ModeState) : s.ImagesStand (dryingModeReport m t) :=
  (h.setDry _).evaluateDemand.judgeDrying

theorem accept (h : s.ImagesStand t) (status : CommandStatus) (awaited : Awaited) :
    s.ImagesStand (accept status awaited t) := h.setCmd _

theorem refuse (h : s.ImagesStand t) (status : CommandStatus) : s.ImagesStand (refuse status t) := (h.setCmd _).raise _

theorem clearFilter (h : s.ImagesStand t) : s.ImagesStand (clearFilter t) :=
  (((((h.setAir _).setFilter _).markIf _).evaluateFilter.reportChange .filterExhausted false).updateLamps _).requestJob _

theorem filterReset (h : s.ImagesStand t) : s.ImagesStand (filterReset t) :=
  .ite (h.accept _ _).clearFilter.startSweep (h.accept _ _).clearFilter

theorem clearLockout (h : s.ImagesStand t) : s.ImagesStand (clearLockout t) := by
  have freed : s.ImagesStand (dryingClearLockout (Machine.accept .accepted .save t)) :=
    (h.accept .accepted .save).reported (by simp [onlyBlocks]) (by simp)
  have both : s.ImagesStand (airClearLockout _) := .ite (freed.setAir _) freed
  exact .ite (both.requestJob _) (h.refuse _)

/-- R172: the steps of a RESUME, each after the one before. -/
theorem leaveStandalone (h : s.ImagesStand t) : s.ImagesStand (leaveStandalone t) := by
  have ended : s.ImagesStand (if t.cmd.allStop then Machine.setAllStop false t else t) := .ite (h.setAllStop false) h
  exact (((((ended.setCmd _).airModeReport .normal).dryingModeReport .normal).reportCondition .standalone
    false).setCmd _).accept _ _

theorem judgeCommand (h : s.ImagesStand t) (code : Byte) : s.ImagesStand (judgeCommand code t) := by
  have learn : s.ImagesStand (learnBaseline t) := .ite (h.refuse _) (.ite (h.refuse _) (h.accept _ _).startSweep)
  have abort : s.ImagesStand (abortLearn t) := .ite (h.accept _ _).abandonSweep (h.refuse _)
  have defrost : s.ImagesStand (defrostNow t) := .ite (h.accept _ _).enterDefrost (h.refuse _)
  have resumed : s.ImagesStand (resume t) := .ite h.leaveStandalone (h.refuse _)
  exact .ite h.filterReset (.ite learn (.ite abort (.ite defrost (.ite h.clearLockout (.ite resumed
    (.ite ((h.accept _ _).requestJob _) (.ite (h.accept _ _) (h.refuse _))))))))

theorem startPulse (h : s.ImagesStand t) : s.ImagesStand (t.setStore t.store.startPulse) := h.setStore

theorem enterStandalone (h : s.ImagesStand t) : s.ImagesStand (enterStandalone t) := by
  have entered := (h.setCmd { t.cmd with mode := .standalone, count := 0, counting := none }).setCondition .standalone true
  have judged := ((entered.airModeReport .standalone).abandonSweep.dryingModeReport .standalone).judgeAllStop
  exact .ite judged.startPulse judged

theorem supervisionCount (h : s.ImagesStand t) : s.ImagesStand (supervisionCount t) := .ite h.enterStandalone (h.setCmd _)

/-! ### Setting writes (R135 to R141) -/

theorem delivered (h : s.ImagesStand t) {old : Settings} (ht : Delivered old t u) : s.ImagesStand u := by
  have slots (f : AirMover → AirMover) : s.ImagesStand (changeSlots f t) := h.setAir _
  cases ht with
  | readWhereUsed => exact h
  | mode => exact judgeDrying (.ite (slots _) (slots _).evaluateDemand)
  | setpoint m => exact judgeDrying (.ite h.evaluateDemand h)
  | band => exact h.evaluateDemand.judgeDrying
  | drying => exact h.judgeDrying
  | dryDuty => exact (slots _).judgeDrying
  | speeds | defrostDuty | standaloneDuty => exact slots _
  | filter => exact h.evaluateFilter
  | tank off => exact .ite h (h.tankEvent _)
  | polarity =>
    have entry {v : State} (hv : s.ImagesStand v) (sw : Switch) : s.ImagesStand (polarityEntry old v sw) :=
      .ite hv (hv.restartDebounce sw)
    exact entry (entry (entry (entry h .highFloat) .fullFloat) .tankPresent) .door
  | threshold => exact .ite h h.judgeSupply
  | lamps => exact h.updateLamps id
  | lampLevel => exact h.setLamps _
  | policy => exact h.judgeAllStop

theorem recordClamp (h : s.ImagesStand t) (clamped : Option Nat) : s.ImagesStand (recordClamp clamped t) := by
  cases clamped <;> exact h.stands rfl

theorem settingEnded (h : s.ImagesStand t) : s.ImagesStand (settingEnded t) := by
  rw [settingEnded_eq]
  exact h.stands rfl

end State.ImagesStand

end Sys2Proof.Machine
end

section
/-! SUPPORT. The images a load finds, replaced where a check fails, and the memory it leaves: its page holds the raw image, the
record and both check bytes (R126, R131, R157). -/

namespace Sys2Proof.Machine

/-! ### The reads of a load (R156, R157) -/

theorem readRun_length (m : Memory) (page : BitVec 7) (off count : Nat) : (readRun m page off count).length = count := by
  simp [readRun]

theorem readRun_getD (m : Memory) (page : BitVec 7) (off : Nat) {count i : Nat} (place : i < count) :
    (readRun m page off count).getD i 0 = m.read (address page (BitVec.ofNat 8 (off + i))).toNat := by
  have member : i < (readRun m page off count).length := (readRun_length m page off count).symm ▸ place
  rw [List.getD_eq_getElem _ _ member]
  simp [readRun]

/-- R157: the settings a load takes. -/
theorem loadReads_settings (m : Memory) :
    (loadReads m).raw.length = 64
      ∧ ((loadReads m).settingsOk = true → (loadReads m).raw = readRun m (loadReads m).page 0x00 64
        ∧ crc8 (loadReads m).raw = m.read (address (loadReads m).page 0xFE#8).toNat) := by
  refine ⟨State.fanSafe.loadReads_raw_length m, fun ok => ?_⟩
  have raw : (loadReads m).raw = readRun m (loadReads m).page 0x00 64 := if_pos ok
  rw [raw]
  exact ⟨rfl, beq_iff_eq.1 ok⟩

/-- R157: the record a load takes. -/
theorem loadReads_record (m : Memory) :
    (loadReads m).record.length = 38
      ∧ ((loadReads m).recordOk = true → (loadReads m).record = readRun m (loadReads m).page 0xA0 38
        ∧ crc8 (loadReads m).record = m.read (address (loadReads m).page 0xC6#8).toNat) := by
  by_cases ok : (loadReads m).recordOk = true
  · have record : (loadReads m).record = readRun m (loadReads m).page 0xA0 38 := if_pos ok
    rw [record]
    exact ⟨readRun_length _ _ _ _, fun _ => ⟨rfl, beq_iff_eq.1 ok⟩⟩
  · have record : (loadReads m).record = List.replicate 38 0 := if_neg ok
    rw [record]
    exact ⟨rfl, fun yes => absurd yes ok⟩

/-! ### The write-backs of a load (R157) -/

theorem lastWritten_loadWrites {l : LoadReads} (length : l.raw.length = 64) (size : l.record.length = 38) (o : Byte) :
    lastWritten l.writes (address l.page o).toNat
      = (if l.recordOk = true then none else if o = 0xC6#8 then some (crc8 l.record)
          else if 0xA0 ≤ o.toNat then l.record[o.toNat - 0xA0]? else none).or
        (if l.settingsOk = true then none else if o = 0xFE#8 then some (crc8 l.raw) else l.raw[o.toNat]?) := by
  have settings : lastWritten (writesAt l.page 0x00 l.raw ++ [(address l.page 0xFE#8, crc8 l.raw)]) (address l.page o).toNat
      = if o = 0xFE#8 then some (crc8 l.raw) else l.raw[o.toNat]? := by
    rw [lastWritten_append, lastWritten_singleton, lastWritten_writesAt l.page (by omega)]
    simp only [address_inj]
    by_cases check : o = 0xFE#8
    · simp [check]
    · simp [check, Ne.symm check]
  rw [LoadReads.writes, lastWritten_append, ← settings, ← lastWritten_saveWrites l.page size]
  by_cases record : l.recordOk = true <;> by_cases raw : l.settingsOk = true <;> simp [record, raw, lastWritten]

/-- R126, R157: after a load the page holds the raw image. -/
theorem loaded_raw (m : Memory) (canonical : m.wf = true) {i : Nat} (place : i < 64) :
    (m.writeAll (loadReads m).writes).read (address (loadReads m).page (BitVec.ofNat 8 i)).toNat
      = (loadReads m).raw.getD i 0 := by
  obtain ⟨length, settings⟩ := loadReads_settings m
  have offset : (BitVec.ofNat 8 i).toNat = i := offset_toNat (by omega)
  have apart {x : Byte} (high : 64 ≤ x.toNat) : BitVec.ofNat 8 i ≠ x := fun same => by
    rw [← same, offset] at high
    omega
  rw [Memory.read_writeAll m _ canonical, lastWritten_loadWrites length (loadReads_record m).1]
  simp only [offset, apart (x := 0xC6#8) (by decide), apart (x := 0xFE#8) (by decide), show ¬ 0xA0 ≤ i by omega, if_false,
    ite_self, Option.none_or]
  split
  case isTrue ok =>
    rw [(settings ok).1, readRun_getD _ _ _ place, Nat.zero_add]
    rfl
  case isFalse =>
    rw [List.getElem?_eq_getElem (length ▸ place), List.getD_eq_getElem _ _ (length ▸ place)]
    rfl

/-- R131, R157: after a load the page holds the protected image. -/
theorem loaded_protected (m : Memory) (canonical : m.wf = true) {i : Nat} (place : i < 40) :
    (m.writeAll (loadReads m).writes).read (address (loadReads m).page (protectedOffset i)).toNat
      = (loadReads m).memoryPath.protectedImage.getD i 0 := by
  obtain ⟨length, settings⟩ := loadReads_settings m
  obtain ⟨size, record⟩ := loadReads_record m
  have image : (loadReads m).memoryPath.protectedImage
      = (loadReads m).record ++ [crc8 (loadReads m).record, crc8 (loadReads m).raw] := rfl
  rw [Memory.read_writeAll m _ canonical, lastWritten_loadWrites length size, image]
  obtain run | rfl | rfl : i < 38 ∨ i = 38 ∨ i = 39 := by omega
  · have offset : (protectedOffset i).toNat = 0xA0 + i := by rw [protectedOffset_toNat place, if_neg (by omega)]
    have apart {x : Byte} (high : 0xC6 ≤ x.toNat) : protectedOffset i ≠ x := fun same => by
      rw [← same, offset] at high
      omega
    have beyond : (loadReads m).raw[0xA0 + i]? = none := List.getElem?_eq_none (by omega)
    rw [List.getD_append _ _ _ _ (by omega)]
    simp only [offset, apart (x := 0xC6#8) (by decide), apart (x := 0xFE#8) (by decide), Nat.le_add_right, if_false, if_true,
      beyond, ite_self, Option.or_none, Nat.add_sub_cancel_left]
    split
    case isTrue ok =>
      rw [(record ok).1, readRun_getD _ _ _ run, protectedOffset, if_neg (by omega)]
      rfl
    case isFalse =>
      rw [List.getElem?_eq_getElem (size ▸ run), List.getD_eq_getElem _ _ (size ▸ run)]
      rfl
  · have check : protectedOffset 38 = 0xC6#8 := rfl
    have beyond : (loadReads m).raw[0xC6]? = none := List.getElem?_eq_none (by omega)
    rw [List.getD_append_right _ _ _ _ (by omega), size, check]
    split
    case isTrue ok => simp [(record ok).2, beyond]
    case isFalse => simp
  · have check : protectedOffset 39 = 0xFE#8 := rfl
    rw [List.getD_append_right _ _ _ _ (by omega), size, check]
    have beyond : (loadReads m).record[0xFE - 0xA0]? = none := List.getElem?_eq_none (by omega)
    by_cases ok : (loadReads m).settingsOk = true
    · simp [(settings ok).2, ok, size]
    · simp [ok, size]

end Sys2Proof.Machine
end

section
/-! SUPPORT. A controller write by its place: what the part takes of it, what it drops, and the byte the memory receives (R127 to
R134, R144, Table 24). -/

namespace Sys2Proof.Machine

/-! ### Places of the window (Table 24) -/

/-- The offsets of the window's holes. -/
def holeOffset (n : Nat) : Prop := (0x7B ≤ n ∧ n ≤ 0x9F) ∨ (0xC7 ≤ n ∧ n ≤ 0xFD) ∨ n = 0xFF

/-- The offsets of the cells that take no write. -/
def strayOffset (n : Nat) : Prop :=
  (0x41 ≤ n ∧ n ≤ 0x4A) ∨ (0x4E ≤ n ∧ n ≤ 0x7A) ∨ (0xA0 ≤ n ∧ n ≤ 0xC6) ∨ n = 0xFE

variable {off : Byte}

theorem windowPlace_hole (h : holeOffset off.toNat) : windowPlace off = .hole off := by
  rw [windowPlace]
  obtain low | high | top := h
  · iterate 6 rw [if_neg (by omega)]
    rw [if_pos (by omega)]
  · iterate 8 rw [if_neg (by omega)]
    rw [if_pos (by omega)]
  · iterate 10 rw [if_neg (by omega)]

theorem windowPlace_stray_iff : (windowPlace off).stray = true ↔ strayOffset off.toNat := by
  have place : off.toNat < 256 := off.isLt
  unfold strayOffset windowPlace
  split_ifs <;> simp [Place.stray] <;> omega

/-- R127: the three places of a memory offset. -/
theorem classify_cases (page : BitVec 7) (m : BitVec 15) :
    (m = anchor ∧ classify page m = .anchorCell)
      ∨ (∃ off : Byte, m ≠ anchor ∧ m = address page off ∧ classify page m = windowPlace off)
      ∨ (m ≠ anchor ∧ m.toNat / 256 ≠ page.toNat ∧ classify page m = .outside) := by
  by_cases top : m = anchor
  · exact .inl ⟨top, if_pos top⟩
  · by_cases inside : m.toNat / 256 = page.toNat
    · refine .inr (.inl ⟨BitVec.ofNat 8 (m.toNat % 256), top, ?_, (if_neg top).trans (if_pos inside)⟩)
      refine BitVec.eq_of_toNat_eq ((toNat_eq_address_iff m page _).2 ⟨inside, ?_⟩)
      rw [offset_toNat (Nat.mod_lt _ (by decide))]
    · exact .inr (.inr ⟨top, inside, (if_neg top).trans (if_neg inside)⟩)

/-! ### The treatments of a write -/

/-- R135 to R141: the byte of a setting cell, the memory having received it. -/
def takeSettingCell (off v : Byte) (s : State) : State :=
  if off.toNat = 0x18 then takeHexhLow v s else if off.toNat = 0x19 then takeHexhHigh v s else takeSettingWrite off.toNat v s

/-- What the part makes of a controller write of `v` at memory offset `m`, by its place. -/
inductive Written (m : BitVec 15) (v : Byte) (s : State) : State → Prop
  | forwarded (top : m ≠ anchor) (place : m.toNat / 256 ≠ s.path.page.toNat ∨ holeOffset (m.toNat % 256)) :
      Written m v s (busWrite m v s.path.working.waitMemory s)
  | anchorCell (top : m = anchor) : Written m v s (takeAnchor v (busWrite m v (takenWriteWaits s.path.working) s))
  | setting (off : Byte) (here : m = address s.path.page off) (cell : off.toNat < 0x40) :
      Written m v s (takeSettingCell off v (busWrite m v (takenWriteWaits s.path.working) s))
  | command (here : m = address s.path.page 0x40#8) :
      Written m v s (commandByte v (busWrite m 0 (takenWriteWaits s.path.working) s))
  | latched (off : Byte) (here : m = address s.path.page off) (cell : 0x4B ≤ off.toNat ∧ off.toNat ≤ 0x4D) :
      Written m v s (takeLatched off v (busWrite m 0 (takenWriteWaits s.path.working) s))
  | stray (off : Byte) (here : m = address s.path.page off) (cell : strayOffset off.toNat) :
      Written m v s
        (takeStray off (busWrite m (protectedByte s.path.protectedImage off) (takenWriteWaits s.path.working) s))

/-- R128, Table 24: every controller write has one of the treatments. -/
theorem controllerWrite_written (m : BitVec 15) (v : Byte) (s : State) : Written m v s (controllerWrite m v s) := by
  obtain ⟨top, place⟩ | ⟨off, top, here, place⟩ | ⟨top, outside, place⟩ := classify_cases s.path.page m
  · rw [controllerWrite, place]
    exact .anchorCell top
  · have offset : m.toNat % 256 = off.toNat := by rw [here, address_off]
    have small : off.toNat < 256 := off.isLt
    rw [controllerWrite, place]
    by_cases hole : holeOffset off.toNat
    · rw [windowPlace_hole hole]
      exact .forwarded top (.inr (offset ▸ hole))
    · unfold holeOffset at hole
      unfold windowPlace
      split_ifs
      case pos cell => exact .setting off here cell
      case pos cell =>
        obtain rfl : off = 0x40#8 := BitVec.eq_of_toNat_eq cell
        exact .command here
      case pos => exact .stray off here (by unfold strayOffset; omega)
      case pos => exact .latched off here (by omega)
      case pos cell =>
        obtain rfl : off = 0x4E#8 := BitVec.eq_of_toNat_eq cell
        exact .stray _ here (by unfold strayOffset; omega)
      case pos => exact .stray off here (by unfold strayOffset; omega)
      case pos => omega
      case pos => exact .stray off here (by unfold strayOffset; omega)
      case pos => omega
      case pos cell =>
        obtain rfl : off = 0xFE#8 := BitVec.eq_of_toNat_eq cell
        exact .stray _ here (by unfold strayOffset; omega)
      case neg => omega
  · rw [controllerWrite, place]
    exact .forwarded top (.inl outside)

end Sys2Proof.Machine
end

section
/-! SUPPORT. Every change that an event makes of the images, and what each makes of the memory's match with the raw image and
with the protected image (Table 3, R131, R135, R145, R152 to R154, R157). -/

namespace Sys2Proof.Machine

/-! ### The changes -/

/-- The changes of the images and of the bus that an event can make, but for the cut of a burst. -/
inductive State.ImageChange (s : State) : State → Prop
  | bus (b : BusCycle) : s.ImageChange (s.setBus b)
  /-- A part that does not run after the event, with what its bursts and drains have written. -/
  | unready {u : State} (ws : List (BitVec 15 × Byte)) (phase : u.phase ≠ .running) (memory : u.memory = s.memory.writeAll ws) :
      s.ImageChange u
  | load {v : State} (memory : v.memory = s.memory) : s.ImageChange (takeLoad (loadReads s.memory) v)
  /-- A setting byte taken (R135, R140, R141). -/
  | settingByte (off v : Byte) (waits : Nat) (cell : off.toNat < 0x40) (idle : s.store.hold ≠ .burst) :
      s.ImageChange ((busWrite (address s.path.page off) v waits s).setPath
        { s.path with raw := s.path.raw.set off.toNat v })
  /-- A byte that the memory receives at another place: a cell of the protected image keeps its byte (R131). -/
  | otherByte (m : BitVec 15) (b : Byte) (waits : Nat) (raw : ∀ off : Byte, off.toNat < 0x40 → m ≠ address s.path.page off)
      (same : ∀ i, i < 40 → m = address s.path.page (protectedOffset i) → b = s.path.protectedImage.getD i 0) :
      s.ImageChange (busWrite m b waits s)
  /-- A job taken into service with its snapshots (R152). -/
  | serve (j : Job) : s.ImageChange (s.setStore { s.store with service := some (snapshot s j), hold := .burst })
  /-- A completed burst (R153). -/
  | finish {sv : Service} (service : s.store.service = some sv) :
      s.ImageChange (((s.setMemory (s.memory.writeAll (burstWrites s.path.page sv))).setPath (s.path.takeBurst sv)).setStore
        { s.store with service := none, hold := .idle })

/-- R154: a burst cut after `n` bytes. -/
def State.burstCut (s : State) (sv : Service) (n : Nat) : State :=
  ((s.setMemory (s.memory.writeAll ((burstWrites s.path.page sv).take n))).setPath (s.path.takeCut sv n)).setStore
    { s.store with service := none, hold := .idle }

/-! ### The bytes of a burst -/

/-- The job in service carries the raw image that stands, and a record of 38 bytes. -/
structure State.Serves (s : State) (sv : Service) : Prop where
  raw : ∀ raw record page, sv = .windowMove raw record page → raw = s.path.raw
  size : ∀ record, sv.record? = some record → record.length = 38

theorem State.rawMatches.serves {s : State} (h : s.rawMatches) (run : s.phase = .running) {sv : Service}
    (service : s.store.service = some sv) : s.Serves sv := by
  obtain ⟨-, -, carries, sized⟩ := h run
  exact ⟨fun raw record page move => (carries raw record page (service.trans (congrArg some move))).2,
    fun record written => sized sv record service written⟩

/-- Where a burst writes into the raw image of the window page, it writes the byte that stands there. -/
theorem State.Serves.raw_byte {s : State} {sv : Service} (h : s.Serves sv) (length : s.path.raw.length = 64)
    {w : BitVec 15 × Byte} (member : w ∈ burstWrites s.path.page sv) {i : Nat} (place : i < 64)
    (here : w.1.toNat = (address s.path.page (BitVec.ofNat 8 i)).toNat) : w.2 = s.path.raw.getD i 0 := by
  have low : (BitVec.ofNat 8 i).toNat = i := offset_toNat (by omega)
  have apart {page : BitVec 7} {n : Nat} (high : 0xA0 ≤ n) (small : n < 256)
      (same : (address page (BitVec.ofNat 8 n)).toNat = (address s.path.page (BitVec.ofNat 8 i)).toNat) : False := by
    have offsets := congrArg BitVec.toNat ((address_eq_iff _ _ _ _).1 same).2
    rw [low, offset_toNat small] at offsets
    omega
  cases sv with
  | crcUpdate check =>
    obtain rfl := List.mem_singleton.1 member
    exact (apart (n := 0xFE) (by decide) (by decide) here).elim
  | wearSave record =>
    obtain ⟨n, high, top, at_n⟩ := mem_saveWrites (h.size record rfl) member
    rw [at_n] at here
    exact (apart high (by omega) here).elim
  | windowMove raw record page =>
    obtain rfl := h.raw raw record page rfl
    obtain ⟨n, below, rfl⟩ | ⟨n, high, at_n⟩ := mem_moveWrites length (h.size record rfl) member
    · have offsets := congrArg BitVec.toNat ((address_eq_iff _ _ _ _).1 here).2
      rw [low, offset_toNat (by omega)] at offsets
      rw [offsets]
    · rw [at_n] at here
      exact (apart (by omega) (by omega) here).elim

/-- What a move leaves at each cell of the raw image. -/
theorem lastWritten_move_raw (page : BitVec 7) {raw record : List Byte} (length : raw.length = 64)
    (size : record.length = 38) {i : Nat} (place : i < 64) :
    lastWritten (moveWrites page raw record) (address page (BitVec.ofNat 8 i)).toNat = some (raw.getD i 0) := by
  have offset : (BitVec.ofNat 8 i).toNat = i := offset_toNat (by omega)
  have apart {x : Byte} (high : 64 ≤ x.toNat) : BitVec.ofNat 8 i ≠ x := fun same => by
    rw [← same, offset] at high
    omega
  rw [lastWritten_moveWrites page length size, if_neg (apart (by decide)), if_neg (apart (by decide)), offset,
    if_neg (by omega), List.getElem?_eq_getElem (length ▸ place), List.getD_eq_getElem _ _ (length ▸ place)]

/-- What a move leaves at each cell of the protected image. -/
theorem lastWritten_move_protected (page : BitVec 7) {raw record : List Byte} (length : raw.length = 64)
    (size : record.length = 38) {i : Nat} (place : i < 40) :
    lastWritten (moveWrites page raw record) (address page (protectedOffset i)).toNat
      = some ((record ++ [crc8 record, crc8 raw]).getD i 0) := by
  rw [lastWritten_moveWrites page length size]
  obtain run | rfl | rfl : i < 38 ∨ i = 38 ∨ i = 39 := by omega
  · have offset : (protectedOffset i).toNat = 0xA0 + i := by rw [protectedOffset_toNat place, if_neg (by omega)]
    have apart {x : Byte} (high : 0xC6 ≤ x.toNat) : protectedOffset i ≠ x := fun same => by
      rw [← same, offset] at high
      omega
    rw [if_neg (apart (by decide)), if_neg (apart (by decide)), offset, if_pos (by omega), Nat.add_sub_cancel_left,
      List.getD_append _ _ _ _ (by omega), List.getElem?_eq_getElem (size ▸ run), List.getD_eq_getElem _ _ (size ▸ run)]
  · rw [List.getD_append_right _ _ _ _ (by omega), size]
    rfl
  · rw [List.getD_append_right _ _ _ _ (by omega), size]
    rfl

/-! ### The raw image in the memory (Table 3, R135, R152) -/

variable {s t u : State}

/-- The images in the memory are read of no other figure. -/
theorem State.ImagesStand.rawMatches (h : s.ImagesStand t) (matched : s.rawMatches) : t.rawMatches := by
  intro run
  obtain ⟨length, inMemory, carries, sized⟩ := matched (h.phase.symm.trans run)
  refine ⟨h.raw ▸ length, fun i place => ?_, fun raw record page service => ?_, fun sv record service => ?_⟩
  · rw [h.memory, h.page, h.raw]
    exact inMemory i place
  · obtain ⟨burst, same⟩ := carries raw record page (h.service.symm.trans service)
    exact ⟨h.burst burst, same.trans h.raw.symm⟩
  · exact sized sv record (h.service.symm.trans service)

theorem recordBytes_length (s : State) (seq : Byte) : (recordBytes s seq).length = 38 := by
  simp [recordBytes, leBytes, List.range_succ]

theorem snapshot_serves (s : State) (j : Job) : s.Serves (snapshot s j) := by
  cases j with
  | crcUpdate => exact ⟨nofun, nofun⟩
  | wearSave =>
    refine ⟨nofun, fun record written => ?_⟩
    obtain rfl := Option.some.inj written
    exact recordBytes_length _ _
  | windowMove =>
    refine ⟨fun raw record page move => ?_, fun record written => ?_⟩
    · injection move with raw_eq
      exact raw_eq.symm
    · obtain rfl := Option.some.inj written
      exact recordBytes_length _ _

/-- A burst that leaves the page leaves the raw image in the memory, however many of its bytes are written. -/
theorem State.Serves.rawInMemory {sv : Service} (h : s.Serves sv) (canonical : s.memory.wf = true)
    (length : s.path.raw.length = 64) (inMemory : s.rawInMemory) (n : Nat) {i : Nat} (place : i < 64) :
    (s.memory.writeAll ((burstWrites s.path.page sv).take n)).read (address s.path.page (BitVec.ofNat 8 i)).toNat
      = s.path.raw.getD i 0 := by
  rw [Memory.read_writeAll_of_same _ _ canonical fun w member here => ?_, inMemory i place]
  rw [inMemory i place]
  exact h.raw_byte length (List.mem_of_mem_take member) place here

theorem State.ImageChange.rawMatches (h : s.ImageChange u) (canonical : s.memory.wf = true) (matched : s.rawMatches) :
    u.rawMatches := by
  cases h with
  | bus b => exact matched
  | unready ws phase => exact fun run => absurd run phase
  | @load v memory =>
    refine fun _ => ⟨(loadReads_settings s.memory).1, fun i place => ?_, nofun, nofun⟩
    have taken : (takeLoad (loadReads s.memory) v).memory = s.memory.writeAll (loadReads s.memory).writes :=
      congrArg (Memory.writeAll · _) memory
    rw [taken]
    exact loaded_raw s.memory canonical place
  | settingByte off v waits cell idle =>
    intro run
    obtain ⟨length, inMemory, carries, sized⟩ := matched run
    refine ⟨List.length_set.trans length, fun i place => ?_, fun raw record page service => ?_, sized⟩
    · have offset : BitVec.ofNat 8 i = off ↔ i = off.toNat := by rw [← BitVec.toNat_inj, offset_toNat (by omega)]
      have byte : (s.memory.write (address s.path.page off).toNat v).read (address s.path.page (BitVec.ofNat 8 i)).toNat
          = (s.path.raw.set off.toNat v).getD i 0 := by
        rw [Memory.read_write _ _ _ canonical, getD_set, length, inMemory i place]
        simp only [address_inj, offset, place, and_true]
      exact byte
    · exact absurd (carries raw record page service).1 idle
  | otherByte m b waits raw =>
    intro run
    obtain ⟨length, inMemory, rest⟩ := matched run
    refine ⟨length, fun i place => ?_, rest⟩
    have apart : (address s.path.page (BitVec.ofNat 8 i)).toNat ≠ m.toNat := fun same =>
      raw _ (by rw [offset_toNat (by omega)]; exact place) (BitVec.eq_of_toNat_eq same.symm)
    exact (Memory.read_write s.memory m.toNat b canonical _).trans ((if_neg apart).trans (inMemory i place))
  | serve j =>
    intro run
    obtain ⟨length, inMemory, -⟩ := matched run
    obtain ⟨carried, size⟩ := snapshot_serves s j
    refine ⟨length, inMemory, fun raw record page service => ⟨rfl, ?_⟩, fun sv record service => ?_⟩
    · exact carried raw record page (Option.some.inj service)
    · obtain rfl := Option.some.inj service
      exact size record
  | @finish sv service =>
    intro run
    have serves := matched.serves run service
    obtain ⟨length, inMemory, -⟩ := matched run
    refine ⟨?_, fun i place => ?_, nofun, nofun⟩
    · cases sv <;> exact length
    · have whole := serves.rawInMemory canonical length inMemory (burstWrites s.path.page sv).length place
      rw [List.take_length] at whole
      cases sv with
      | crcUpdate check => exact whole
      | wearSave record => exact whole
      | windowMove raw record page =>
        obtain rfl := serves.raw raw record page rfl
        have moved := Memory.read_writeAll s.memory (moveWrites page s.path.raw record) canonical
          (address page (BitVec.ofNat 8 i)).toNat
        rw [lastWritten_move_raw page length (serves.size record rfl) place] at moved
        exact moved

theorem State.burstCut_rawMatches {sv : Service} (service : s.store.service = some sv) (n : Nat)
    (canonical : s.memory.wf = true) (matched : s.rawMatches) : (s.burstCut sv n).rawMatches := by
  intro run
  have serves := matched.serves run service
  obtain ⟨length, inMemory, -⟩ := matched run
  refine ⟨?_, fun i place => ?_, nofun, nofun⟩
  · cases sv <;> exact length
  · have written := serves.rawInMemory canonical length inMemory n place
    cases sv <;> exact written

/-! ### The protected image in the memory (R131, R145, R154) -/

theorem State.protectedInMemory_iff (s : State) :
    s.protectedInMemory ↔ s.path.protectedImage.length = 40 ∧ ∀ i, i < 40 →
      s.memory.read (address s.path.page (protectedOffset i)).toNat = s.path.protectedImage.getD i 0 := by
  refine and_congr_right fun _ => ⟨fun ⟨record, check⟩ i place => ?_, fun all => ⟨fun i place => ?_, all 39 (by decide)⟩⟩
  · by_cases last : i = 39
    · obtain rfl := last
      exact check
    · rw [protectedOffset, if_neg last]
      exact record i (by omega)
  · have byte := all i (by omega)
    rwa [protectedOffset, if_neg (by omega)] at byte

theorem State.ImagesStand.protectedMatches (h : s.ImagesStand t) (matched : s.protectedMatches) : t.protectedMatches := by
  intro run
  have held := matched (h.phase.symm.trans run)
  rw [State.protectedInMemory, h.memory, h.page, h.protectedImage]
  exact held

/-- The protected image takes the part's own writes on the window page as the memory does. -/
theorem protectedAfter_inMemory {image : List Byte} (length : image.length = 40) {m : Memory} (canonical : m.wf = true)
    {page : BitVec 7} (ws : List (BitVec 15 × Byte))
    (held : ∀ i, i < 40 → lastWritten ws (address page (protectedOffset i)).toNat = none →
      m.read (address page (protectedOffset i)).toNat = image.getD i 0) {i : Nat} (place : i < 40) :
    (m.writeAll ws).read (address page (protectedOffset i)).toNat = (protectedAfter image page ws).getD i 0 := by
  rw [Memory.read_writeAll m ws canonical, protectedAfter_getD length page ws place]
  cases last : lastWritten ws (address page (protectedOffset i)).toNat with
  | none => exact held i place last
  | some b => rfl

/-- A burst and its cut alike, of a job that writes at the window page. -/
theorem State.protectedInMemory.writes (h : s.protectedInMemory) (canonical : s.memory.wf = true)
    (ws : List (BitVec 15 × Byte)) (x : StoredImages) : State.protectedInMemory
      (((s.setMemory (s.memory.writeAll ws)).setPath
        { s.path with protectedImage := protectedAfter s.path.protectedImage s.path.page ws }).setStore x) := by
  rw [State.protectedInMemory_iff] at h ⊢
  obtain ⟨length, inMemory⟩ := h
  exact ⟨(protectedAfter_length _ _ _).trans length,
    fun i place => protectedAfter_inMemory length canonical ws (fun i place _ => inMemory i place) place⟩

theorem State.ImageChange.protectedMatches (h : s.ImageChange u) (canonical : s.memory.wf = true) (raw : s.rawMatches)
    (matched : s.protectedMatches) : u.protectedMatches := by
  cases h with
  | bus b => exact matched
  | unready ws phase => exact fun run => absurd run phase
  | @load v memory =>
    intro _
    have taken : (takeLoad (loadReads s.memory) v).memory = s.memory.writeAll (loadReads s.memory).writes :=
      congrArg (Memory.writeAll · _) memory
    rw [State.protectedInMemory_iff, taken]
    refine ⟨?_, fun i place => loaded_protected s.memory canonical place⟩
    exact (List.length_append ..).trans (congrArg (· + 2) (loadReads_record s.memory).1)
  | settingByte off v waits cell =>
    intro run
    have held := matched run
    rw [State.protectedInMemory_iff] at held ⊢
    obtain ⟨length, inMemory⟩ := held
    refine ⟨length, fun i place => ?_⟩
    have apart : (address s.path.page (protectedOffset i)).toNat ≠ (address s.path.page off).toNat := fun same => by
      have offset := congrArg BitVec.toNat ((address_inj _ _ _).1 same)
      rw [protectedOffset_toNat place] at offset
      split at offset <;> omega
    exact (Memory.read_write s.memory _ v canonical _).trans ((if_neg apart).trans (inMemory i place))
  | otherByte m b waits _ same =>
    intro run
    have held := matched run
    rw [State.protectedInMemory_iff] at held ⊢
    obtain ⟨length, inMemory⟩ := held
    refine ⟨length, fun i place => (Memory.read_write s.memory m.toNat b canonical _).trans ?_⟩
    split
    case isTrue here => exact same i place (BitVec.eq_of_toNat_eq here.symm)
    case isFalse => exact inMemory i place
  | serve j => exact matched
  | @finish sv service =>
    intro run
    have serves := raw.serves run service
    have held := matched run
    cases sv with
    | crcUpdate check => exact held.writes canonical _ _
    | wearSave record => exact held.writes canonical _ _
    | windowMove image record page =>
      obtain ⟨rawLength, -⟩ := raw run
      have length := serves.raw image record page rfl ▸ rawLength
      rw [State.protectedInMemory_iff] at held ⊢
      refine ⟨(protectedAfter_length _ _ _).trans held.1, fun i place =>
        protectedAfter_inMemory (page := page) held.1 canonical _ (fun i place unwritten => ?_) place⟩
      rw [burstWrites, lastWritten_move_protected page length (serves.size record rfl) place] at unwritten
      cases unwritten

/-- R154: the cut of a save or a check-byte job, and that of a move to another page. -/
theorem State.burstCut_protectedMatches {sv : Service} (service : s.store.service = some sv) (n : Nat)
    (canonical : s.memory.wf = true) (raw : s.rawMatches) (matched : s.protectedMatches) (apart : ¬ s.movesInPlace) :
    (s.burstCut sv n).protectedMatches := by
  intro run
  have phase : s.phase = .running := by cases sv <;> exact run
  have serves := raw.serves phase service
  have held := matched phase
  cases sv with
  | crcUpdate check => exact held.writes canonical _ _
  | wearSave record => exact held.writes canonical _ _
  | windowMove image record page =>
    have other : page ≠ s.path.page := fun same => apart ⟨image, record, same ▸ service⟩
    obtain ⟨rawLength, -⟩ := raw phase
    have length := serves.raw image record page rfl ▸ rawLength
    rw [State.protectedInMemory_iff] at held ⊢
    obtain ⟨imageLength, inMemory⟩ := held
    refine ⟨imageLength, fun i place => ?_⟩
    refine (Memory.read_writeAll_of_notin s.memory _ _ canonical fun w member here => other ?_).trans (inMemory i place)
    obtain ⟨k, -, rfl⟩ | ⟨k, -, at_k⟩ := mem_moveWrites length (serves.size record rfl) (List.mem_of_mem_take member)
    · exact ((address_eq_iff _ _ _ _).1 here).1
    · rw [at_k] at here
      exact ((address_eq_iff _ _ _ _).1 here).1

/-! ### The canonical form -/

theorem State.ImageChange.canonical (h : s.ImageChange u) (canonical : s.memory.wf = true) : u.memory.wf = true := by
  cases h with
  | bus b => exact canonical
  | unready ws _ memory => exact memory ▸ Memory.wf_writeAll _ ws canonical
  | load memory => exact Memory.wf_writeAll _ _ (memory ▸ canonical)
  | settingByte off v => exact Memory.wf_write _ _ v canonical (address s.path.page off).isLt
  | otherByte m b => exact Memory.wf_write _ _ b canonical m.isLt
  | serve j => exact canonical
  | finish service => exact Memory.wf_writeAll _ _ canonical

end Sys2Proof.Machine
end

section
/-! SUPPORT. Every command and the idle step as one change of the images followed by what leaves them, with the statement of the
images that the memory holds (Table 3, R131, R135, R145, R152, R154, R157). -/

namespace Sys2Proof.Machine

/-- An event makes one change of the images, and what follows leaves them. -/
def State.ImageStep (s t : State) : Prop := ∃ u, s.ImageChange u ∧ u.ImagesStand t

namespace State.ImageStep

variable {s t u : State}

theorem of_stand (h : s.ImagesStand t) : s.ImageStep t := ⟨_, .bus s.bus, h⟩

theorem refl (s : State) : s.ImageStep s := of_stand (.refl s)

theorem of_unready (ws : List (BitVec 15 × Byte)) (phase : t.phase ≠ .running) (memory : t.memory = s.memory.writeAll ws) :
    s.ImageStep t := ⟨t, .unready ws phase memory, .refl t⟩

theorem ite {c : Prop} [Decidable c] (h : s.ImageStep t) (k : s.ImageStep u) : s.ImageStep (if c then t else u) := by
  split
  · exact h
  · exact k

theorem images (h : s.ImageStep t) (canonical : s.memory.wf = true) (matched : s.rawMatches) :
    t.memory.wf = true ∧ t.rawMatches := by
  obtain ⟨u, change, stand⟩ := h
  exact ⟨stand.memory ▸ change.canonical canonical, stand.rawMatches (change.rawMatches canonical matched)⟩

theorem protectedMatches (h : s.ImageStep t) (canonical : s.memory.wf = true) (raw : s.rawMatches)
    (matched : s.protectedMatches) : t.protectedMatches := by
  obtain ⟨u, change, stand⟩ := h
  exact stand.protectedMatches (change.protectedMatches canonical raw matched)

/-! ### The controller's cycles -/

/-- The byte of a setting cell in the raw image. -/
def rawTaken (off v : Byte) (s : State) : State := s.setPath { s.path with raw := s.path.raw.set off.toNat v }

/-- A state of the memory path that differs from the setting's byte in nothing that the images read. -/
theorem rawTaken_setPath (off v : Byte) (s : State) (p : MemoryPath) (page : p.page = s.path.page)
    (raw : p.raw = s.path.raw.set off.toNat v) (image : p.protectedImage = s.path.protectedImage) :
    (rawTaken off v s).ImagesStand (s.setPath p) := ⟨rfl, page, raw, image, rfl, rfl, rfl, id⟩

/-- R140: the low byte of Hexh. -/
theorem takeHexhLow_stand (v : Byte) (s : State) : (rawTaken 0x18#8 v s).ImagesStand (takeHexhLow v s) :=
  (rawTaken_setPath 0x18#8 v s { s.path with raw := s.path.raw.set 0x18 v, hexhStage := some v } rfl rfl rfl).settingEnded

/-- R141: the high byte of Hexh. -/
theorem takeHexhHigh_stand (v : Byte) (s : State) : (rawTaken 0x19#8 v s).ImagesStand (takeHexhHigh v s) := by
  have formed := rawTaken_setPath 0x19#8 v s { s.path with
    raw := s.path.raw.set 0x19 v, hexhStage := none,
    working := { s.path.working with hexh := clampNat 1 730 (s.path.hexhPair v) } } rfl rfl rfl
  have judged := formed.recordClamp
    (if clampNat 1 730 (s.path.hexhPair v) = s.path.hexhPair v then none else some 0x19)
  exact judged.evaluateFilter.settingEnded

/-- R135: a setting of one byte, or of a group. -/
theorem takeSettingWrite_stand (off v : Byte) (s : State) : (rawTaken off v s).ImagesStand (takeSettingWrite off.toNat v s) :=
  have formed := rawTaken_setPath off v s (s.path.takeSetting off.toNat v) rfl rfl rfl
  ((formed.recordClamp _).delivered (deliverSetting_delivered s.path.working off.toNat _)).settingEnded

/-- R135 to R141: but for its byte in the raw image, a taken setting write leaves the images. -/
theorem takeSettingCell_stand (off v : Byte) (s : State) : (rawTaken off v s).ImagesStand (Machine.takeSettingCell off v s) := by
  unfold Machine.takeSettingCell
  split
  case isTrue low =>
    obtain rfl : off = 0x18#8 := BitVec.eq_of_toNat_eq low
    exact takeHexhLow_stand v s
  case isFalse =>
    split
    case isTrue high =>
      obtain rfl : off = 0x19#8 := BitVec.eq_of_toNat_eq high
      exact takeHexhHigh_stand v s
    case isFalse => exact takeSettingWrite_stand off v s

theorem takeSettingCell (off v : Byte) (waits : Nat) (cell : off.toNat < 0x40) (idle : s.store.hold ≠ .burst) :
    s.ImageStep (takeSettingCell off v (busWrite (address s.path.page off) v waits s)) :=
  ⟨_, .settingByte off v waits cell idle, takeSettingCell_stand off v _⟩

/-- R163: a byte of the command cell that begins no restart. -/
theorem judgeCommand_stand (code : Byte) (s : State) : s.ImagesStand
    (judgeCommand code ((noteCommand code s).setPath { s.path with armed := decide (code = codeRestartArm) })) := by
  have noted : s.ImagesStand ((noteCommand code s).setPath { s.path with armed := decide (code = codeRestartArm) }) :=
    (ImagesStand.refl s).stands rfl
  exact noted.judgeCommand code

theorem takeAnchor (v : Byte) (s : State) : s.ImagesStand (takeAnchor v s) := by
  have service : (s.store.requestMove (requestedPage v)).service = s.store.service
      ∧ (s.store.requestMove (requestedPage v)).hold = s.store.hold := by
    unfold StoredImages.requestMove
    split <;> exact ⟨rfl, rfl⟩
  exact .ite (.refl s) ((ImagesStand.refl s).ask service.1 service.2 _)

/-- A byte that the memory receives outside the raw image, the protected image standing. -/
theorem otherByte {m : BitVec 15} {b : Byte} {waits : Nat} (raw : ∀ off : Byte, off.toNat < 0x40 → m ≠ address s.path.page off)
    (same : ∀ i, i < 40 → m = address s.path.page (protectedOffset i) → b = s.path.protectedImage.getD i 0)
    (h : (busWrite m b waits s).ImagesStand t) : s.ImageStep t := ⟨_, .otherByte m b waits raw same, h⟩

/-- A byte at a window offset that is neither a setting cell nor in the protected image. -/
theorem idleByte {off b : Byte} {waits : Nat} (high : 0x40 ≤ off.toNat) (outside : protectedIndex off = none)
    (h : (busWrite (address s.path.page off) b waits s).ImagesStand t) : s.ImageStep t := by
  refine otherByte (fun off' cell here => ?_) (fun i place here => ?_) h
  · have offsets := (address_inj _ _ _).1 (congrArg BitVec.toNat here)
    exact absurd (offsets ▸ high) (by omega)
  · have offsets := (address_inj _ _ _).1 (congrArg BitVec.toNat here)
    rw [(protectedIndex_eq_some_iff off i).2 ⟨place, offsets⟩] at outside
    cases outside

theorem written {m : BitVec 15} {v : Byte} (h : Written m v s t) (idle : s.store.hold ≠ .burst) : s.ImageStep t := by
  cases h with
  | forwarded top place =>
    have apart {off : Byte} (cell : ¬ holeOffset off.toNat) : m ≠ address s.path.page off := by
      rintro rfl
      rw [address_page, address_off] at place
      obtain outside | hole := place
      · exact outside rfl
      · exact cell hole
    refine otherByte (fun off cell => apart (by unfold holeOffset; omega)) (fun i place here => absurd here (apart ?_)) (.refl _)
    have offset := protectedOffset_toNat place
    unfold holeOffset
    split at offset <;> omega
  | anchorCell top =>
    obtain rfl := top
    have apart {off : Byte} (low : off.toNat < 0xFF) : anchor ≠ address s.path.page off :=
      (address_ne_anchor s.path.page off low).symm
    refine otherByte (fun off cell => apart (by omega)) (fun i place here => absurd here (apart ?_)) (takeAnchor _ _)
    have offset := protectedOffset_toNat place
    split at offset <;> omega
  | setting off here cell =>
    obtain rfl := here
    exact takeSettingCell off v _ cell idle
  | command here =>
    obtain rfl := here
    exact .ite (.of_unready [(address s.path.page 0x40#8, 0)] (by simp [beginRestart]) rfl)
      (idleByte (off := 0x40#8) (by decide) rfl (judgeCommand_stand v _))
  | latched off here cell =>
    obtain rfl := here
    refine idleByte (by omega) ?_ ((ImagesStand.refl _).setNotice _)
    rw [protectedIndex, if_neg (by omega), if_neg (by omega)]
  | stray off here cell =>
    obtain rfl := here
    unfold strayOffset at cell
    have recorded := ((ImagesStand.refl (busWrite (address s.path.page off) (protectedByte s.path.protectedImage off)
      (takenWriteWaits s.path.working) s)).setPath (p := { s.path with lastStray := off }) rfl rfl rfl).raise .strayWrite
    refine otherByte (fun off' low here => ?_) (fun i place here => ?_) recorded
    · have offsets := (address_inj _ _ _).1 (congrArg BitVec.toNat here)
      rw [← offsets] at low
      omega
    · have offsets := (address_inj _ _ _).1 (congrArg BitVec.toNat here)
      rw [offsets, protectedByte_of_index _ place]

theorem writeCycle (m : BitVec 15) (v : Byte) (s : State) : s.ImageStep (writeCycle m v s) := by
  unfold Machine.writeCycle whenCycles
  split
  case isTrue cycles => exact written (controllerWrite_written m v s) ((takesCycles_iff s).1 cycles).2.1
  case isFalse => exact refl s

theorem windowWrite (off v : Byte) (s : State) : s.ImageStep (windowWrite off v s) := writeCycle _ v s

theorem controllerRead (m : BitVec 15) (s : State) : s.ImageStep (controllerRead m s) := by
  have loaded (o : Byte) (b : BusCycle) : s.ImageStep ((loadHolder o s).setBus b) := by
    refine ⟨_, .bus b, ?_⟩
    unfold loadHolder
    repeat' split
    all_goals exact (ImagesStand.refl _).stands rfl
  have noticed {t : State} (h : s.ImageStep t) (n : NoticeUnit) : s.ImageStep (t.setNotice n) := by
    obtain ⟨u, change, stand⟩ := h
    exact ⟨u, change, stand.setNotice n⟩
  exact .ite (.ite (noticed (loaded _ _) _) (loaded _ _)) ⟨_, .bus _, .refl _⟩

theorem windowRead (off : Byte) (s : State) : s.ImageStep (windowRead off s) := .ite (controllerRead _ s) (refl s)

/-! ### Resets, loads and the drain -/

theorem loadComplete (pfwLow : Bool) (s : State) : s.ImageStep (loadComplete pfwLow s) := by
  have memory : (loadOccurrences (loadReads s.memory) s).memory = s.memory := by
    unfold loadOccurrences
    split <;> split <;> rfl
  have judged := ((ImagesStand.refl (takeLoad (loadReads s.memory) (loadOccurrences (loadReads s.memory) s))).judgeLoadedFilter)
  exact ⟨_, .load memory, .ite (judged.setPins _).requestUrgent (judged.setPins _)⟩

theorem drainJobComplete (draining : s.phase = .draining) : s.ImageStep (drainJobComplete s) := by
  unfold Machine.drainJobComplete
  split
  case h_1 d j rest _ _ =>
    exact .ite (.of_unready (burstWrites s.path.page (drainService s.store d j)) (by simp) rfl)
      (.of_unready (burstWrites s.path.page (drainService s.store d j)) (by simp [draining]) rfl)
  all_goals exact refl s

/-! ### The stored-image unit -/

theorem holdackRise (p : Pins) (s : State) : s.ImageStep (holdackRise (s.setPins p)) := by
  have pins : s.ImageStep (s.setPins p) := of_stand ((ImagesStand.refl s).setPins p)
  unfold Machine.holdackRise
  split
  case h_1 j rest _ _ => exact ⟨_, .serve j, by cases j <;> exact ⟨rfl, rfl, rfl, rfl, rfl, rfl, rfl, fun _ => rfl⟩⟩
  all_goals exact pins

theorem burstComplete (s : State) : s.ImageStep (burstComplete s) := by
  unfold Machine.burstComplete
  split
  case h_1 sv _ service =>
    have finished (x : StoredImages) (none : x.service = none) (c : CommandBlock) : s.ImageStep
        ((((s.setMemory (s.memory.writeAll (burstWrites s.path.page sv))).setPath (s.path.takeBurst sv)).setStore x).setCmd c) :=
      ⟨_, .finish service, ⟨rfl, rfl, rfl, rfl, rfl, rfl, none, nofun⟩⟩
    have done : ((s.store.finish sv).ask s.pins.holdAck).service = none := ((s.store.finish sv).ask_keeps _).2.2.1
    exact .ite (finished _ done _) (finished _ done s.cmd)
  all_goals exact refl s

/-- R150, R151, R154: a fall of HOLDACK cuts a burst, or leaves the images. -/
theorem holdackFall (n : Nat) (p : Pins) (s : State) : s.ImageStep (holdackFall n (s.setPins p))
    ∨ ∃ sv, s.store.service = some sv ∧ (s.burstCut sv n).ImagesStand (holdackFall n (s.setPins p)) := by
  have pins : s.ImagesStand (s.setPins p) := (ImagesStand.refl s).setPins p
  unfold Machine.holdackFall
  split
  · split
    case h_1 sv service =>
      have none : (s.store.cut sv).service = none := by
        cases sv <;> simp only [StoredImages.cut, StoredImages.enterRetryWait, StoredImages.returnJob,
          StoredImages.requestMove] <;> split <;> rfl
      exact .inr ⟨sv, service, by cases sv <;> exact ⟨rfl, rfl, rfl, rfl, rfl, rfl, none, nofun⟩⟩
    case h_2 => exact .inl (of_stand pins)
  · exact .inl (of_stand (pins.ask rfl rfl _))
  case h_3 waiting =>
    have requested : (s.setPins p).ImagesStand ((s.setPins p).setStore s.store.enterRequesting) :=
      (ImagesStand.refl _).setStore rfl (by rw [waiting]; nofun)
    exact .inl (.ite (of_stand pins) (of_stand (pins.trans requested)))
  · exact .inl (of_stand pins)

theorem retryTimerExpiry (s : State) : ∃ t, exec .retryTimerExpiry s = .next t ∧ s.ImageStep t := by
  refine ⟨_, rfl, ?_⟩
  split
  case isTrue waiting =>
    have asked : s.ImagesStand (s.setStore s.store.enterRequesting) :=
      (ImagesStand.refl s).setStore rfl (by rw [waiting.1]; nofun)
    exact .ite (of_stand (ImagesStand.refl s).setStore) (of_stand asked)
  case isFalse => exact refl s

/-! ### Every command and the idle step -/

/-- Every command but a fall of HOLDACK. -/
theorem exec (c : Instr) (other : ∀ n, c ≠ .holdackFall n) (s : State) : ∃ t, exec c s = .next t ∧ s.ImageStep t := by
  have h := ImagesStand.refl s
  have whole {t : State} (k : s.ImagesStand t) (c : Prop) [Decidable c] : s.ImageStep (if c then t else s) :=
    of_stand (.ite k h)
  cases c with
  | holdackFall n => exact absurd rfl (other n)
  | powerOn n | nresetAssert n => exact ⟨_, rfl, of_unready _ (wholeReset_unready _ _ _) rfl⟩
  | nresetRelease => exact ⟨_, rfl, .ite (.of_unready [] (by simp) rfl) (of_stand (h.setPins _))⟩
  | loadDelayExpiry => exact ⟨_, rfl, .ite (.of_unready [] (by simp) rfl) (refl s)⟩
  | loadComplete pfwLow => exact ⟨_, rfl, .ite (loadComplete _ _) (refl s)⟩
  | drainJobComplete =>
    refine ⟨_, rfl, ?_⟩
    split
    case isTrue draining => exact drainJobComplete draining
    case isFalse => exact refl s
  | converterArrival ch code => exact ⟨_, rfl, whole (h.converterArrival _ _) _⟩
  | particleWindowEnd => exact ⟨_, rfl, whole h.particleWindowEnd _⟩
  | tachEdge e k => exact ⟨_, rfl, whole (.ite (h.setFront _) h) _⟩
  | particleSample | stoppedReport => exact ⟨_, rfl, whole (h.setFront _) _⟩
  | switchRawChange sw high => exact ⟨_, rfl, of_stand (h.switchRawChange _ _)⟩
  | debounceExpiry sw => exact ⟨_, rfl, whole (h.debounceExpiry _) _⟩
  | switchSettlingExpiry => exact ⟨_, rfl, whole h.settlingExpiry _⟩
  | npfwAssert => exact ⟨_, rfl, of_stand (.ite (h.setPins _).requestUrgent (h.setPins _))⟩
  | rampStep | settledTimerExpiry | armingTimerExpiry | stallWaitExpiry => exact ⟨_, rfl, whole (h.setAir _) _⟩
  | stallCheck => exact ⟨_, rfl, whole h.stallCheck _⟩
  | airflowPeriod => exact ⟨_, rfl, whole h.airflowPeriod _⟩
  | learnHoldExpiry => exact ⟨_, rfl, whole h.learnHoldExpiry _⟩
  | learnReading => exact ⟨_, rfl, whole h.learnReading _⟩
  | dosePeriod => exact ⟨_, rfl, whole h.dosePeriod _⟩
  | dryingCheck => exact ⟨_, rfl, whole h.dryingCheck _⟩
  | offTimeExpiry => exact ⟨_, rfl, whole h.offTimeExpiry _⟩
  | confirmationTimerExpiry => exact ⟨_, rfl, whole h.confirmationExpiry _⟩
  | extraHoldExpiry => exact ⟨_, rfl, whole h.extraHoldExpiry _⟩
  | runSecondExpiry => exact ⟨_, rfl, whole h.runSecondExpiry _⟩
  | defrostMaxExpiry => exact ⟨_, rfl, whole h.defrostMaxExpiry _⟩
  | timedCycleExpiry => exact ⟨_, rfl, whole (h.setDry _).judgeDrying _⟩
  | uptimeMinute => exact ⟨_, rfl, whole (h.setDry _) _⟩
  | onTimeEnd | afterRunExpiry => exact ⟨_, rfl, whole (h.tankEvent _) _⟩
  | pulseTimerExpiry => exact ⟨_, rfl, whole (h.setNotice _) _⟩
  | lampPhaseTimer lamp => cases lamp <;> exact ⟨_, rfl, whole (h.setLamps _) _⟩
  | quietTimerExpiry =>
    have stopped : s.ImagesStand (s.setPath { s.path with quietTimer := none }) := h.stands rfl
    exact ⟨_, rfl, whole (stopped.requestJob _) _⟩
  | settingWrite | hexhLowWrite | hexhHighWrite | latchedWrite | strayWrite | filterReset | learnBaseline | abortLearn
  | defrostNow | clearLockout | resume | saveNow | restartArm | restart | unknownCommand =>
    exact ⟨_, rfl, windowWrite _ _ _⟩
  | anchorWrite v => exact ⟨_, rfl, writeCycle anchor v s⟩
  | summaryRead | snapshotLoadRead => exact ⟨_, rfl, windowRead _ _⟩
  | holdackRise => exact ⟨_, rfl, .ite (holdackRise _ s) (of_stand (h.setPins _))⟩
  | ackTimerExpiry =>
    refine ⟨_, rfl, ?_⟩
    split
    case isTrue asking => exact of_stand (h.refuseHold asking.1)
    case isFalse => exact refl s
  | retryTimerExpiry => exact retryTimerExpiry s
  | burstComplete => exact ⟨_, rfl, .ite (burstComplete s) (refl s)⟩
  | saveTimerExpiry => exact ⟨_, rfl, whole h.saveTimerExpiry _⟩
  | supervisionCount => exact ⟨_, rfl, whole h.supervisionCount _⟩
  | supervisionPulseEnd => exact ⟨_, rfl, whole h.setStore _⟩

theorem tick (s : State) : s.ImageStep (tick s) := of_stand ((ImagesStand.refl s).stands rfl)

end State.ImageStep

/-- What a step is to the images: one change of them, or the cut of a burst by the fall of HOLDACK at the queue's front. -/
theorem step_images {s t : State} (h : step s = .next t) : ∃ q, (s.setPending q).ImageStep t
    ∨ ∃ n sv, s.pending = .holdackFall n :: q ∧ s.store.service = some sv ∧ ((s.setPending q).burstCut sv n).ImagesStand t := by
  unfold step at h
  split at h
  case h_1 =>
    obtain rfl := Host.Outcome.next.inj h
    exact ⟨s.pending, .inl (.tick s)⟩
  case h_2 c rest front =>
    refine ⟨rest, ?_⟩
    by_cases fall : ∃ n, c = .holdackFall n
    · obtain ⟨n, rfl⟩ := fall
      obtain rfl := Host.Outcome.next.inj h
      unfold whenRunning
      split
      · obtain stood | ⟨sv, service, cut⟩ := State.ImageStep.holdackFall n _ (s.setPending rest)
        · exact .inl stood
        · exact .inr ⟨n, sv, front, service, cut⟩
      · exact .inl (.of_stand ((State.ImagesStand.refl _).setPins _))
    · obtain ⟨u, hu, stepped⟩ := State.ImageStep.exec c (fun n same => fall ⟨n, same⟩) (s.setPending rest)
      obtain rfl := Host.Outcome.next.inj (hu.symm.trans h)
      exact .inl stepped

/-- Settles O48: by the changes that a step can make of the images, and by the cut of a burst, whose bytes on the window page
are those the raw image has there. -/
theorem rawImageMatchesMemory : Obligations.RawImageMatchesMemory := by
  refine ⟨fun s t canonical raw stepped => ?raw, fun s t canonical raw matched uncut stepped => ?protectedImage⟩
  case raw =>
    obtain ⟨q, change | ⟨n, sv, -, service, cut⟩⟩ := step_images stepped
    · exact change.images canonical raw
    · refine ⟨?_, cut.rawMatches (State.burstCut_rawMatches service n canonical raw)⟩
      rw [cut.memory]
      exact Memory.wf_writeAll _ _ canonical
  case protectedImage =>
    obtain ⟨q, change | ⟨n, sv, front, service, cut⟩⟩ := step_images stepped
    · exact change.protectedMatches canonical raw matched
    · exact cut.protectedMatches (State.burstCut_protectedMatches service n canonical raw matched (uncut n q front))

end Sys2Proof.Machine
end

section
/-! SUPPORT. A burst written to its last byte: the memory, the protected image, and the unit after it (R131, R145, R153,
R165). -/

namespace Sys2Proof.Machine

/-! ### The bytes of a save and of a move in the memory -/

theorem Memory.read_of_lastWritten {m : Memory} (canonical : m.wf = true) {ws : List (BitVec 15 × Byte)} {a : Nat} {b : Byte}
    (last : lastWritten ws a = some b) : (m.writeAll ws).read a = b := by
  rw [Memory.read_writeAll m ws canonical, last]
  rfl

variable {page : BitVec 7} {record raw : List Byte} {i : Nat}

/-- The bytes that a save leaves in the protected image, of which it keeps the settings check byte. -/
theorem lastWritten_save_protected (image : List Byte) (size : record.length = 38) (place : i < 40) :
    (lastWritten (saveWrites page record) (address page (protectedOffset i)).toNat).getD (image.getD i 0)
      = (record ++ [crc8 record, image.getD 39 0]).getD i 0 := by
  rw [lastWritten_saveWrites page size]
  obtain run | rfl | rfl : i < 38 ∨ i = 38 ∨ i = 39 := by omega
  · have offset : (protectedOffset i).toNat = 0xA0 + i := by rw [protectedOffset_toNat place, if_neg (by omega)]
    have apart : protectedOffset i ≠ 0xC6#8 := fun same => by
      rw [same] at offset
      have : (0xC6#8).toNat = 0xC6 := rfl
      omega
    rw [if_neg apart, offset, if_pos (by omega), Nat.add_sub_cancel_left, List.getD_append _ _ _ _ (by omega),
      List.getElem?_eq_getElem (size ▸ run)]
    exact (List.getD_eq_getElem record 0 (size ▸ run)).symm
  · rw [List.getD_append_right _ _ _ _ (by omega), size]
    rfl
  · have beyond : record[94]? = none := List.getElem?_eq_none (by omega)
    have check : protectedOffset 39 = 0xFE#8 := rfl
    rw [check, if_neg (by decide), if_pos (by decide), List.getD_append_right _ _ _ _ (by omega), size]
    exact congrArg (Option.getD · _) beyond

theorem protectedOffset_of_record (place : i < 38) : protectedOffset i = BitVec.ofNat 8 (0xA0 + i) :=
  if_neg (by omega)

theorem lastWritten_save_record (size : record.length = 38) (place : i < 38) :
    lastWritten (saveWrites page record) (address page (BitVec.ofNat 8 (0xA0 + i))).toNat = some (record.getD i 0) := by
  have offset : (BitVec.ofNat 8 (0xA0 + i)).toNat = 0xA0 + i := offset_toNat (by omega)
  have apart : BitVec.ofNat 8 (0xA0 + i) ≠ 0xC6#8 := fun same => by
    rw [same] at offset
    have : (0xC6#8).toNat = 0xC6 := rfl
    omega
  rw [lastWritten_saveWrites page size, if_neg apart, offset, if_pos (by omega), Nat.add_sub_cancel_left,
    List.getElem?_eq_getElem (size ▸ place), List.getD_eq_getElem _ _ (size ▸ place)]

theorem lastWritten_move_record (length : raw.length = 64) (size : record.length = 38) (place : i < 38) :
    lastWritten (moveWrites page raw record) (address page (BitVec.ofNat 8 (0xA0 + i))).toNat = some (record.getD i 0) := by
  rw [← protectedOffset_of_record place, lastWritten_move_protected page length size (by omega),
    List.getD_append _ _ _ _ (by omega)]

/-! ### The protected image after a burst (R131, R145) -/

/-- A completed save. -/
theorem protectedAfter_save {image : List Byte} (length : image.length = 40) (size : record.length = 38) :
    protectedAfter image page (saveWrites page record) = record ++ [crc8 record, image.getD 39 0] :=
  eq_of_getD ((protectedAfter_length _ _ _).trans length) (by simp [size]) fun i place =>
    (protectedAfter_getD length page _ place).trans (lastWritten_save_protected image size place)

/-- A completed move. -/
theorem protectedAfter_move {image : List Byte} (length : image.length = 40) (rawLength : raw.length = 64)
    (size : record.length = 38) :
    protectedAfter image page (moveWrites page raw record) = record ++ [crc8 record, crc8 raw] :=
  eq_of_getD ((protectedAfter_length _ _ _).trans length) (by simp [size]) fun i place => by
    rw [protectedAfter_getD length page _ place, lastWritten_move_protected page rawLength size place]
    rfl

/-- A completed check-byte job. -/
theorem protectedAfter_check (image : List Byte) (check : Byte) :
    protectedAfter image page [(address page 0xFE#8, check)] = image.set 39 check := by
  show protectedWrite image page _ = _
  rw [protectedWrite_eq, address_page, address_off, if_pos rfl]
  rfl

/-! ### The unit after a burst (R153, R165) -/

/-- A burst that completes while HOLDACK is high: the unit does not ask for the bus again. -/
theorem exec_burstComplete {sv : Service} {s : State} (running : s.phase = .running) (burst : s.store.hold = .burst)
    (service : s.store.service = some sv) (ack : s.pins.holdAck = true) :
    exec .burstComplete s = .next ((((s.setMemory (s.memory.writeAll (burstWrites s.path.page sv))).setPath
      (s.path.takeBurst sv)).setStore (s.store.finish sv)).setCmd
        (if sv.writesRecord then s.cmd.saveCompleted else s.cmd)) := by
  have asked : (s.store.finish sv).ask s.pins.holdAck = s.store.finish sv := StoredImages.ask_of_kept _ _ (.inr ack)
  have finished : finishBurst sv s = (((s.setMemory (s.memory.writeAll (burstWrites s.path.page sv))).setPath
      (s.path.takeBurst sv)).setStore ((s.store.finish sv).ask s.pins.holdAck)).setCmd
        (if sv.writesRecord then s.cmd.saveCompleted else s.cmd) := by cases sv <;> rfl
  show Host.Outcome.next (whenRunning s burstComplete) = _
  rw [whenRunning, if_pos running, burstComplete, burst, service]
  exact congrArg Host.Outcome.next (finished.trans (by rw [asked]))

/-- Settles O52: a burst puts its bytes into the memory and the protected image alike, the last byte written at an offset
standing. -/
theorem burstCompletesSave : Obligations.BurstCompletesSave := by
  refine ⟨fun record s running canonical burst service size ack length => ?save,
    fun raw record page s running canonical burst service rawLength size ack length => ?move,
    fun check s running canonical burst service ack length => ?check⟩
  case save =>
    have written {i : Nat} (place : i < 38) := Memory.read_of_lastWritten canonical
      (lastWritten_save_record (page := s.path.page) size place)
    refine ⟨_, exec_burstComplete running burst service ack, protectedAfter_save length size, fun i place => written place,
      Memory.read_of_lastWritten canonical (lastWritten_saveWrites s.path.page size 0xC6#8),
      fun a apart => Memory.read_writeAll_of_notin _ _ _ canonical fun w member here => ?_,
      rfl, rfl, rfl, rfl, rfl, rfl, rfl, rfl, rfl, rfl, rfl, rfl⟩
    obtain ⟨n, low, high, place⟩ := mem_saveWrites size member
    exact apart n low high (here.symm.trans (congrArg BitVec.toNat place))
  case move =>
    have written {i : Nat} (place : i < 64) := Memory.read_of_lastWritten canonical
      (lastWritten_move_raw page (record := record) rawLength size place)
    have saved {i : Nat} (place : i < 38) := Memory.read_of_lastWritten canonical
      (lastWritten_move_record (page := page) rawLength size place)
    refine ⟨_, exec_burstComplete running burst service ack, rfl, protectedAfter_move length rawLength size,
      fun i place => written place, fun i place => saved place,
      Memory.read_of_lastWritten canonical (lastWritten_moveWrites page rawLength size 0xFE#8),
      Memory.read_of_lastWritten canonical (lastWritten_moveWrites page rawLength size 0xC6#8),
      fun a apart => Memory.read_writeAll_of_notin _ _ _ canonical fun w member here => ?_,
      rfl, rfl, rfl, rfl, rfl, rfl, rfl, rfl⟩
    obtain ⟨n, low, rfl⟩ | ⟨n, high, place⟩ := mem_moveWrites rawLength size member
    · exact apart n (.inl low) here.symm
    · exact apart n (.inr high) (here.symm.trans (congrArg BitVec.toNat place))
  case check =>
    refine ⟨_, exec_burstComplete running burst service ack, ⟨?_, fun a apart => ?_⟩,
      congrArg (fun image => { s.path with protectedImage := image }) (protectedAfter_check _ check), rfl, rfl⟩
    · exact (Memory.read_write s.memory _ check canonical _).trans (if_pos rfl)
    · exact (Memory.read_write s.memory _ check canonical _).trans (if_neg apart)

end Sys2Proof.Machine
end

section
/-! SUPPORT. A stray write, and a write of the anchor (R131, R133, R144). -/

namespace Sys2Proof.Machine

/-! ### A stray write (R133) -/

/-- The part after a stray write at window offset `off`. -/
def strayWritten (off : Byte) (s : State) : State :=
  takeStray off (busWrite (address s.path.page off) (protectedByte s.path.protectedImage off)
    (takenWriteWaits s.path.working) s)

/-- R133: at a cell that takes no write, a write is dropped as a stray one. -/
theorem Written.of_stray {off v : Byte} {s t : State} (h : Written (address s.path.page off) v s t)
    (cell : strayOffset off.toNat) : t = strayWritten off s := by
  have own {off' : Byte} (here : address s.path.page off = address s.path.page off') : off' = off :=
    ((address_inj _ _ _).1 (congrArg BitVec.toNat here)).symm
  unfold strayOffset at cell
  cases h with
  | forwarded top place =>
    rw [address_page, address_off] at place
    unfold holeOffset at place
    omega
  | anchorCell top => exact absurd top (address_ne_anchor _ _ (by omega))
  | setting off' here low =>
    rw [own here] at low
    omega
  | command here =>
    rw [← own here] at cell
    exact absurd cell (by decide)
  | latched off' here low =>
    rw [own here] at low
    omega
  | stray off' here =>
    obtain rfl := own here
    rfl

theorem exec_strayWrite {off : Byte} (v : Byte) (s : State) (cycles : s.takesCycles = true)
    (cell : (windowPlace off).stray = true) : exec (.strayWrite off v) s = .next (strayWritten off s) :=
  congrArg Host.Outcome.next ((windowWrite_eq off v s cycles).trans
    ((controllerWrite_written _ v s).of_stray (windowPlace_stray_iff.1 cell)))

/-- R115: an unmasked occurrence, the level term false and the line not held, starts the pulse timer. -/
theorem NoticeUnit.occur_pulseTimer (n : NoticeUnit) (masks : BitVec 24) (f : Flag) (unmasked : hasFlag masks f = false)
    (level : n.levelTerm masks = false) (free : n.held = false) : (n.occur masks f).pulseTimer = startTimer 20 := by
  simp [NoticeUnit.occur, unmasked, level, free]

/-- R115: a masked or held occurrence, or one while the level term is true, leaves it. -/
theorem NoticeUnit.occur_pulseTimer_kept (n : NoticeUnit) (masks : BitVec 24) (f : Flag)
    (silent : hasFlag masks f = true ∨ n.levelTerm masks = true ∨ n.held = true) :
    (n.occur masks f).pulseTimer = n.pulseTimer := by
  refine if_pos ?_
  obtain masked | level | held := silent
  · simp [masked]
  · simp [level]
  · simp [held]

/-- R111: an occurrence latches its own flag alone. -/
theorem NoticeUnit.occur_latched (n : NoticeUnit) (masks : BitVec 24) (f : Flag) (i : Nat) :
    (n.occur masks f).latched.getLsbD i = (n.latched.getLsbD i || decide (i = f.number - 1)) := by
  simp [NoticeUnit.occur, f.bit_getLsbD]

/-- Settles O46: a stray write changes the memory's byte, the offset it records and the notice unit, whose occurrence is that
of STRAY_WRITE. -/
theorem strayWriteIsDropped : Obligations.StrayWriteIsDropped := by
  intro off v s cycles canonical cell
  have written := Memory.read_write s.memory (address s.path.page off).toNat (protectedByte s.path.protectedImage off) canonical
  have occurred := s.notice.occur_latched s.path.working.masks .strayWrite
  have kept := s.notice.occur_pulseTimer_kept s.path.working.masks .strayWrite
  refine ⟨_, exec_strayWrite v s cycles cell, ⟨(written _).trans (if_pos rfl), fun a other => (written a).trans (if_neg other)⟩,
    ?_, rfl, fun i _ other => ?_, rfl, fun silent => ?_, fun named idle => ?_, fun unmasked free silent => ?_, rfl⟩
  · exact (occurred 9).trans (by simp [Flag.number])
  · exact (occurred i).trans (by simp [Flag.number, other])
  · exact kept (silent.imp id .inr)
  · exact (kept (.inr (.inl ((s.notice.levelTerm_iff _).2 named)))).trans idle
  · refine s.notice.occur_pulseTimer s.path.working.masks .strayWrite unmasked ?_ free
    rw [Bool.eq_false_iff, Ne, NoticeUnit.levelTerm_iff]
    rintro ⟨i, low, high, latched, visible⟩
    cases silent i low high with
    | inl clear => exact Bool.false_ne_true (clear.symm.trans latched)
    | inr masked => exact Bool.false_ne_true (visible.symm.trans masked)

/-! ### The anchor (R144) -/

theorem requestedPage_toNat (v : Byte) : (requestedPage v).toNat = v.toNat % 128 := by simp [requestedPage]

namespace StoredImages

variable (x : StoredImages) (page : BitVec 7)

theorem ask_target (ack : Bool) : (x.ask ack).target = x.target := by
  unfold ask
  split <;> rfl

theorem movePending_of_mem (h : .windowMove ∈ x.queue) : x.movePending = true := by
  simp [movePending, h]

/-- R148: a queued move is retargeted. -/
theorem requestMove_of_mem (h : .windowMove ∈ x.queue) : x.requestMove page = { x with target := page } := by
  simp [requestMove, h]

/-- R148: a new move removes every other job. -/
theorem requestMove_of_notMem (h : .windowMove ∉ x.queue) :
    x.requestMove page = { x with queue := [.windowMove], target := page } := by
  have others : x.queue.filter (fun j => j ≠ .crcUpdate ∧ j ≠ .wearSave) = [] := by
    refine List.filter_eq_nil_iff.2 fun j member => ?_
    cases j with
    | crcUpdate | wearSave => decide
    | windowMove => exact absurd member h
  simp only [requestMove, List.contains_iff_mem, h, if_false, others]
  rfl

end StoredImages

/-- What a write of `v` to the anchor leaves of the stored-image unit. -/
def anchorStore (v : Byte) (s : State) : StoredImages :=
  if s.store.movePending = false ∧ requestedPage v = s.path.page then s.store
  else (s.store.requestMove (requestedPage v)).ask s.pins.holdAck

theorem exec_anchorWrite (v : Byte) (s : State) (cycles : s.takesCycles = true) : exec (.anchorWrite v) s
    = .next ((busWrite anchor v (takenWriteWaits s.path.working) s).setStore (anchorStore v s)) := by
  have taken : writeCycle anchor v s = takeAnchor v (busWrite anchor v (takenWriteWaits s.path.working) s) := by
    rw [writeCycle, whenCycles, if_pos cycles, memoryCycle_writing, controllerWrite, classify_anchor]
  refine congrArg Host.Outcome.next (taken.trans ?_)
  unfold takeAnchor anchorStore
  by_cases here : s.store.movePending = false ∧ requestedPage v = s.path.page
  · rw [if_pos here]
    exact if_pos here
  · rw [if_neg here]
    exact if_neg here

theorem anchorStore_of_request (v : Byte) (s : State)
    (asked : s.store.movePending = true ∨ v.toNat % 128 ≠ s.path.page.toNat) :
    (anchorStore v s).queue = (s.store.requestMove (requestedPage v)).queue
      ∧ (anchorStore v s).target = (s.store.requestMove (requestedPage v)).target := by
  have acts : ¬ (s.store.movePending = false ∧ requestedPage v = s.path.page) := by
    rintro ⟨idle, same⟩
    refine asked.elim (fun pending => ?_) fun other => other ?_
    · exact Bool.false_ne_true (idle.symm.trans pending)
    · rw [← same, requestedPage_toNat]
  rw [anchorStore, if_neg acts]
  exact ⟨(StoredImages.ask_keeps _ _).1, StoredImages.ask_target _ _⟩

/-- Settles O47: the three cases by the requested page and the moves that wait. -/
theorem anchorWriteRequestsMove : Obligations.AnchorWriteRequestsMove := by
  intro v s cycles canonical
  have written := Memory.read_write s.memory anchor.toNat v canonical
  refine ⟨_, exec_anchorWrite v s cycles,
    ⟨(written _).trans (if_pos rfl), fun a other => (written a).trans (if_neg other)⟩,
    congrArg some ((written anchor.toNat).trans (if_pos rfl)), rfl, fun idle same => ?_, fun queued => ?_,
    fun unqueued asked => ?_, rfl⟩
  · exact if_pos ⟨idle, BitVec.eq_of_toNat_eq ((requestedPage_toNat v).trans same)⟩
  · obtain ⟨queue, target⟩ := anchorStore_of_request v s (.inl (s.store.movePending_of_mem queued))
    rw [s.store.requestMove_of_mem _ queued] at queue target
    exact ⟨queue, (congrArg BitVec.toNat target).trans (requestedPage_toNat v)⟩
  · obtain ⟨queue, target⟩ := anchorStore_of_request v s asked
    rw [s.store.requestMove_of_notMem _ unqueued] at queue target
    exact ⟨queue, (congrArg BitVec.toNat target).trans (requestedPage_toNat v)⟩

end Sys2Proof.Machine
end

section
/-! SUPPORT. What the memory receives in a controller write, what a controller read presents, and the wait count of both (R127 to
R134, Table 24). -/

namespace Sys2Proof.Machine

/-! ### Writes (R128, R131, R134) -/

/-- The memory receives `b` at `m` in a write that the part takes or drops (R134: the longer of the two wait counts). -/
def received (s : State) (m : BitVec 15) (b : Byte) (t : State) : Prop :=
  t.memory = s.memory.write m.toNat b
    ∧ t.bus = { toController := none, toMemory := some b, waits := takenWriteWaits s.path.working }

theorem received.of_stand {s t : State} {m : BitVec 15} {b : Byte}
    (h : (busWrite m b (takenWriteWaits s.path.working) s).ImagesStand t) : received s m b t := ⟨h.memory, h.bus⟩

theorem received.ite {s t u : State} {m : BitVec 15} {b : Byte} {c : Prop} [Decidable c] (h : received s m b t)
    (k : received s m b u) : received s m b (if c then t else u) := by
  split
  · exact h
  · exact k

/-- The byte that a write gives a cell of the memory. -/
theorem onlyByte_of_write {s t : State} {m : BitVec 15} {b : Byte} (canonical : s.memory.wf = true)
    (h : t.memory = s.memory.write m.toNat b) : onlyByte s t m.toNat b := by
  have written := Memory.read_write s.memory m.toNat b canonical
  rw [onlyByte, h]
  exact ⟨(written _).trans (if_pos rfl), fun a other => (written a).trans (if_neg other)⟩

theorem protectedIndex_of_low {off : Byte} (h : off.toNat < 0xA0) : protectedIndex off = none := by
  rw [protectedIndex, if_neg (by omega), if_neg (by omega)]

/-- Table 24, write column: a write is forwarded, or taken with its byte, or the memory receives the protected byte. -/
theorem Written.taken {m : BitVec 15} {v : Byte} {s t : State} (h : Written m v s t) :
    (t = busWrite m v s.path.working.waitMemory s ∧ m ≠ anchor
        ∧ (m.toNat / 256 ≠ s.path.page.toNat ∨ holeOffset (m.toNat % 256)))
      ∨ ((m = anchor ∨ (m.toNat / 256 = s.path.page.toNat ∧ m.toNat % 256 < 0x40)) ∧ received s m v t)
      ∨ ∃ off : Byte, m.toNat / 256 = s.path.page.toNat ∧ m.toNat % 256 = off.toNat ∧ 0x40 ≤ off.toNat
        ∧ ¬ holeOffset off.toNat ∧ received s m (protectedByte s.path.protectedImage off) t := by
  have within {off : Byte} (here : m = address s.path.page off) :
      m.toNat / 256 = s.path.page.toNat ∧ m.toNat % 256 = off.toNat := by
    rw [here]
    exact ⟨address_page _ _, address_off _ _⟩
  cases h with
  | forwarded top place => exact .inl ⟨rfl, top, place⟩
  | anchorCell top => exact .inr (.inl ⟨.inl top, .of_stand (State.ImageStep.takeAnchor v _)⟩)
  | setting off here cell =>
    obtain ⟨page, offset⟩ := within here
    have stand := State.ImageStep.takeSettingCell_stand off v (busWrite m v (takenWriteWaits s.path.working) s)
    exact .inr (.inl ⟨.inr ⟨page, offset ▸ cell⟩, stand.memory, stand.bus⟩)
  | command here =>
    obtain ⟨page, offset⟩ := within here
    refine .inr (.inr ⟨0x40#8, page, offset, by decide, by unfold holeOffset; decide, ?_⟩)
    have judged := State.ImageStep.judgeCommand_stand v (busWrite m 0 (takenWriteWaits s.path.working) s)
    exact .ite ⟨rfl, rfl⟩ (.of_stand judged)
  | latched off here cell =>
    obtain ⟨page, offset⟩ := within here
    refine .inr (.inr ⟨off, page, offset, by omega, by unfold holeOffset; omega, ?_⟩)
    rw [protectedByte_of_none _ (protectedIndex_of_low (by omega))]
    exact ⟨rfl, rfl⟩
  | stray off here cell =>
    obtain ⟨page, offset⟩ := within here
    unfold strayOffset at cell
    exact .inr (.inr ⟨off, page, offset, by omega, by unfold holeOffset; omega, rfl, rfl⟩)

/-- Table 24: a write that is not forwarded at a cell of the window above the settings. -/
theorem Written.dropped {m : BitVec 15} {v : Byte} {s t : State} (h : Written m v s t)
    (page : m.toNat / 256 = s.path.page.toNat) {off : Byte} (offset : m.toNat % 256 = off.toNat) (high : 0x40 ≤ off.toNat)
    (cell : ¬ holeOffset off.toNat) : received s m (protectedByte s.path.protectedImage off) t := by
  obtain ⟨-, -, place⟩ | ⟨place, -⟩ | ⟨off', -, offset', -, -, got⟩ := h.taken
  · rw [offset] at place
    exact absurd page (place.resolve_right cell)
  · obtain rfl | ⟨-, low⟩ := place
    · exact absurd (.inr (.inr offset.symm)) cell
    · omega
  · obtain rfl : off' = off := BitVec.eq_of_toNat_eq (offset'.symm.trans offset)
    exact got

theorem protectedByte_record (image : List Byte) {off : Byte} (low : 0xA0 ≤ off.toNat) (high : off.toNat ≤ 0xC6) :
    protectedByte image off = image.getD (off.toNat - 0xA0) 0 := by
  rw [protectedByte, protectedIndex, if_pos ⟨low, high⟩]

theorem protectedByte_check (image : List Byte) {off : Byte} (h : off.toNat = 0xFE) :
    protectedByte image off = image.getD 39 0 := by
  rw [protectedByte, protectedIndex, if_neg (by omega), if_pos h]

/-! ### Reads (R129, R130, R142) -/

/-- Table 24, read column: the cells whose reads the part answers itself. -/
def overlayOffset (n : Nat) : Prop := (0x40 ≤ n ∧ n ≤ 0x7A) ∨ (0xA0 ≤ n ∧ n ≤ 0xC6)

theorem windowPlace_overlays_iff {off : Byte} : (windowPlace off).overlays = true ↔ overlayOffset off.toNat := by
  have place : off.toNat < 256 := off.isLt
  unfold overlayOffset windowPlace
  split_ifs <;> simp [Place.overlays] <;> omega

theorem classify_overlays_iff (page : BitVec 7) (m : BitVec 15) :
    (classify page m).overlays = true ↔ m.toNat / 256 = page.toNat ∧ overlayOffset (m.toNat % 256) := by
  obtain ⟨rfl, place⟩ | ⟨off, -, here, place⟩ | ⟨-, outside, place⟩ := classify_cases page m
  · rw [place]
    simp [Place.overlays, overlayOffset, anchor]
  · rw [place, windowPlace_overlays_iff, here, address_page, address_off]
    simp
  · simp [place, Place.overlays, outside]

theorem controllerRead_of_overlay {m : BitVec 15} {s : State} (page : m.toNat / 256 = s.path.page.toNat)
    (cell : overlayOffset (m.toNat % 256)) : controllerRead m s = overlayRead (BitVec.ofNat 8 (m.toNat % 256)) s :=
  if_pos ((classify_overlays_iff _ _).2 ⟨page, cell⟩)

theorem controllerRead_of_forwarded {m : BitVec 15} {s : State}
    (place : ¬ (m.toNat / 256 = s.path.page.toNat ∧ overlayOffset (m.toNat % 256))) :
    controllerRead m s = forwardedRead m s :=
  if_neg fun overlays => place ((classify_overlays_iff _ _).1 overlays)

/-- R142: a read moves the holders alone before the cycle. -/
theorem loadHolder_eq (off : Byte) (s : State) :
    loadHolder off s = s.setPath { s.path with holders := (loadHolder off s).path.holders } := by
  unfold loadHolder
  repeat' split
  all_goals rfl

/-- The lowest offset of a holder stands in the table. -/
theorem holderLow_mem {n i : Nat} (h : holderIndex n = some i) : ∃ size, (holderLow i, size) ∈ holderTable := by
  obtain ⟨place, -⟩ := List.findIdx?_eq_some_iff_getElem.1 h
  refine ⟨holderTable[i].2, ?_⟩
  rw [holderLow, List.getD_eq_getElem _ _ place]
  exact List.getElem_mem place

/-- R142: a read of no lowest byte loads no holder. -/
theorem loadHolder_of_higher {off : Byte} (s : State) (higher : ∀ h ∈ holderTable, off.toNat ≠ h.1) : loadHolder off s = s := by
  unfold loadHolder
  split
  case h_1 i index =>
    obtain ⟨size, member⟩ := holderLow_mem index
    exact if_neg (higher _ member)
  case h_2 => rfl

theorem overlayRead_bus (off : Byte) (s : State) : (overlayRead off s).bus
    = { toController := some (overlayByte s off), toMemory := none, waits := s.path.working.waitCell } := by
  unfold overlayRead
  split <;> rfl

theorem overlayRead_holders (off : Byte) (s : State) :
    (overlayRead off s).path.holders = (loadHolder off s).path.holders := by
  unfold overlayRead
  split <;> rfl

/-- R116, R117: the summary's read alone has an effect of its own. -/
theorem overlayRead_notice (off : Byte) (s : State) (other : off.toNat ≠ 0x4E) : (overlayRead off s).notice = s.notice := by
  unfold overlayRead
  rw [if_neg other, loadHolder_eq]
  rfl

theorem overlayRead_eq (off : Byte) (s : State) : overlayRead off s
    = ((s.setPath { s.path with holders := (overlayRead off s).path.holders }).setNotice
        (overlayRead off s).notice).setBus (overlayRead off s).bus := by
  rw [overlayRead_holders]
  have loaded := loadHolder_eq off s
  unfold overlayRead
  split
  · exact congrArg (fun u => (busRead _ _ u).setNotice _) loaded
  · refine (congrArg (busRead _ _) loaded).trans ?_
    rw [loaded]
    rfl

theorem controllerRead_keeps (m : BitVec 15) (s : State) :
    (controllerRead m s).phase = s.phase ∧ (controllerRead m s).store = s.store := by
  by_cases place : m.toNat / 256 = s.path.page.toNat ∧ overlayOffset (m.toNat % 256)
  · rw [controllerRead_of_overlay place.1 place.2, overlayRead_eq]
    exact ⟨rfl, rfl⟩
  · rw [controllerRead_of_forwarded place]
    exact ⟨rfl, rfl⟩

/-- R134: nWAIT is asserted for the wait count of the cycle. -/
theorem controllerRead_waitPin (m : BitVec 15) {s : State} (cycles : s.takesCycles = true) (k : Nat) :
    (controllerRead m s).waitPin k = decide (k < (controllerRead m s).bus.waits) := by
  obtain ⟨running, idle, -⟩ := (takesCycles_iff s).1 cycles
  obtain ⟨phase, store⟩ := controllerRead_keeps m s
  exact waitPin_of_running _ k (phase.trans running) (by rwa [store])

/-! ### The statement -/

/-- Settles O41: by the treatments of Table 24. -/
theorem writesReachMemoryByPlace : Obligations.WritesReachMemoryByPlace := by
  refine ⟨fun m v s canonical => ?memory, fun m v s => ⟨fun top place => ?forwarded, fun place => ?taken⟩,
    fun m s => ⟨fun ⟨page, cell⟩ => ?overlay, fun place => ?through, fun cycles => controllerRead_waitPin m cycles⟩,
    fun x m v s => ⟨fun selected written => ?_, fun selected read unwritten => ?_, fun none => ?_⟩⟩
  case memory =>
    have written := controllerWrite_written m v s
    have offset : m.toNat % 256 = (BitVec.ofNat 8 (m.toNat % 256)).toNat := (offset_toNat (Nat.mod_lt _ (by decide))).symm
    have dropped (page : m.toNat / 256 = s.path.page.toNat) (high : 0x40 ≤ m.toNat % 256)
        (cell : ¬ holeOffset (m.toNat % 256)) : onlyByte s (controllerWrite m v s) m.toNat
          (protectedByte s.path.protectedImage (BitVec.ofNat 8 (m.toNat % 256))) :=
      onlyByte_of_write canonical (written.dropped page offset (offset ▸ high) (offset ▸ cell)).1
    refine ⟨fun place => ?_, fun page low high => ?_, fun page low high => ?_, fun page check => ?_⟩
    · obtain ⟨forwarded, -⟩ | ⟨-, got⟩ | ⟨off, page, offset, high, cell, -⟩ := written.taken
      · exact onlyByte_of_write canonical (congrArg State.memory forwarded)
      · exact onlyByte_of_write canonical got.1
      · unfold holeOffset at cell
        obtain outside | rfl | hole := place
        · exact absurd page outside
        · exact absurd (.inr (.inr offset.symm)) cell
        · omega
    · have byte := dropped page low (by unfold holeOffset; omega)
      rwa [protectedByte_of_none _ (protectedIndex_of_low (by omega))] at byte
    · have byte := dropped page (by omega) (by unfold holeOffset; omega)
      rwa [protectedByte_record _ (by omega) (by omega), ← offset] at byte
    · have byte := dropped page (by omega) (by unfold holeOffset; omega)
      rwa [protectedByte_check _ (by omega)] at byte
  case forwarded =>
    obtain ⟨forwarded, -⟩ | ⟨taken, -⟩ | ⟨off, page, offset, high, cell, -⟩ := (controllerWrite_written m v s).taken
    · exact forwarded
    · obtain rfl | low := taken
      · exact absurd rfl top
      · omega
    · unfold holeOffset at cell
      omega
  case taken =>
    have waits {b : Byte} (got : received s m b (controllerWrite m v s)) :
        (controllerWrite m v s).bus.toController = none
          ∧ (controllerWrite m v s).bus.waits = takenWriteWaits s.path.working := by
      rw [got.2]
      exact ⟨rfl, rfl⟩
    obtain ⟨-, top, other⟩ | ⟨-, got⟩ | ⟨off, -, -, -, -, got⟩ := (controllerWrite_written m v s).taken
    · obtain here | ⟨page, cell⟩ := place
      · exact absurd here top
      · unfold holeOffset at other
        omega
    · exact waits got
    · exact waits got
  case overlay =>
    have offset : (BitVec.ofNat 8 (m.toNat % 256)).toNat = m.toNat % 256 := offset_toNat (Nat.mod_lt _ (by decide))
    rw [controllerRead_of_overlay page cell, overlayRead_bus]
    refine ⟨rfl, rfl, ?_, fun other => overlayRead_notice _ _ (offset.symm ▸ other), fun higher => ?_⟩
    · exact (overlayRead_eq _ s).trans (by rw [overlayRead_bus])
    · rw [overlayRead_holders, loadHolder_of_higher s (offset.symm ▸ higher)]
  case through => exact controllerRead_of_forwarded place
  · simp [memoryCycle, selected, written]
  · simp [memoryCycle, selected, read, unwritten]
  · obtain unselected | ⟨unread, unwritten⟩ := none
    · simp [memoryCycle, unselected]
    · simp [memoryCycle, unread, unwritten]

end Sys2Proof.Machine
end

section
/-! SUPPORT. The ranges of the working settings of a raw image (R136, R137, R141, Table 34). -/

namespace Sys2Proof.Machine

/-- The range of a setting's kind is a range of its byte. -/
def SettingKind.fitsByte : SettingKind → Bool
  | .unsigned lo hi => decide (lo ≤ hi) && decide (hi < 256)
  | .signed lo hi => decide (-128 ≤ lo) && decide (lo ≤ hi) && decide (hi < 128)
  | .choice last => decide (last < 256)
  | .supervision | .polarity | .mask | .waits | .pair | .autoT1 | .autoT2 | .autoT3 | .condWarn | .condTrip => true

/-- Table 34: every range is one of its byte. -/
theorem settingKind_fitsByte : ∀ off, off < 64 → (settingKind off).fitsByte = true := by decide

namespace Settings

variable (raw : List Byte) {off : Nat}

theorem ofRaw_byte (place : off < 64) : (ofRaw raw).byte off = workingByte raw off := workingImage_getD raw off place

theorem ofRaw_unsigned {lo hi : Nat} (place : off < 64) (kind : settingKind off = .unsigned lo hi) :
    lo ≤ (ofRaw raw).nat off ∧ (ofRaw raw).nat off ≤ hi := by
  have fits := settingKind_fitsByte off place
  simp only [kind, SettingKind.fitsByte, Bool.and_eq_true, decide_eq_true_eq] at fits
  rw [nat, ofRaw_byte raw place]
  exact workingByte_range raw kind fits.1 fits.2

theorem ofRaw_signed {lo hi : Int} (place : off < 64) (kind : settingKind off = .signed lo hi) :
    lo ≤ (ofRaw raw).int off ∧ (ofRaw raw).int off ≤ hi := by
  have fits := settingKind_fitsByte off place
  simp only [kind, SettingKind.fitsByte, Bool.and_eq_true, decide_eq_true_eq] at fits
  obtain ⟨⟨low, rising⟩, high⟩ := fits
  have clamped : lo ≤ clampInt lo hi (raw.getD off 0).toInt ∧ clampInt lo hi (raw.getD off 0).toInt ≤ hi := by
    unfold clampInt
    omega
  have value : (ofRaw raw).int off = clampInt lo hi (raw.getD off 0).toInt := by
    rw [int, ofRaw_byte raw place, workingByte, kind]
    exact BitVec.toInt_ofInt_eq_self (by decide) (low.trans clamped.1) (clamped.2.trans_lt high)
  rwa [value]

theorem ofRaw_choice {last : Nat} (place : off < 64) (kind : settingKind off = .choice last) : (ofRaw raw).nat off ≤ last := by
  rw [nat, ofRaw_byte raw place, workingByte, kind]
  simp only [BitVec.toNat_ofNat]
  omega

/-- R136, R137: the settings whose kinds name no range, as the numbers their bytes are formed from. -/
theorem ofRaw_nat_of_formed {n : Nat} (place : off < 64) (formed : workingByte raw off = BitVec.ofNat 8 n) (small : n < 256) :
    (ofRaw raw).nat off = n := by
  rw [nat, ofRaw_byte raw place, formed, offset_toNat small]

theorem workingT3_range : workingT1 raw < workingT2 raw ∧ workingT2 raw < workingT3 raw ∧ workingT3 raw ≤ 250 := by
  simp only [workingT3, workingT2, workingT1, clampNat]
  omega

theorem workingTrip_range :
    workingWarn raw + 2 ≤ workingTrip raw ∧ 55 ≤ workingTrip raw ∧ workingTrip raw ≤ 70 := by
  simp only [workingTrip, workingWarn, clampNat]
  omega

theorem ofRaw_t1 : (ofRaw raw).t1 = workingT1 raw := by
  obtain ⟨first, second, third⟩ := workingT3_range raw
  exact ofRaw_nat_of_formed raw (by decide) rfl (by omega)

theorem ofRaw_t2 : (ofRaw raw).t2 = workingT2 raw := by
  obtain ⟨first, second, third⟩ := workingT3_range raw
  exact ofRaw_nat_of_formed raw (by decide) rfl (by omega)

theorem ofRaw_t3 : (ofRaw raw).t3 = workingT3 raw := by
  obtain ⟨first, second, third⟩ := workingT3_range raw
  exact ofRaw_nat_of_formed raw (by decide) rfl (by omega)

theorem ofRaw_warn : (ofRaw raw).warn = workingWarn raw := by
  obtain ⟨apart, low, high⟩ := workingTrip_range raw
  exact ofRaw_nat_of_formed raw (by decide) rfl (by omega)

theorem ofRaw_trip : (ofRaw raw).trip = workingTrip raw := by
  obtain ⟨apart, low, high⟩ := workingTrip_range raw
  exact ofRaw_nat_of_formed raw (by decide) rfl (by omega)

/-- R136: the supervision interval is 0, or 2 to 60. -/
theorem ofRaw_supervisionInterval :
    (ofRaw raw).supervisionInterval ≠ 1 ∧ (ofRaw raw).supervisionInterval ≤ 60 := by
  have range (n : Nat) : workingSupervision n ≠ 1 ∧ workingSupervision n ≤ 60 := by
    unfold workingSupervision clampNat
    split <;> omega
  obtain ⟨other, small⟩ := range (rawNat raw 0x3A)
  have formed : (ofRaw raw).supervisionInterval = workingSupervision (rawNat raw 0x3A) :=
    ofRaw_nat_of_formed raw (by decide) rfl (by omega)
  exact formed ▸ ⟨other, small⟩

/-- R136, R175: each wait count is at most 7. -/
theorem ofRaw_waits : (ofRaw raw).waitMemory ≤ 7 ∧ (ofRaw raw).waitCell ≤ 7 := by
  have range (n : Nat) : workingWaits n % 16 ≤ 7 ∧ workingWaits n / 16 ≤ 7 := by
    unfold workingWaits
    omega
  obtain ⟨memory, cell⟩ := range (rawNat raw 0x3F)
  have formed : (ofRaw raw).nat 0x3F = workingWaits (rawNat raw 0x3F) :=
    ofRaw_nat_of_formed raw (by decide) rfl (by omega)
  rw [waitMemory, waitCell, formed]
  exact ⟨memory, cell⟩

end Settings

/-- Settles O44: kind by kind. -/
theorem workingSettingsInRange : Obligations.WorkingSettingsInRange := by
  intro raw
  obtain ⟨first, second, third⟩ := Settings.workingT3_range raw
  obtain ⟨apart, low, high⟩ := Settings.workingTrip_range raw
  obtain ⟨supervised, interval⟩ := Settings.ofRaw_supervisionInterval raw
  obtain ⟨memory, cell⟩ := Settings.ofRaw_waits raw
  rw [Settings.ofRaw_t1, Settings.ofRaw_t2, Settings.ofRaw_t3, Settings.ofRaw_warn, Settings.ofRaw_trip]
  refine ⟨fun off lo hi => Settings.ofRaw_unsigned raw, fun off lo hi => Settings.ofRaw_signed raw,
    fun off last => Settings.ofRaw_choice raw, rfl, rfl, rfl, first, second, third, rfl, apart, low, high, supervised,
    interval, memory, cell, ?_, ?_⟩
  all_goals
    simp only [Settings.ofRaw, workingHexh, clampNat]
    omega

end Sys2Proof.Machine
end

section
/-! SUPPORT. The byte that every overlay cell presents, and the snapshot holders (R130, R142, R143, Tables 32 and 33). -/

namespace Sys2Proof.Machine

/-! ### The holders (R142, R143) -/

/-- Every byte of a multi-byte value names its holder. -/
theorem holderIndex_table : ∀ i, i < 26 → ∀ k, k < (holderTable.getD i (0, 0)).2 →
    holderIndex ((holderTable.getD i (0, 0)).1 + k) = some i := by decide

/-- The bytes of a multi-byte value are overlay cells, and none is the summary. -/
theorem holderTable_range : ∀ i, i < 26 → 0 < (holderTable.getD i (0, 0)).2
    ∧ ((0x50 ≤ (holderTable.getD i (0, 0)).1 ∧ (holderTable.getD i (0, 0)).1 + (holderTable.getD i (0, 0)).2 ≤ 0x7A)
      ∨ (0xA0 ≤ (holderTable.getD i (0, 0)).1 ∧ (holderTable.getD i (0, 0)).1 + (holderTable.getD i (0, 0)).2 ≤ 0xC6)) := by
  decide

section Holder

variable {i low size : Nat} (entry : holderTable[i]? = some (low, size))

include entry

theorem holder_lt : i < 26 := (List.getElem?_eq_some_iff.1 entry).1

theorem holderTable_getD : holderTable.getD i (0, 0) = (low, size) := by
  rw [List.getD_eq_getElem?_getD, entry]
  rfl

theorem holderLow_of_entry : holderLow i = low := congrArg Prod.fst (holderTable_getD entry)

theorem holderIndex_of_entry {k : Nat} (place : k < size) : holderIndex (low + k) = some i := by
  have indexed := holderIndex_table i (holder_lt entry) k
  rw [holderTable_getD entry] at indexed
  exact indexed place

theorem holder_range : 0 < size ∧ ((0x50 ≤ low ∧ low + size ≤ 0x7A) ∨ (0xA0 ≤ low ∧ low + size ≤ 0xC6)) := by
  have range := holderTable_range i (holder_lt entry)
  rwa [holderTable_getD entry] at range

theorem holder_toNat {k : Nat} (place : k < size) : (BitVec.ofNat 8 (low + k)).toNat = low + k :=
  offset_toNat (by have range := (holder_range entry).2; omega)

/-- R142: a lowest byte presents its byte of the live value. -/
theorem overlayByte_low (s : State) : overlayByte s (BitVec.ofNat 8 low) = leByte (liveValue s low) 0 := by
  have positive := (holder_range entry).1
  have offset : (BitVec.ofNat 8 low).toNat = low := holder_toNat entry positive
  have index : holderIndex low = some i := holderIndex_of_entry entry positive
  rw [overlayByte, offset, index]
  exact (if_pos (holderLow_of_entry entry).symm).trans (by rw [holderLow_of_entry entry])

/-- R143: a higher byte presents its byte of the held value. -/
theorem overlayByte_higher (s : State) {k : Nat} (positive : 0 < k) (place : k < size) :
    overlayByte s (BitVec.ofNat 8 (low + k)) = leByte (heldValue s i) k := by
  rw [overlayByte, holder_toNat entry place, holderIndex_of_entry entry place]
  refine (if_neg ?_).trans ?_
  · rw [holderLow_of_entry entry]
    omega
  · rw [holderLow_of_entry entry, Nat.add_sub_cancel_left]

theorem heldValue_of_entry (s : State) :
    heldValue s i = (s.path.holders.getD i none).getD (liveValue s low) := by
  rw [heldValue, holderLow_of_entry entry]
  cases s.path.holders.getD i none <;> rfl

/-- R142: a read of a lowest byte loads its holder. -/
theorem loadHolder_of_entry (s : State) : loadHolder (BitVec.ofNat 8 low) s
    = s.setPath { s.path with holders := s.path.holders.set i (some (liveValue s low)) } := by
  have positive := (holder_range entry).1
  have offset : (BitVec.ofNat 8 low).toNat = low := holder_toNat entry positive
  have index : holderIndex low = some i := holderIndex_of_entry entry positive
  rw [loadHolder, offset, index]
  exact if_pos (holderLow_of_entry entry).symm

/-- R142: a read of a lowest byte presents its byte, and moves its holder alone. -/
theorem overlayRead_of_entry (s : State) : overlayRead (BitVec.ofNat 8 low) s
    = (s.setPath { s.path with holders := s.path.holders.set i (some (liveValue s low)) }).setBus
        { toController := some (leByte (liveValue s low) 0), toMemory := none, waits := s.path.working.waitCell } := by
  obtain ⟨positive, range⟩ := holder_range entry
  have offset : (BitVec.ofNat 8 low).toNat = low := holder_toNat entry positive
  rw [overlayRead_eq, overlayRead_bus, overlayRead_holders, overlayRead_notice _ _ (by rw [offset]; omega),
    overlayByte_low entry, loadHolder_of_entry entry]
  rfl

theorem exec_snapshotLoadRead (s : State) (cycles : s.takesCycles = true) :
    exec (.snapshotLoadRead (BitVec.ofNat 8 low)) s = .next (overlayRead (BitVec.ofNat 8 low) s) := by
  obtain ⟨positive, range⟩ := holder_range entry
  have offset : (BitVec.ofNat 8 low).toNat = low := holder_toNat entry positive
  have cell : overlayOffset ((address s.path.page (BitVec.ofNat 8 low)).toNat % 256) := by
    rw [address_off, offset]
    unfold overlayOffset
    omega
  refine congrArg Host.Outcome.next ((windowRead_eq _ s cycles).trans ?_)
  rw [controllerRead_of_overlay (address_page _ _) cell, address_off, offset]

end Holder

/-- R143: a loaded holder answers for its value in every state that keeps it. -/
theorem heldValue_of_loaded {u : State} {holders : List (Option Nat)} {i v : Nat} (place : i < holders.length)
    (kept : u.path.holders[i]? = (holders.set i (some v))[i]?) : heldValue u i = v := by
  rw [List.getElem?_set_self place] at kept
  rw [heldValue, List.getD_eq_getElem?_getD, kept]
  rfl

/-! ### The one-byte cells (R174, Table 32) -/

theorem overlayByte_flags (s : State) {k i : Nat} (cell : k < 3) (bit : i < 8) :
    (overlayByte s (BitVec.ofNat 8 (0x48 + k))).getLsbD i = s.notice.conditions.getLsbD (8 * k + i)
      ∧ (overlayByte s (BitVec.ofNat 8 (0x4B + k))).getLsbD i = s.notice.latched.getLsbD (8 * k + i) := by
  have byte (set : BitVec 24) (k : Nat) : (BitVec.ofNat 8 (flagByte set k).toNat).getLsbD i = set.getLsbD (8 * k + i) := by
    rw [offset_ofNat]
    simp [flagByte, bit]
  obtain rfl | rfl | rfl : k = 0 ∨ k = 1 ∨ k = 2 := by omega
  all_goals exact ⟨byte s.notice.conditions _, byte s.notice.latched _⟩

/-- R116: nothing latched and unmasked, the summary is 0. -/
theorem NoticeUnit.summary_eq_zero (n : NoticeUnit) (masks : BitVec 24)
    (silent : ∀ i, i < 24 → n.latched.getLsbD i = false ∨ masks.getLsbD i = true) : n.summary masks = 0 := by
  by_contra answers
  obtain ⟨number, latched, unmasked, -⟩ := n.summary_of_some masks (Nat.pos_of_ne_zero answers)
  cases silent (n.summary masks - 1) (by omega) with
  | inl clear => exact Bool.false_ne_true (clear.symm.trans latched)
  | inr masked => exact Bool.false_ne_true (unmasked.symm.trans masked)

/-- R116: the summary is the number of the least flag that is latched and unmasked. -/
theorem NoticeUnit.summary_eq_succ (n : NoticeUnit) (masks : BitVec 24) {i : Nat} (place : i < 24)
    (latched : n.latched.getLsbD i = true) (unmasked : masks.getLsbD i = false)
    (least : ∀ j, j < i → n.latched.getLsbD j = false ∨ masks.getLsbD j = true) : n.summary masks = i + 1 := by
  have hidden {j : Nat} (quiet : n.latched.getLsbD j = false ∨ masks.getLsbD j = true) (l : n.latched.getLsbD j = true)
      (m : masks.getLsbD j = false) : False := by
    cases quiet with
    | inl clear => exact Bool.false_ne_true (clear.symm.trans l)
    | inr masked => exact Bool.false_ne_true (m.symm.trans masked)
  by_cases silent : n.summary masks = 0
  · have shown := (n.shown_bit masks place).2 ⟨latched, unmasked⟩
    rw [n.summary_of_none masks silent, BitVec.ofNat_eq_ofNat, BitVec.getLsbD_zero] at shown
    exact absurd shown Bool.false_ne_true
  · obtain ⟨-, first, visible, below⟩ := n.summary_of_some masks (Nat.pos_of_ne_zero silent)
    obtain before | here | after : n.summary masks - 1 < i ∨ n.summary masks - 1 = i ∨ i < n.summary masks - 1 := by omega
    · exact (hidden (least _ before) first visible).elim
    · omega
    · exact (hidden (below i after) latched unmasked).elim

/-- R21: the bits of a byte formed as the validity map is. -/
theorem validity_bits : ∀ rh troom tevap tcond supply particle tach : Bool,
    let map := BitVec.ofNat 8 (rh.toNat + 2 * troom.toNat + 4 * tevap.toNat + 8 * tcond.toNat + 16 * supply.toNat
      + 32 * particle.toNat + 64 * tach.toNat)
    map.getLsbD 0 = rh ∧ map.getLsbD 1 = troom ∧ map.getLsbD 2 = tevap ∧ map.getLsbD 3 = tcond ∧ map.getLsbD 4 = supply
      ∧ map.getLsbD 5 = particle ∧ map.getLsbD 6 = tach ∧ map.getLsbD 7 = false := by decide

/-- Table 32: the persistence queue, two bits for each of its first three jobs. -/
theorem queueCode_eq (q : List Job) (field : Option Job → Nat) (empty : field none = 0)
    (job : ∀ j, field (some j) = j.code) : queueCode q = field q[0]? + 4 * field q[1]? + 16 * field q[2]? := by
  obtain _ | ⟨a, _ | ⟨b, _ | ⟨c, rest⟩⟩⟩ := q
  · simp [queueCode, empty]
  · simp [queueCode, empty, job]
  · simp [queueCode, empty, job]
  · simp [queueCode, job]
    omega

/-! ### The cells of a code (Tables 32 and 33) -/

theorem overlayByte_status (s : State) : overlayByte s 0x41#8 = (match s.cmd.status with
        | .idle => 0#8 | .accepted => 1#8 | .inProgress => 2#8 | .done => 3#8 | .refusedState => 4#8
        | .refusedBusy => 5#8 | .refusedUnknown => 6#8 | .armed => 7#8 | .aborted => 8#8) := by
  show BitVec.ofNat 8 s.cmd.status.code = _
  cases s.cmd.status <;> rfl

theorem overlayByte_resetCause (s : State) : overlayByte s 0x43#8 = (match s.store.resetCause with
    | .powerOn => 0#8 | .resetLine => 1#8 | .restart => 2#8 | .supervision => 3#8) := by
  show BitVec.ofNat 8 s.store.resetCause.code = _
  cases s.store.resetCause <;> rfl

theorem overlayByte_mode (s : State) : overlayByte s 0x4F#8 = (match s.cmd.mode with
    | .normal => 0#8 | .standalone => if s.cmd.allStop then 2#8 else 1#8) := by
  show BitVec.ofNat 8 (modeStateCode s.cmd.mode s.cmd.allStop) = _
  cases s.cmd.mode with
  | normal => rfl
  | standalone => cases s.cmd.allStop <;> rfl

theorem overlayByte_fan (s : State) : overlayByte s 0x6E#8 = (match s.air.fan with
    | .stopped => 0#8 | .run => 1#8 | .stallWait => 2#8 | .stallLockout => 3#8) := by
  show BitVec.ofNat 8 s.air.fan.code = _
  cases s.air.fan <;> rfl

theorem overlayByte_demand (s : State) : overlayByte s 0x70#8 = (match s.dry.demand with
    | .satisfied => 0#8 | .demand => 1#8 | .timed false => 2#8 | .timed true => 3#8) := by
  show BitVec.ofNat 8 s.dry.demand.code = _
  cases s.dry.demand with
  | satisfied | demand => rfl
  | timed extra => cases extra <;> rfl

theorem overlayByte_comp (s : State) : overlayByte s 0x71#8 = (match s.dry.comp with
    | .offHold => 0#8 | .offReady => 1#8 | .preRun => 2#8 | .running => 3#8 | .defrost => 4#8
    | .tripped => 5#8 | .lockedOut => 6#8) := by
  show BitVec.ofNat 8 s.dry.comp.code = _
  cases s.dry.comp <;> rfl

theorem overlayByte_level (s : State) : overlayByte s 0x74#8 = (match s.tank.level with
    | .absent => 0#8 | .normal => 1#8 | .high => 2#8 | .full => 3#8) := by
  show BitVec.ofNat 8 s.tank.level.code = _
  cases s.tank.level <;> rfl

theorem overlayByte_pump (s : State) : overlayByte s 0x75#8 = (match s.tank.pump with
    | .idle => 0#8 | .running => 1#8 | .afterRun => 2#8 | .failed => 3#8) := by
  show BitVec.ofNat 8 s.tank.pump.code = _
  cases s.tank.pump <;> rfl

theorem overlayByte_hold (s : State) : overlayByte s 0x7A#8 = (match s.store.hold with
    | .idle => 0#8 | .requesting => 1#8 | .burst => 2#8 | .retryWait => 3#8) := by
  show BitVec.ofNat 8 s.store.hold.code = _
  cases s.store.hold <;> rfl

theorem overlayByte_stage (s : State) : overlayByte s 0xA9#8 = (match s.filter.stage with
    | .good => 0#8 | .worn => 1#8 | .exhausted => 2#8) := by
  show BitVec.ofNat 8 s.filter.stage.code = _
  cases s.filter.stage <;> rfl

theorem overlayByte_queue (s : State) (field : Option Job → Nat) (empty : field none = 0)
    (check : field (some .crcUpdate) = 1) (save : field (some .wearSave) = 2) (move : field (some .windowMove) = 3) :
    overlayByte s 0x79#8
      = BitVec.ofNat 8 (field s.store.queue[0]? + 4 * field s.store.queue[1]? + 16 * field s.store.queue[2]?) := by
  refine congrArg (BitVec.ofNat 8) (queueCode_eq s.store.queue field empty fun j => ?_)
  cases j with
  | crcUpdate => exact check
  | wearSave => exact save
  | windowMove => exact move

/-- Table 17: the seconds left on the timer that governs the compressor's state. -/
theorem liveValue_compressor (s : State) : liveValue s 0x72 = (match s.dry.comp with
    | .offHold => max (s.path.working.nat 0x1C * 10 - s.dry.offTime) (secondsLeft s.dry.extraHold)
    | .preRun => secondsLeft s.dry.confirmTimer
    | .running => s.path.working.nat 0x1D * 10 - s.dry.runTime
    | .defrost => secondsLeft s.dry.defrostTimer
    | .offReady => 0 | .tripped => 0 | .lockedOut => 0) := by
  show compressorSeconds s.dry s.path.working = _
  unfold compressorSeconds
  cases s.dry.comp <;> rfl

/-- Table 33: the result of measuring point `i` of the baseline. -/
theorem liveValue_baseline (s : State) {low i : Nat} (point : i < 8) (place : low = 0xB4 + 2 * i) :
    liveValue s low = (s.air.baseline.getD i none).getD 0 := by
  subst place
  unfold liveValue
  split
  case h_19 =>
    congr 2
    omega
  all_goals omega

/-- R142, R143: the bytes of a multi-byte value, least significant first. -/
theorem overlayByte_value {i low size value : Nat} {s : State} (entry : holderTable[i]? = some (low, size))
    (live : liveValue s low = value) : overlayByte s (BitVec.ofNat 8 low) = BitVec.ofNat 8 value
      ∧ ∀ k, k < size → 0 < k → overlayByte s (BitVec.ofNat 8 (low + k))
        = BitVec.ofNat 8 ((s.path.holders.getD i none).getD value / 256 ^ k) := by
  refine ⟨?_, fun k place positive => ?_⟩
  · rw [overlayByte_low entry, live, leByte, Nat.pow_zero, Nat.div_one]
  · rw [overlayByte_higher entry s positive place, heldValue_of_entry entry, live]
    rfl

/-! ### The statement -/

/-- Settles O45: the holders by their table, and the cells one by one. -/
theorem snapshotHoldsOneValue : Obligations.SnapshotHoldsOneValue := by
  refine ⟨fun i low size s cycles holders entry => ?snapshot, fun s => ?commands, fun s => ?front,
    fun s => ?stored, fun s => ?values⟩
  case snapshot =>
    have place : i < s.path.holders.length := holders ▸ holder_lt entry
    rw [exec_snapshotLoadRead entry s cycles, overlayRead_of_entry entry]
    refine ⟨_, rfl, rfl, rfl, rfl, fun u k kept positive inside => ?_⟩
    rw [overlayByte_higher entry u positive inside, heldValue_of_loaded place kept]
  case commands =>
    refine ⟨offset_ofNat _, overlayByte_status s, rfl, overlayByte_resetCause s, offset_ofNat _, offset_ofNat _, rfl, rfl,
      fun k cell i bit => overlayByte_flags s cell bit, fun silent => ?_, fun i place latched unmasked least => ?_,
      overlayByte_mode s⟩
    · exact congrArg (BitVec.ofNat 8) (s.notice.summary_eq_zero _ silent)
    · exact congrArg (BitVec.ofNat 8) (s.notice.summary_eq_succ _ place latched unmasked least)
  case front =>
    obtain ⟨rh, troom, tevap, tcond, supply, particle, tach, top⟩ := validity_bits (decide (s.front.rh.status = .valid))
      (decide (s.front.troom.status = .valid)) (decide (s.front.tevap.status = .valid))
      (decide (s.front.tcond.status = .valid)) (decide (s.front.supply.status = .valid))
      (decide (s.front.particle.status = .valid)) s.front.tach.valid
    exact ⟨rh, troom, tevap, tcond, supply, particle, tach, top, rfl, rfl, rfl, rfl, rfl, rfl, rfl, rfl, rfl, rfl, rfl,
      overlayByte_fan s, rfl, overlayByte_demand s, overlayByte_comp s, overlayByte_level s, overlayByte_pump s⟩
  case stored =>
    exact ⟨rfl, overlayByte_queue s, overlayByte_hold s, rfl, overlayByte_stage s, rfl, rfl, offset_ofNat _, rfl,
      offset_ofNat _⟩
  case values =>
    intro c member
    obtain ⟨entry, live⟩ : holderTable[c.1]? = some (c.2.1, c.2.2.1) ∧ liveValue s c.2.1 = c.2.2.2 := by
      revert c
      iterate 9 refine List.forall_mem_cons.2 ⟨⟨rfl, rfl⟩, ?_⟩
      refine List.forall_mem_cons.2 ⟨⟨rfl, liveValue_compressor s⟩, ?_⟩
      iterate 8 refine List.forall_mem_cons.2 ⟨⟨rfl, rfl⟩, ?_⟩
      iterate 8 refine List.forall_mem_cons.2 ⟨⟨rfl, liveValue_baseline s (by decide) rfl⟩, ?_⟩
      exact List.forall_mem_nil _
    exact overlayByte_value entry live

end Sys2Proof.Machine
end

section
/-! SUPPORT. The two writes of Hexh (R138, R140, R141). -/

namespace Sys2Proof.Machine

/-- R168: the restart of supervision that ends a setting write, after deliveries that follow on. -/
theorem settingEnded_supervisionRestarted {s u : State} (follows : s.cmd.Follows u.cmd) :
    supervisionRestarted s (settingEnded u) := by
  obtain ⟨-, -, count, counting, -⟩ := settingEnded_cmd u
  rw [supervisionRestarted, count, counting, settingEnded_path]
  refine ⟨fun mode => ?_, fun mode => ?_⟩
  · rw [CommandBlock.restartSupervision_of_normal (follows.mode.trans mode)]
    exact ⟨rfl, rfl⟩
  · rw [CommandBlock.restartSupervision_of_standalone (follows.mode.trans mode)]
    exact ⟨follows.count, follows.counting⟩

theorem settingEnded_blocks (s : State) : (settingEnded s).filter = s.filter ∧ (settingEnded s).tank = s.tank
    ∧ (settingEnded s).lamps = s.lamps ∧ (settingEnded s).store = s.store ∧ (settingEnded s).front = s.front := by
  simp [settingEnded_eq]

/-- A setting byte in the memory, before the part takes it. -/
def settingReceived (off v : Byte) (s : State) : State :=
  busWrite (address s.path.page off) v (takenWriteWaits s.path.working) s

/-! ### The low byte (R140) -/

/-- R140: the low byte staged. -/
def hexhStaged (v : Byte) (s : State) : State :=
  (settingReceived 0x18#8 v s).setPath { s.path with raw := s.path.raw.set 0x18 v, hexhStage := some v }

theorem exec_hexhLowWrite (v : Byte) (s : State) (cycles : s.takesCycles = true) :
    exec (.hexhLowWrite v) s = .next (settingEnded (hexhStaged v s)) := by
  refine congrArg Host.Outcome.next ((windowWrite_eq _ v s cycles).trans ?_)
  rw [controllerWrite, classify_address _ _ (by decide)]
  rfl

/-! ### The high byte (R141) -/

/-- R141: the pair formed, and taken in its range. -/
def hexhFormed (v : Byte) (s : State) : State :=
  (settingReceived 0x19#8 v s).setPath { s.path with
    raw := s.path.raw.set 0x19 v, hexhStage := none,
    working := { s.path.working with hexh := clampNat 1 730 (s.path.hexhPair v) } }

/-- R138: the offset that the pair's clamp records, if it is clamped. -/
def hexhClamp (v : Byte) (s : State) : Option Nat :=
  if clampNat 1 730 (s.path.hexhPair v) = s.path.hexhPair v then none else some 0x19

/-- The part after a write of the high byte. -/
def hexhWritten (v : Byte) (s : State) : State :=
  settingEnded (evaluateFilter (recordClamp (hexhClamp v s) (hexhFormed v s)))

theorem exec_hexhHighWrite (v : Byte) (s : State) (cycles : s.takesCycles = true) :
    exec (.hexhHighWrite v) s = .next (hexhWritten v s) := by
  refine congrArg Host.Outcome.next ((windowWrite_eq _ v s cycles).trans ?_)
  rw [controllerWrite, classify_address _ _ (by decide)]
  rfl

/-- R141: the pair, by the low byte staged or in force. -/
theorem MemoryPath.hexhPair_eq (p : MemoryPath) (v : Byte) :
    p.hexhPair v = (p.hexhStage.map BitVec.toNat).getD (p.working.hexh % 256) + 256 * v.toNat := by
  unfold hexhPair
  cases p.hexhStage <;> rfl

theorem clampNat_hexh (n : Nat) : clampNat 1 730 n = n ↔ 1 ≤ n ∧ n ≤ 730 := by
  unfold clampNat
  omega

theorem hexhClamp_of_outside {v : Byte} {s : State} (outside : s.path.hexhPair v < 1 ∨ 730 < s.path.hexhPair v) :
    hexhClamp v s = some 0x19 := by
  refine if_neg ?_
  rw [clampNat_hexh]
  omega

theorem hexhClamp_of_inside {v : Byte} {s : State} (low : 1 ≤ s.path.hexhPair v) (high : s.path.hexhPair v ≤ 730) :
    hexhClamp v s = none := if_pos ((clampNat_hexh _).2 ⟨low, high⟩)

theorem recordClamp_blocks (clamped : Option Nat) (s : State) : (recordClamp clamped s).filter = s.filter
    ∧ (recordClamp clamped s).air = s.air ∧ (recordClamp clamped s).tank = s.tank
    ∧ (recordClamp clamped s).front = s.front := by
  cases clamped <;> exact ⟨rfl, rfl, rfl, rfl⟩

/-- What a write of the high byte leaves at the memory path, the memory, the notice unit, filter accounting and the commands. -/
theorem hexhWritten_spec (v : Byte) (s : State) :
    (hexhWritten v s).path = { (hexhFormed v s).path with
        lastClamped := ((hexhClamp v s).map (BitVec.ofNat 8)).getD s.path.lastClamped, armed := false,
        quietTimer := startTimer 200 }
      ∧ (hexhWritten v s).memory = s.memory.write (address s.path.page 0x19#8).toNat v
      ∧ hasFlag (hexhWritten v s).notice.latched .settingClamped
        = ((hexhClamp v s).isSome || hasFlag s.notice.latched .settingClamped)
      ∧ (hexhWritten v s).filter = s.filter.evaluated (hexhFormed v s).path.working s.air.q
      ∧ supervisionRestarted s (hexhWritten v s)
      ∧ (hexhWritten v s).tank = s.tank ∧ (hexhWritten v s).front = s.front ∧ (hexhWritten v s).pending = s.pending := by
  obtain ⟨⟨-, -, -, -, path, -, memory, pending⟩, cmd, flag⟩ := recordClamp_spec (hexhClamp v s) (hexhFormed v s)
  obtain ⟨filter, air, tank, front⟩ := recordClamp_blocks (hexhClamp v s) (hexhFormed v s)
  have delivered := evaluateFilter_delivered (recordClamp (hexhClamp v s) (hexhFormed v s))
  obtain ⟨-, -, endMemory, -, endPending, endNotice, -⟩ :=
    settingEnded_keeps (evaluateFilter (recordClamp (hexhClamp v s) (hexhFormed v s)))
  obtain ⟨-, endTank, -, -, endFront⟩ := settingEnded_blocks (evaluateFilter (recordClamp (hexhClamp v s) (hexhFormed v s)))
  refine ⟨?_, endMemory.trans (delivered.memory.trans memory), ?_, ?_, settingEnded_supervisionRestarted ?_, ?_, ?_,
    endPending.trans (delivered.pending.trans pending)⟩
  · rw [hexhWritten, settingEnded_path, delivered.path, path]
    rfl
  · rw [hexhWritten, endNotice, delivered.clamped, flag]
    rfl
  · rw [hexhWritten, settingEnded_filter, evaluateFilter_filter, filter, air, path]
    rfl
  · have follows := delivered.cmd
    rw [cmd] at follows
    exact follows
  · exact endTank.trans ((evaluateFilter_keeps _).trans tank)
  · obtain ⟨-, -, -, kept, -⟩ := evaluateFilter_outside (recordClamp (hexhClamp v s) (hexhFormed v s))
    exact endFront.trans (kept.trans front)

/-- Settles O43: the staged byte, and the pair with its clamp. -/
theorem hexhTakesBothBytes : Obligations.HexhTakesBothBytes := by
  refine ⟨fun v s cycles canonical => ?low, fun v s cycles canonical => ?high⟩
  case low =>
    obtain ⟨-, -, memory, -, pending, notice, air, dry⟩ := settingEnded_keeps (hexhStaged v s)
    obtain ⟨filter, tank, lamps, store, front⟩ := settingEnded_blocks (hexhStaged v s)
    exact ⟨_, exec_hexhLowWrite v s cycles, onlyByte_of_write canonical memory, settingEnded_path (hexhStaged v s),
      settingEnded_supervisionRestarted (.refl _), filter, air, dry, tank, notice, lamps, store, front, pending⟩
  case high =>
    obtain ⟨path, memory, flag, filter, supervision, tank, front, pending⟩ := hexhWritten_spec v s
    have pair := s.path.hexhPair_eq v
    have hexh : (hexhWritten v s).path.working.hexh = max 1 (min 730 (s.path.hexhPair v)) := by
      rw [path]
      rfl
    refine ⟨_, exec_hexhHighWrite v s cycles, onlyByte_of_write canonical memory, ?_⟩
    rw [hexh, filter, path, flag]
    refine ⟨rfl, rfl, fun low staged => ?_, fun unstaged => ?_, fun n same => ?_, rfl, rfl, rfl, rfl, supervision, tank, front,
      pending⟩
    · rw [pair, staged]
      rfl
    · rw [pair, unstaged]
      rfl
    · obtain rfl := same.trans pair.symm
      refine ⟨fun outside => ?_, fun low high => ?_⟩
      · rw [hexhClamp_of_outside outside]
        exact ⟨rfl, rfl⟩
      · rw [hexhClamp_of_inside low high]
        exact ⟨rfl, rfl⟩

end Sys2Proof.Machine
end

section
/-! SUPPORT. What a load leaves in each block: the images it takes, the judged stage with its reports, and the request of a
failing supply (R48, R49, R65, R94, R126, R157, R158). -/

namespace Sys2Proof.Machine

/-! ### The reports of the judged stage (R49, R56 to R59) -/

/-- From `s` to `t` a stage has been judged and reported: filter accounting, the record-changed mark, the lamps and, of the
flags, FILTER_WORN and FILTER_EXHAUSTED. -/
structure State.StageReported (s t : State) : Prop where
  frame : t = (((s.setFilter t.filter).setStore { s.store with changed := t.store.changed }).setNotice t.notice).setLamps t.lamps
  held : t.notice.held = s.notice.held
  latched : ∀ f, f ≠ .filterWorn → f ≠ .filterExhausted → hasFlag t.notice.latched f = hasFlag s.notice.latched f

namespace State.StageReported

variable {s t u : State}

theorem refl (s : State) : s.StageReported s := ⟨rfl, rfl, fun _ _ _ => rfl⟩

theorem trans (h : s.StageReported t) (k : t.StageReported u) : s.StageReported u := by
  refine ⟨k.frame.trans ?_, k.held.trans h.held, fun f worn exhausted => ?_⟩
  · exact (congrArg (fun v => (((State.setFilter v u.filter).setStore
      { v.store with changed := u.store.changed }).setNotice u.notice).setLamps u.lamps) h.frame).trans rfl
  · exact (k.latched f worn exhausted).trans (h.latched f worn exhausted)

theorem ite {c : Prop} [Decidable c] (h : s.StageReported t) (k : s.StageReported u) :
    s.StageReported (if c then t else u) := by
  split
  · exact h
  · exact k

theorem mode (h : s.StageReported t) : t.cmd.mode = s.cmd.mode := by rw [h.frame]; rfl

theorem kept (h : s.StageReported t) : t.phase = s.phase ∧ t.pins = s.pins ∧ t.pending = s.pending ∧ t.memory = s.memory
    ∧ t.path = s.path ∧ t.front = s.front ∧ t.air = s.air ∧ t.dry = s.dry ∧ t.tank = s.tank ∧ t.cmd = s.cmd := by
  rw [h.frame]
  exact ⟨rfl, rfl, rfl, rfl, rfl, rfl, rfl, rfl, rfl, rfl⟩

theorem store (h : s.StageReported t) : t.store = { s.store with changed := t.store.changed } := congrArg State.store h.frame

theorem setFilter (s : State) (f : FilterState) : s.StageReported (s.setFilter f) := ⟨rfl, rfl, fun _ _ _ => rfl⟩

theorem updateLamps (s : State) (g : LampEngine → LampEngine) : s.StageReported (updateLamps g s) :=
  ⟨rfl, rfl, fun _ _ _ => rfl⟩

theorem raise (s : State) : s.StageReported (raise .filterWorn s) :=
  ⟨rfl, rfl, fun _ worn _ => hasFlag_or_bit_of_ne _ worn.symm⟩

theorem condition_held (n : NoticeUnit) (f : Flag) (b : Bool) : (n.condition f b).held = n.held := by
  unfold NoticeUnit.condition
  repeat' split
  all_goals rfl

/-- R171: in NORMAL a report of a condition reaches the notice unit alone. -/
theorem reportCondition (normal : s.cmd.mode = .normal) (b : Bool) :
    s.StageReported (reportCondition .filterExhausted b s) := by
  rw [reportCondition_of_normal _ _ _ normal]
  exact ⟨rfl, condition_held _ _ _, fun _ _ exhausted => (hasFlag_condition_of_ne s.notice b exhausted.symm).2⟩

theorem reportChange (normal : s.cmd.mode = .normal) (b : Bool) : s.StageReported (reportChange .filterExhausted b s) := by
  unfold Machine.reportChange
  split
  · exact refl s
  · exact reportCondition normal b

theorem reportRise (normal : s.cmd.mode = .normal) (stage : Stage) : s.StageReported (reportRise stage s) := by
  have told : s.StageReported (Machine.updateLamps (fun e => { e with stage := stage }) (markChanged s)) :=
    ⟨rfl, rfl, fun _ _ _ => rfl⟩
  cases stage with
  | good => exact told
  | worn => exact told.trans (raise _)
  | exhausted => exact told.trans (reportCondition (told.mode.trans normal) true)

theorem evaluateFilter (normal : s.cmd.mode = .normal) : s.StageReported (evaluateFilter s) := by
  have judged := setFilter s (s.filter.evaluated s.path.working s.air.q)
  exact ite judged (judged.trans (reportRise (judged.mode.trans normal) _))

theorem judgeLoadedFilter (normal : s.cmd.mode = .normal) : s.StageReported (judgeLoadedFilter s) := by
  have evaluated := evaluateFilter normal
  have told := evaluated.trans (reportChange (evaluated.mode.trans normal)
    (decide ((Machine.evaluateFilter s).filter.stage = .exhausted)))
  simp only [Machine.judgeLoadedFilter]
  exact told.trans (updateLamps _ _)

end State.StageReported

theorem judgeLoadedFilter_filter (s : State) :
    (judgeLoadedFilter s).filter = s.filter.evaluated s.path.working s.air.q := by
  simp only [judgeLoadedFilter, updateLamps_keeps, reportChange_keeps]
  exact evaluateFilter_filter s

/-- R49, R58, R118: FILTER_EXHAUSTED and the lamp engine's stage follow the judged stage. -/
theorem judgeLoadedFilter_stage (s : State) :
    hasFlag (judgeLoadedFilter s).notice.conditions .filterExhausted
        = decide ((judgeLoadedFilter s).filter.stage = .exhausted)
      ∧ (judgeLoadedFilter s).lamps.stage = (judgeLoadedFilter s).filter.stage := by
  have stage : (judgeLoadedFilter s).filter.stage = (evaluateFilter s).filter.stage := by
    rw [judgeLoadedFilter_filter, evaluateFilter_filter]
  rw [stage]
  constructor
  · simp only [judgeLoadedFilter, updateLamps_keeps, hasFlag_reportChange]
  · simp only [judgeLoadedFilter, updateLamps, reportChange_keeps]
    rfl

/-! ### What a load leaves (R158) -/

/-- R158: the stored-image unit after a load, with the save that a failing supply asks for. -/
def loadedStore (pfwLow ack : Bool) (x : StoredImages) : StoredImages :=
  if pfwLow then x.requestUrgentSave.ask ack else x

/-- R158: the last act of a load, by the level of nPFW. -/
def pfwJudged (pfwLow : Bool) (s : State) : State :=
  if pfwLow then requestUrgent (s.setPins { s.pins with npfwLow := pfwLow }) else s.setPins { s.pins with npfwLow := pfwLow }

theorem pfwJudged_eq (pfwLow : Bool) (s : State) : pfwJudged pfwLow s
    = (s.setPins { s.pins with npfwLow := pfwLow }).setStore (loadedStore pfwLow s.pins.holdAck s.store) := by
  cases pfwLow <;> rfl

/-- The state before the judgement of the loaded record. -/
def loadTaken (s : State) : State := takeLoad (loadReads s.memory) (loadOccurrences (loadReads s.memory) s)

/-- R157: the occurrences of a load are the notice unit's alone. -/
theorem loadOccurrences_eq (l : LoadReads) (s : State) : loadOccurrences l s = s.setNotice (loadOccurrences l s).notice := by
  unfold loadOccurrences
  split <;> split <;> rfl

theorem loadOccurrences_of_intact {l : LoadReads} (settings : l.settingsOk = true) (record : l.recordOk = true) (s : State) :
    loadOccurrences l s = s := by
  simp [loadOccurrences, settings, record]

/-- What a completed load leaves in each block. -/
structure State.LoadedTo (pfwLow : Bool) (s t : State) : Prop where
  phase : t.phase = .running
  pins : t.pins = { s.pins with npfwLow := pfwLow }
  pending : t.pending = s.pending
  memory : t.memory = s.memory.writeAll (loadReads s.memory).writes
  path : t.path = (loadReads s.memory).memoryPath
  front : t.front = FrontEnd.ofLoad (Settings.ofRaw (loadReads s.memory).raw)
  air : t.air = AirMover.ofLoad (Settings.ofRaw (loadReads s.memory).raw) (loadReads s.memory).record
  dry : t.dry = { Drying.ofRecord (loadReads s.memory).record with offTimer := startTimer 1000 }
  tank : t.tank = TankBlock.ofRecord (loadReads s.memory).record
  cmd : t.cmd = CommandBlock.atReset.restartSupervision (Settings.ofRaw (loadReads s.memory).raw)
  filter : t.filter = (FilterState.ofRecord (loadReads s.memory).record).evaluated t.path.working t.air.q
  store : ∃ changed, t.store = loadedStore pfwLow s.pins.holdAck
    { StoredImages.ofLoad (loadReads s.memory) s.store.resetCause with changed := changed }
  held : t.notice.held = false
  latched : ∀ f, f ≠ .filterWorn → f ≠ .filterExhausted →
    hasFlag t.notice.latched f = hasFlag (loadOccurrences (loadReads s.memory) s).notice.latched f
  exhausted : hasFlag t.notice.conditions .filterExhausted = decide (t.filter.stage = .exhausted)
  stage : t.lamps.stage = t.filter.stage

/-- R126: what a load takes into each block from the images, before the record is judged. -/
theorem takeLoad_blocks (l : LoadReads) (s : State) : (takeLoad l s).phase = .running ∧ (takeLoad l s).pins = s.pins
    ∧ (takeLoad l s).pending = s.pending ∧ (takeLoad l s).memory = s.memory.writeAll l.writes
    ∧ (takeLoad l s).path = l.memoryPath ∧ (takeLoad l s).front = FrontEnd.ofLoad (Settings.ofRaw l.raw)
    ∧ (takeLoad l s).air = AirMover.ofLoad (Settings.ofRaw l.raw) l.record
    ∧ (takeLoad l s).dry = { Drying.ofRecord l.record with offTimer := startTimer 1000 }
    ∧ (takeLoad l s).tank = TankBlock.ofRecord l.record
    ∧ (takeLoad l s).cmd = CommandBlock.atReset.restartSupervision (Settings.ofRaw l.raw) := by
  unfold takeLoad
  exact ⟨rfl, rfl, rfl, rfl, rfl, rfl, rfl, rfl, rfl, rfl⟩

/-- R158: a load, block by block. -/
theorem loadComplete_loadedTo (pfwLow : Bool) (s : State) : s.LoadedTo pfwLow (loadComplete pfwLow s) := by
  have reported := State.StageReported.judgeLoadedFilter (s := loadTaken s) rfl
  have filter := judgeLoadedFilter_filter (loadTaken s)
  obtain ⟨exhausted, stage⟩ := judgeLoadedFilter_stage (loadTaken s)
  have completed : loadComplete pfwLow s = pfwJudged pfwLow (judgeLoadedFilter (loadTaken s)) := rfl
  rw [completed, pfwJudged_eq]
  generalize judgeLoadedFilter (loadTaken s) = u at *
  have taken : loadTaken s = takeLoad (loadReads s.memory) (s.setNotice (loadOccurrences (loadReads s.memory) s).notice) :=
    congrArg (takeLoad _) (loadOccurrences_eq _ _)
  obtain ⟨phase, pins, pending, memory, path, front, air, dry, tank, cmd⟩ := reported.kept
  obtain ⟨phase', pins', pending', memory', path', front', air', dry', tank', cmd'⟩ :=
    takeLoad_blocks (loadReads s.memory) (s.setNotice (loadOccurrences (loadReads s.memory) s).notice)
  have store := reported.store
  rw [← taken] at phase' pins' pending' memory' path' front' air' dry' tank' cmd'
  refine ⟨phase.trans phase', congrArg (fun p : Pins => { p with npfwLow := pfwLow }) (pins.trans pins'),
    pending.trans pending', memory.trans memory', path.trans path', front.trans front', air.trans air', dry.trans dry',
    tank.trans tank', cmd.trans cmd', ?_, ⟨u.store.changed, ?_⟩, reported.held, reported.latched, exhausted, stage⟩
  · show u.filter = _
    rw [filter, ← path, ← air]
    rfl
  · show loadedStore pfwLow u.pins.holdAck u.store = _
    rw [pins.trans pins', store, taken]
    rfl

theorem exec_loadComplete (pfwLow : Bool) {s : State} (loading : s.phase = .loading) :
    ∃ t, exec (.loadComplete pfwLow) s = .next t ∧ s.LoadedTo pfwLow t :=
  ⟨_, congrArg Host.Outcome.next (if_pos loading), loadComplete_loadedTo pfwLow s⟩

end Sys2Proof.Machine
end

section
/-! SUPPORT. A load of two intact images, field by field, and what every load starts (R48, R49, R65, R94, R126, R157, R158). -/

namespace Sys2Proof.Machine

/-! ### The reads of a load (R156, R157, Table 33) -/

theorem loadReads_page (s : State) : (loadReads s.memory).page = loadPage s := by
  have page : (loadReads s.memory).page = (s.memory.read 0x7FFF).setWidth 7 := rfl
  rw [page, loadPage]
  exact BitVec.eq_of_toNat_eq (by simp)

theorem settingsOk_of_check {s : State} (check : settingsCheck s) : (loadReads s.memory).settingsOk = true := by
  rw [settingsCheck, ← loadReads_page] at check
  exact beq_iff_eq.2 check

theorem recordOk_of_check {s : State} (check : recordCheck s) : (loadReads s.memory).recordOk = true := by
  rw [recordCheck, ← loadReads_page] at check
  exact beq_iff_eq.2 check

/-- A field of a run of bytes is the run of its own bytes. -/
theorem readRun_field (m : Memory) (page : BitVec 7) (off : Nat) {count k n : Nat} (fits : k + n ≤ count) :
    ((readRun m page off count).drop k).take n = readRun m page (off + k) n := by
  refine List.ext_getElem (by simp [readRun]; omega) fun i left right => ?_
  simp [readRun, Nat.add_assoc]

theorem leValue_readRun_one (m : Memory) (page : BitVec 7) (off : Nat) :
    leValue (readRun m page off 1) = (m.read (address page (BitVec.ofNat 8 off)).toNat).toNat := by
  simp [readRun, leValue, List.range_succ]

theorem readRun_succ (m : Memory) (page : BitVec 7) (off count : Nat) : readRun m page off (count + 1)
    = readRun m page off count ++ [m.read (address page (BitVec.ofNat 8 (off + count))).toNat] := by
  simp [readRun, List.range_succ]

/-- What a load with both checks finds and takes. -/
theorem loadReads_intact {s : State} (settings : settingsCheck s) (record : recordCheck s) :
    (loadReads s.memory).raw = readRun s.memory (loadPage s) 0x00 64
      ∧ (loadReads s.memory).record = readRun s.memory (loadPage s) 0xA0 38
      ∧ crc8 (loadReads s.memory).raw = s.memory.read (address (loadPage s) 0xFE#8).toNat
      ∧ crc8 (loadReads s.memory).record = s.memory.read (address (loadPage s) 0xC6#8).toNat
      ∧ (loadReads s.memory).writes = [] := by
  have settingsOk := settingsOk_of_check settings
  have recordOk := recordOk_of_check record
  obtain ⟨raw, rawCheck⟩ := (loadReads_settings s.memory).2 settingsOk
  obtain ⟨taken, takenCheck⟩ := (loadReads_record s.memory).2 recordOk
  rw [loadReads_page] at raw rawCheck taken takenCheck
  exact ⟨raw, taken, rawCheck, takenCheck, by simp [LoadReads.writes, settingsOk, recordOk]⟩

section Record

variable {s : State} (settings : settingsCheck s) (record : recordCheck s)

include settings record

/-- A field of an intact record, as its own bytes of the memory. -/
theorem intactRecord_field {k n : Nat} (fits : k + n ≤ 38) : leValue (((loadReads s.memory).record.drop k).take n)
    = leValue (readRun s.memory (loadPage s) (0xA0 + k) n) := by
  obtain ⟨-, taken, -⟩ := loadReads_intact settings record
  rw [taken, readRun_field _ _ _ fits]

theorem intactRecord_single {k : Nat} (fits : k + 1 ≤ 38) : leValue (((loadReads s.memory).record.drop k).take 1)
    = (s.memory.read (address (loadPage s) (BitVec.ofNat 8 (0xA0 + k))).toNat).toNat :=
  (intactRecord_field settings record fits).trans (leValue_readRun_one _ _ _)

theorem intactRecord_byte {k : Nat} (place : k < 38) : (loadReads s.memory).record.getD k 0
    = s.memory.read (address (loadPage s) (BitVec.ofNat 8 (0xA0 + k))).toNat := by
  obtain ⟨-, taken, -⟩ := loadReads_intact settings record
  rw [taken, readRun_getD _ _ _ place]

/-- R37: an entry of the baseline of an intact record. -/
theorem intactRecord_baseline {i : Nat} (point : i < 8) : (baselineOf (loadReads s.memory).record).getD i none
    = if leValue (readRun s.memory (loadPage s) (0xB4 + 2 * i) 2) = 0 then none
      else some (leValue (readRun s.memory (loadPage s) (0xB4 + 2 * i) 2)) := by
  have offset : 0xB4 + 2 * i = 0xA0 + (0x14 + 2 * i) := by omega
  rw [offset, ← intactRecord_field settings record (by omega)]
  simp [baselineOf, point]

/-- R131: the protected image of two intact images, with both check bytes as the memory has them. -/
theorem intactRecord_protected : (loadReads s.memory).memoryPath.protectedImage
    = readRun s.memory (loadPage s) 0xA0 39 ++ [s.memory.read (address (loadPage s) 0xFE#8).toNat] := by
  obtain ⟨-, taken, rawCheck, takenCheck, -⟩ := loadReads_intact settings record
  have image : (loadReads s.memory).memoryPath.protectedImage
      = (loadReads s.memory).record ++ [crc8 (loadReads s.memory).record, crc8 (loadReads s.memory).raw] := rfl
  rw [image, readRun_succ _ _ _ 38, takenCheck, rawCheck, taken]
  simp

end Record

/-! ### The judged stage (R48, R56) -/

/-- R48, R49, R56: the stage after the judgement, by the loaded byte and W. -/
theorem FilterState.evaluated_stageOfByte {f : FilterState} {b : Byte} (loaded : f.stage = stageOfByte b) (w : Settings)
    (q : Nat) : ((f.evaluated w q).wear = 100 ∨ 2 ≤ b.toNat → (f.evaluated w q).stage = .exhausted)
      ∧ ((f.evaluated w q).wear < 100 → b = 1#8 → (f.evaluated w q).stage = .worn)
      ∧ ((f.evaluated w q).wear < 100 → b = 0#8 →
          (f.evaluated w q).stage = if w.wworn ≤ (f.evaluated w q).wear then .worn else .good) := by
  obtain ⟨wear, exhausted, worn, stands⟩ := f.evaluated_spec w q
  have top : (f.evaluated w q).wear ≤ 100 := wear ▸ Nat.min_le_left _ _
  refine ⟨fun spent => ?_, fun below one => ?_, fun below zero => ?_⟩
  · by_cases full : (f.evaluated w q).wear = 100
    · exact exhausted full
    · have high := spent.resolve_left full
      have byte : f.stage = .exhausted := by
        rw [loaded, stageOfByte, if_neg, if_neg]
        · rintro rfl
          exact absurd high (by decide)
        · rintro rfl
          exact absurd high (by decide)
      exact (stands (by omega) (.inr byte)).trans byte
  · have byte : f.stage = .worn := by
      rw [loaded, one]
      rfl
    by_cases reached : w.wworn ≤ (f.evaluated w q).wear
    · exact worn below reached (by rw [byte]; decide)
    · exact (stands below (.inl (by omega))).trans byte
  · have byte : f.stage = .good := by
      rw [loaded, zero]
      rfl
    split
    case isTrue reached => exact worn below reached (by rw [byte]; decide)
    case isFalse short => exact (stands below (.inl (by omega))).trans byte

/-! ### The air mover and the stored-image unit after a load -/

theorem AirMover.formUserAuto_eq (a : AirMover) (w : Settings) (m : ModeState) :
    a.formUserAuto w m = { a with user := (a.formUserAuto w m).user, auto := (a.formUserAuto w m).auto } := by
  unfold formUserAuto
  repeat' split
  all_goals rfl

/-- The air mover that a load forms its slots in. -/
def AirMover.recorded (record : List Byte) : AirMover :=
  { AirMover.atReset with baseline := baselineOf record, q := (record.getD 0x25 0).toNat }

/-- R22: a load leaves the air mover at rest, with the baseline and Q of the record. -/
theorem AirMover.ofLoad_rest (w : Settings) (record : List Byte) : (AirMover.ofLoad w record).baseline = baselineOf record
    ∧ (AirMover.ofLoad w record).q = (record.getD 0x25 0).toNat ∧ (AirMover.ofLoad w record).drying = none
    ∧ (AirMover.ofLoad w record).defrost = none ∧ (AirMover.ofLoad w record).protect = none
    ∧ (AirMover.ofLoad w record).standalone = none ∧ (AirMover.ofLoad w record).learn = none
    ∧ (AirMover.ofLoad w record).band = 0 ∧ (AirMover.ofLoad w record).effective = 0 := by
  have kept := AirMover.arbitrate_kept ((recorded record).formUserAuto w .normal)
  have rest := (recorded record).formUserAuto_eq w .normal
  have still : ((recorded record).formUserAuto w .normal).effective = 0 := congrArg AirMover.effective rest
  have effective := AirMover.arbitrate_effective ((recorded record).formUserAuto w .normal)
  rw [still, ite_self] at effective
  exact ⟨kept.baseline.trans (congrArg AirMover.baseline rest), kept.q.trans (congrArg AirMover.q rest),
    kept.drying.trans (congrArg AirMover.drying rest), kept.defrost.trans (congrArg AirMover.defrost rest),
    kept.protect.trans (congrArg AirMover.protect rest), kept.standalone.trans (congrArg AirMover.standalone rest),
    kept.learn.trans (congrArg AirMover.learn rest), kept.band.trans (congrArg AirMover.band rest), effective⟩

/-- R22, R24: the slots of a load. -/
theorem AirMover.ofLoad_slots (w : Settings) (record : List Byte) :
    (AirMover.ofLoad w record).user = ((recorded record).formUserAuto w .normal).user
      ∧ (AirMover.ofLoad w record).auto = ((recorded record).formUserAuto w .normal).auto := by
  have kept := AirMover.arbitrate_kept ((recorded record).formUserAuto w .normal)
  exact ⟨kept.user, kept.auto⟩

theorem loadedStore_kept (pfwLow ack changed : Bool) (l : LoadReads) (cause : ResetCause) {x : StoredImages}
    (h : x = loadedStore pfwLow ack { StoredImages.ofLoad l cause with changed := changed }) :
    x.saveTimer = startTimer 900000 ∧ x.lastSeq = l.record.getD 0x24 0 ∧ x.lastCheck = crc8 l.record ∧ x.resetCause = cause
      ∧ x.pulse = none ∧ x.refusals = 0 ∧ x.retryTimer = none ∧ x.queue = if pfwLow then [.wearSave] else [] := by
  subst h
  cases pfwLow <;> cases ack <;> exact ⟨rfl, rfl, rfl, rfl, rfl, rfl, rfl, rfl⟩

/-- R158: the unit asks for the bus where nPFW is low and HOLDACK is low. -/
theorem loadedStore_hold (pfwLow ack changed : Bool) (l : LoadReads) (cause : ResetCause) {x : StoredImages}
    (h : x = loadedStore pfwLow ack { StoredImages.ofLoad l cause with changed := changed }) :
    (pfwLow = true → ack = false → x.hold = .requesting ∧ x.holdReq = true ∧ x.ackTimer = startTimer 20)
      ∧ (pfwLow = false ∨ ack = true → x.hold = .idle ∧ x.holdReq = false ∧ x.ackTimer = none) := by
  subst h
  refine ⟨?_, ?_⟩
  · rintro rfl rfl
    exact ⟨rfl, rfl, rfl⟩
  · rintro (rfl | rfl)
    · exact ⟨rfl, rfl, rfl⟩
    · cases pfwLow <;> exact ⟨rfl, rfl, rfl⟩

/-! ### The statement -/

/-- Settles O6: the blocks that a load leaves, read field by field. -/
theorem loadTakesIntactImages : Obligations.LoadTakesIntactImages := by
  refine ⟨fun p s loading settings record => ?intact, fun p s loading => ?every⟩
  case intact =>
    obtain ⟨t, stepped, h⟩ := exec_loadComplete p loading
    obtain ⟨raw, -, -, takenCheck, writes⟩ := loadReads_intact settings record
    have field {k n : Nat} := intactRecord_field settings record (k := k) (n := n)
    have single {k : Nat} := intactRecord_single settings record (k := k)
    have byte {k : Nat} := intactRecord_byte settings record (k := k)
    have unwritten : t.memory = s.memory := by rw [h.memory, writes]; rfl
    have working : t.path.working = Settings.ofRaw t.path.raw := by rw [h.path]; rfl
    have loaded : (FilterState.ofRecord (loadReads s.memory).record).stage
        = stageOfByte (s.memory.read (address (loadPage s) 0xA9#8).toNat) := congrArg stageOfByte (byte (k := 9) (by decide))
    obtain ⟨exhausted, worn, good⟩ := FilterState.evaluated_stageOfByte loaded t.path.working t.air.q
    rw [← h.filter] at exhausted worn good
    obtain ⟨baseline, q, -⟩ := AirMover.ofLoad_rest (Settings.ofRaw (loadReads s.memory).raw) (loadReads s.memory).record
    obtain ⟨changed, store⟩ := h.store
    obtain ⟨saveTimer, lastSeq, lastCheck, cause, pulse, -, -, queue⟩ := loadedStore_kept _ _ _ _ _ store
    have occurred := h.latched
    rw [loadOccurrences_of_intact (settingsOk_of_check settings) (recordOk_of_check record)] at occurred
    refine ⟨t, stepped, unwritten, h.phase, (congrArg MemoryPath.page h.path).trans (loadReads_page s),
      (congrArg MemoryPath.raw h.path).trans raw, working,
      (congrArg FilterState.dose h.filter).trans (field (k := 0x00) (n := 3) (by decide)),
      (congrArg FilterState.remainder h.filter).trans (congrArg (min 3599999) (field (k := 0x03) (n := 3) (by decide))),
      (congrArg FilterState.hours h.filter).trans (field (k := 0x06) (n := 2) (by decide)),
      (congrArg FilterState.minutes h.filter).trans (congrArg (min 59) (single (k := 0x08) (by decide))),
      congrArg FilterState.fanSeconds h.filter, ?wear, exhausted, worn, good, h.exhausted, h.stage,
      (congrArg Drying.runMinutes h.dry).trans (congrArg (min 59) (single (k := 0x0C) (by decide))),
      congrArg Drying.runSeconds h.dry,
      (congrArg Drying.tripTotal h.dry).trans (single (k := 0x13) (by decide)), fun i point => ?baseline,
      (congrArg MemoryPath.protectedImage h.path).trans (intactRecord_protected settings record),
      saveTimer, (congrArg Drying.runHours h.dry).trans (field (k := 0x0A) (n := 2) (by decide)),
      (congrArg Drying.starts h.dry).trans (field (k := 0x0D) (n := 2) (by decide)),
      (congrArg Drying.defrosts h.dry).trans (field (k := 0x0F) (n := 2) (by decide)),
      (congrArg TankBlock.cycles h.tank).trans (field (k := 0x11) (n := 2) (by decide)),
      (congrArg AirMover.q h.air).trans (q.trans (congrArg BitVec.toNat (byte (k := 0x25) (by decide)))),
      lastSeq.trans (byte (k := 0x24) (by decide)), lastCheck.trans takenCheck,
      occurred _ (by decide) (by decide), occurred _ (by decide) (by decide), h.held, ?released, cause,
      congrArg Pins.npfwLow h.pins, queue, h.pending⟩
    case wear =>
      rw [h.filter]
      rfl
    case baseline => rw [h.air, baseline, intactRecord_baseline settings record point]
    case released =>
      rw [State.controllerResetPin, State.controllerHeld, h.phase, pulse]
      rfl
  case every =>
    obtain ⟨t, stepped, h⟩ := exec_loadComplete p loading
    have working : t.path.working = Settings.ofRaw (loadReads s.memory).raw := congrArg MemoryPath.working h.path
    obtain ⟨-, -, drying, defrost, protect, standalone, learn, band, effective⟩ :=
      AirMover.ofLoad_rest t.path.working (loadReads s.memory).record
    obtain ⟨user, auto⟩ := AirMover.ofLoad_slots t.path.working (loadReads s.memory).record
    obtain ⟨-, off, dry, clean⟩ :=
      (AirMover.recorded (loadReads s.memory).record).formUserAuto_slots t.path.working .normal
    obtain ⟨changed, store⟩ := h.store
    obtain ⟨saveTimer, -, -, -, -, refusals, retryTimer, queue⟩ := loadedStore_kept _ _ _ _ _ store
    obtain ⟨asks, idle⟩ := loadedStore_hold _ _ _ _ _ store
    have air := h.air
    have front := h.front
    have cmd := h.cmd
    rw [← working] at air front cmd
    rw [← air] at drying defrost protect standalone learn band effective user auto
    rw [← user, ← auto] at off dry clean
    refine ⟨t, stepped, h.phase, h.pins, congrArg FrontEnd.settling front, fun sw => ?_, fun ch => ?_,
      congrArg FrontEnd.tach front, congrArg Drying.comp h.dry, congrArg Drying.offTime h.dry,
      congrArg Drying.offTimer h.dry, congrArg Drying.extraHold h.dry, congrArg CommandBlock.mode cmd,
      congrArg CommandBlock.status cmd, congrArg CommandBlock.awaited cmd, congrArg CommandBlock.count cmd,
      congrArg CommandBlock.counting cmd, fun mode => off (.inr mode), fun mode => (dry rfl mode).symm, clean rfl, drying, defrost,
      protect, standalone, learn, band, effective, ?_, ?_, saveTimer, refusals, retryTimer, queue, asks, idle, h.pending⟩
    · rw [front]
      cases sw <;> rfl
    · rw [front]
      cases ch <;> rfl
    · rw [State.compPin, h.dry]
      rfl
    · rw [State.pumpPin, h.tank]
      rfl

end Sys2Proof.Machine
end

section
/-! SUPPORT. The queue's order and the hold protocol's consistency (R148, R150 to R154) through each operation of the
stored-image unit. -/

namespace Sys2Proof.Machine

/-! ### The order of the queue (R148) -/

/-- A queue from which jobs are taken away is still ordered. -/
theorem queueOrdered_sublist {p q : List Job} (taken : p.Sublist q) (ordered : queueOrdered q) : queueOrdered p := by
  induction taken with
  | slnil => exact ordered
  | cons j _ ih => exact ih ordered.2.2
  | cons_cons j rest ih =>
    obtain ⟨once, last, tail⟩ := ordered
    exact ⟨fun again => once (rest.subset again), fun move => List.sublist_nil.1 (last move ▸ rest), ih tail⟩

/-- R148: a job new to a queue without a move may stand at its tail. -/
theorem queueOrdered_append {q : List Job} {j : Job} (ordered : queueOrdered q) (fresh : j ∉ q) (still : .windowMove ∉ q) :
    queueOrdered (q ++ [j]) := by
  induction q with
  | nil => exact ⟨List.not_mem_nil, fun _ => rfl, trivial⟩
  | cons k rest ih =>
    obtain ⟨once, -, tail⟩ := ordered
    obtain ⟨other, freshTail⟩ := not_or.1 (mt List.mem_cons.2 fresh)
    obtain ⟨noMove, stillTail⟩ := not_or.1 (mt List.mem_cons.2 still)
    refine ⟨fun again => ?_, fun move => absurd move.symm noMove, ih tail freshTail stillTail⟩
    obtain inRest | last := List.mem_append.1 again
    · exact once inRest
    · exact other (List.mem_singleton.1 last).symm

/-- R148, R154: a save or a check-byte update moved to the head. -/
theorem queueOrdered_headed {q : List Job} {j : Job} (ordered : queueOrdered q) (noMove : j ≠ .windowMove) :
    queueOrdered (j :: q.filter (· ≠ j)) :=
  ⟨by simp, fun move => absurd move noMove, queueOrdered_sublist List.filter_sublist ordered⟩

/-! ### Operations of the unit -/

/-- From `x` to `y` the unit keeps the order of its queue and the consistency of its hold protocol. -/
structure StoredImages.Kept (x y : StoredImages) : Prop where
  ordered : queueOrdered x.queue → queueOrdered y.queue
  held : x.holdConsistent → y.holdConsistent

/-- What the order and the consistency read of the unit. -/
def StoredImages.holdFigures (x : StoredImages) : List Job × HoldState × Bool × Option Service :=
  (x.queue, x.hold, x.holdReq, x.service)

namespace StoredImages

variable {x y z : StoredImages}

/-- What moves none of the figures keeps both. -/
theorem Kept.of_figures (same : y.holdFigures = x.holdFigures) : x.Kept y := by
  simp only [holdFigures, Prod.mk.injEq] at same
  obtain ⟨queue, hold, holdReq, service⟩ := same
  refine ⟨fun ordered => queue ▸ ordered, fun held => ?_⟩
  rw [holdConsistent, queue, hold, holdReq, service]
  exact held

theorem Kept.trans (h : x.Kept y) (k : y.Kept z) : x.Kept z := ⟨k.ordered ∘ h.ordered, k.held ∘ h.held⟩

/-- A job that joins the queue leaves the hold protocol as it is. -/
theorem holdConsistent.queued (held : x.holdConsistent) {q : List Job} (job : x.queue ≠ [] → q ≠ []) :
    StoredImages.holdConsistent { x with queue := q } := by
  obtain ⟨req, service, waiting⟩ := held
  exact ⟨req, service, fun asks => job (waiting asks)⟩

/-- R150: a unit that is in no burst and has a job may ask for the bus. -/
theorem holdConsistent.asked (held : x.holdConsistent) (noBurst : x.hold ≠ .burst) (job : x.queue ≠ []) :
    x.enterRequesting.holdConsistent := by
  obtain ⟨-, service, -⟩ := held
  refine ⟨by simp [enterRequesting], ?_, fun _ => job⟩
  simpa [enterRequesting, noBurst] using service

theorem Kept.ask (x : StoredImages) (ack : Bool) : x.Kept (x.ask ack) := by
  unfold StoredImages.ask
  split
  case isTrue asks =>
    obtain ⟨idle, job, -⟩ := asks
    exact ⟨id, fun held => held.asked (by simp [idle]) job⟩
  case isFalse => exact .of_figures rfl

theorem not_mem_of_movePending_eq_false (h : x.movePending = false) : .windowMove ∉ x.queue := fun queued =>
  Bool.false_ne_true (h.symm.trans (movePending_of_mem x queued))

theorem Kept.request (x : StoredImages) (j : Job) : x.Kept (x.request j) := by
  rw [request_eq]
  have queue := x.request_queue j
  split at queue
  case isTrue => exact .of_figures (by rw [queue])
  case isFalse fresh =>
    obtain ⟨still, new⟩ := not_or.1 fresh
    rw [queue]
    exact ⟨fun ordered => queueOrdered_append ordered new (not_mem_of_movePending_eq_false (by simpa using still)),
      fun held => held.queued fun _ => List.append_ne_nil_of_right_ne_nil _ (List.cons_ne_nil j [])⟩

theorem Kept.requestUrgentSave (x : StoredImages) : x.Kept x.requestUrgentSave :=
  ⟨fun ordered => queueOrdered_headed ordered (by decide), fun held => held.queued fun _ => List.cons_ne_nil _ _⟩

/-- R148: after the request of a move it stands in the queue, alone but for what stood before it. -/
theorem requestMove_queue (x : StoredImages) (page : BitVec 7) :
    (x.requestMove page).queue = if .windowMove ∈ x.queue then x.queue else [.windowMove] := by
  split
  case isTrue queued => rw [requestMove_of_mem x page queued]
  case isFalse fresh => rw [requestMove_of_notMem x page fresh]

theorem requestMove_eq (x : StoredImages) (page : BitVec 7) :
    x.requestMove page = { x with queue := (x.requestMove page).queue, target := page } := by
  unfold requestMove
  split <;> rfl

theorem queueOrdered_requestMove (x : StoredImages) (page : BitVec 7) (ordered : queueOrdered x.queue) :
    queueOrdered (x.requestMove page).queue := by
  rw [requestMove_queue]
  split
  · exact ordered
  · exact ⟨List.not_mem_nil, fun _ => rfl, trivial⟩

theorem requestMove_queue_ne_nil (x : StoredImages) (page : BitVec 7) : (x.requestMove page).queue ≠ [] := by
  rw [requestMove_queue]
  split
  case isTrue queued => exact List.ne_nil_of_mem queued
  case isFalse => exact List.cons_ne_nil _ _

theorem Kept.requestMove (x : StoredImages) (page : BitVec 7) : x.Kept (x.requestMove page) := by
  refine ⟨queueOrdered_requestMove x page, fun held => ?_⟩
  rw [requestMove_eq]
  exact held.queued fun _ => requestMove_queue_ne_nil x page

/-! ### A cut burst (R154) -/

/-- R154: the three ways in which a cut job returns: dropped behind a pending move, at the head, or as a move. -/
theorem returnJob_cases (x : StoredImages) (sv : Service) : (x.movePending = true ∧ x.returnJob sv = x)
    ∨ (∃ j, j ≠ .windowMove ∧ x.returnJob sv = { x with queue := j :: x.queue.filter (· ≠ j) })
    ∨ ∃ page, x.returnJob sv = x.requestMove page := by
  have returned (j : Job) (noMove : j ≠ .windowMove) (h : x.returnJob sv
      = if x.movePending then x else { x with queue := j :: x.queue.filter (· ≠ j) }) : (x.movePending = true
      ∧ x.returnJob sv = x) ∨ ∃ j, j ≠ .windowMove ∧ x.returnJob sv = { x with queue := j :: x.queue.filter (· ≠ j) } := by
    split at h
    case isTrue pending => exact .inl ⟨pending, h⟩
    case isFalse => exact .inr ⟨j, noMove, h⟩
  cases sv with
  | crcUpdate check => exact (returned .crcUpdate (by decide) rfl).imp_right .inl
  | wearSave record => exact (returned .wearSave (by decide) rfl).imp_right .inl
  | windowMove raw record page => exact .inr (.inr ⟨page, rfl⟩)

/-- R154: a cut job returns to an ordered queue. -/
theorem queueOrdered_returnJob (x : StoredImages) (sv : Service) (ordered : queueOrdered x.queue) :
    queueOrdered (x.returnJob sv).queue := by
  obtain ⟨-, same⟩ | ⟨j, noMove, headed⟩ | ⟨page, moved⟩ := x.returnJob_cases sv
  · rwa [same]
  · rw [headed]
    exact queueOrdered_headed ordered noMove
  · rw [moved]
    exact queueOrdered_requestMove x page ordered

/-- R154: with none in service a job waits once the cut one has returned: itself or the move that is pending. -/
theorem returnJob_queue_ne_nil (x : StoredImages) (sv : Service) (served : x.service = none) :
    (x.returnJob sv).queue ≠ [] := by
  obtain ⟨pending, same⟩ | ⟨j, -, headed⟩ | ⟨page, moved⟩ := x.returnJob_cases sv
  · have queued : .windowMove ∈ x.queue := by simpa [movePending, served] using pending
    rw [same]
    exact List.ne_nil_of_mem queued
  · rw [headed]
    exact List.cons_ne_nil _ _
  · rw [moved]
    exact requestMove_queue_ne_nil x page

theorem returnJob_service (x : StoredImages) (sv : Service) : (x.returnJob sv).service = x.service := by
  obtain ⟨-, same⟩ | ⟨j, -, headed⟩ | ⟨page, moved⟩ := x.returnJob_cases sv
  · rw [same]
  · rw [headed]
  · rw [moved, requestMove_eq]

/-- R151, R154: RETRY_WAIT with a job that waits and none in service. -/
theorem enterRetryWait_holdConsistent (x : StoredImages) (job : x.queue ≠ []) (served : x.service = none) :
    x.enterRetryWait.holdConsistent :=
  ⟨by simp [enterRetryWait], by simp [enterRetryWait, served], fun _ => job⟩

theorem Kept.cut (x : StoredImages) (sv : Service) : x.Kept (x.cut sv) :=
  ⟨fun ordered => queueOrdered_returnJob { x with service := none } sv ordered, fun _ =>
    enterRetryWait_holdConsistent _ (returnJob_queue_ne_nil { x with service := none } sv rfl)
      (returnJob_service { x with service := none } sv)⟩

/-! ### A completed burst, a refusal and the requests of a restart (R151, R153, R159) -/

/-- R153: a completed job leaves the queue and the hold to the unit. -/
theorem recordSave_eq (x : StoredImages) (sv : Service) : x.recordSave sv
    = { x with lastSeq := (x.recordSave sv).lastSeq, lastCheck := (x.recordSave sv).lastCheck } := by
  cases sv <;> rfl

theorem Kept.finish (x : StoredImages) (sv : Service) : x.Kept (x.finish sv) := by
  have queue : (x.recordSave sv).queue = x.queue := by rw [recordSave_eq]
  exact ⟨fun ordered => queue.symm ▸ ordered, fun _ => ⟨by simp [StoredImages.finish], by simp [StoredImages.finish], nofun⟩⟩

theorem queueOrdered_restartRequests (x : StoredImages) (quiet : Bool) (ordered : queueOrdered x.queue) :
    queueOrdered (x.restartRequests quiet).queue := by
  have checked : queueOrdered (if quiet then x.request .crcUpdate else x).queue := by
    split
    · exact (Kept.request x .crcUpdate).ordered ordered
    · exact ordered
  exact (Kept.requestUrgentSave _).ordered checked

end StoredImages

end Sys2Proof.Machine
end

section
/-! SUPPORT. The order of the persistence queue and the consistency of the hold protocol (R148, R150 to R154) through every
command and the idle step, as one relation from the state before the event, with their statement. -/

namespace Sys2Proof.Machine

/-- What the relation below reads of a state. -/
def State.unitFigures (s : State) : Phase × List Job × HoldState × Bool × Option Service :=
  (s.phase, s.store.holdFigures)

/-- From `s` to `t` the queue stays ordered and, while the part runs, the hold protocol consistent. -/
structure State.UnitKept (s t : State) : Prop where
  ordered : queueOrdered s.store.queue → queueOrdered t.store.queue
  safe : s.holdSafe → t.holdSafe

namespace State.UnitKept

variable {s t u : State}

/-! ### Changes of one block -/

theorem refl (s : State) : s.UnitKept s := ⟨id, id⟩

theorem trans (h : s.UnitKept t) (k : t.UnitKept u) : s.UnitKept u := ⟨k.ordered ∘ h.ordered, k.safe ∘ h.safe⟩

theorem ite {c : Prop} [Decidable c] (h : s.UnitKept t) (k : s.UnitKept u) : s.UnitKept (if c then t else u) := by
  split
  · exact h
  · exact k

/-- One operation of the unit, with no change of phase. -/
theorem unit (h : s.UnitKept t) (kept : t.store.Kept u.store) (phase : u.phase = t.phase := by rfl) : s.UnitKept u :=
  h.trans ⟨kept.ordered, fun safe running => kept.held (safe (phase.symm.trans running))⟩

/-- What moves none of the figures that the relation reads. -/
theorem stands (h : s.UnitKept t) (same : u.unitFigures = t.unitFigures) : s.UnitKept u :=
  h.unit (.of_figures (congrArg Prod.snd same)) (congrArg Prod.fst same)

/-- A report to the other blocks. -/
theorem reported (h : s.UnitKept t) (phase : u.phase = t.phase := by simp) (store : u.store = t.store := by simp) :
    s.UnitKept u := h.unit (.of_figures (by rw [store])) phase

/-- A part that does not run after the event. -/
theorem of_unready (ordered : queueOrdered s.store.queue → queueOrdered t.store.queue) (phase : t.phase ≠ .running) :
    s.UnitKept t := ⟨ordered, fun _ running => absurd running phase⟩

theorem setPins (h : s.UnitKept t) (p : Pins) : s.UnitKept (t.setPins p) := h.stands rfl
theorem setFront (h : s.UnitKept t) (f : FrontEnd) : s.UnitKept (t.setFront f) := h.stands rfl
theorem setAir (h : s.UnitKept t) (a : AirMover) : s.UnitKept (t.setAir a) := h.stands rfl
theorem setFilter (h : s.UnitKept t) (f : FilterState) : s.UnitKept (t.setFilter f) := h.stands rfl
theorem setDry (h : s.UnitKept t) (d : Drying) : s.UnitKept (t.setDry d) := h.stands rfl
theorem setTank (h : s.UnitKept t) (k : TankBlock) : s.UnitKept (t.setTank k) := h.stands rfl
theorem setNotice (h : s.UnitKept t) (n : NoticeUnit) : s.UnitKept (t.setNotice n) := h.stands rfl
theorem setLamps (h : s.UnitKept t) (e : LampEngine) : s.UnitKept (t.setLamps e) := h.stands rfl
theorem setPath (h : s.UnitKept t) (p : MemoryPath) : s.UnitKept (t.setPath p) := h.stands rfl
theorem setCmd (h : s.UnitKept t) (c : CommandBlock) : s.UnitKept (t.setCmd c) := h.stands rfl

/-! ### Requests (R148 to R150) -/

theorem requestJob (h : s.UnitKept t) (j : Job) : s.UnitKept (requestJob j t) :=
  h.unit ((StoredImages.Kept.request _ j).trans (.ask _ _))

theorem requestUrgent (h : s.UnitKept t) : s.UnitKept (requestUrgent t) :=
  h.unit ((StoredImages.Kept.requestUrgentSave _).trans (.ask _ _))

theorem markChanged (h : s.UnitKept t) : s.UnitKept (markChanged t) := h.stands rfl
theorem markIf (h : s.UnitKept t) (b : Bool) : s.UnitKept (markIf b t) := .ite h.markChanged h

theorem saveTimerExpiry (h : s.UnitKept t) : s.UnitKept (saveTimerExpiry t) := by
  have restarted : s.UnitKept (saveRestarted t) := h.stands rfl
  rw [saveTimerExpiry_eq]
  exact .ite (.ite (restarted.requestJob _) (restarted.unit (.request _ _))) restarted

/-! ### Reports (R26, R42 to R47, R66, R110, R119, R171) -/

theorem raise (h : s.UnitKept t) (f : Flag) : s.UnitKept (raise f t) := h.setNotice _
theorem updateLamps (h : s.UnitKept t) (g : LampEngine → LampEngine) : s.UnitKept (updateLamps g t) := h.setLamps _
theorem setComp (h : s.UnitKept t) (c : CompState) : s.UnitKept (setComp c t) := h.reported
theorem judgeHold (h : s.UnitKept t) : s.UnitKept (judgeHold t) := h.reported
theorem stopCompressor (h : s.UnitKept t) : s.UnitKept (stopCompressor t) := h.reported
theorem judgeDrying (h : s.UnitKept t) : s.UnitKept (judgeDrying t) := h.reported
theorem evaluateDemand (h : s.UnitKept t) : s.UnitKept (evaluateDemand t) := h.setDry _

theorem modeReport (h : s.UnitKept t) (m : ModeState) : s.UnitKept (dryingModeReport m t) :=
  (h.setDry _).evaluateDemand.judgeDrying

theorem judgeAllStop (h : s.UnitKept t) : s.UnitKept (judgeAllStop t) := h.reported
theorem reportCondition (h : s.UnitKept t) (f : Flag) (b : Bool) : s.UnitKept (reportCondition f b t) := h.reported
theorem reportChange (h : s.UnitKept t) (f : Flag) (b : Bool) : s.UnitKept (reportChange f b t) := h.reported
theorem reportProgress (h : s.UnitKept t) (p : Nat) : s.UnitKept (reportProgress p t) := h.reported
theorem tellLearnPending (h : s.UnitKept t) (b : Bool) : s.UnitKept (tellLearnPending b t) := h.reported
theorem startSweep (h : s.UnitKept t) : s.UnitKept (startSweep t) := h.reported
theorem abandonSweep (h : s.UnitKept t) : s.UnitKept (abandonSweep t) := h.reported

/-! ### Filter accounting, the tank block and drying -/

theorem evaluateFilter (h : s.UnitKept t) : s.UnitKept (evaluateFilter t) := by
  obtain ⟨changed, store, -⟩ := evaluateFilter_store t
  exact h.unit (.of_figures (by rw [store]; rfl)) (by simp)

theorem dosePeriod (h : s.UnitKept t) : s.UnitKept (dosePeriod t) := ((h.setFilter _).markIf _).evaluateFilter

theorem tankReports (h : s.UnitKept t) (before : TankBlock) (e : TankEvent) (forced : Bool) :
    s.UnitKept (tankReports before e forced t) := by
  have checked : s.UnitKept (floatChecked before e t) := .ite ((h.markIf _).raise _) (h.markIf _)
  have told {u : State} (hu : s.UnitKept u) (c : Prop) [Decidable c] (level : TankLevel) :
      s.UnitKept (if c then dryingTankReport level u else u) := .ite hu.reported hu
  exact told (((((checked.reportChange .tankAbsent _).reportChange .tankFull _).reportChange .tankHigh _).reportChange
    .pumpFail _).updateLamps _) _ _

theorem tankEvent (h : s.UnitKept t) (e : TankEvent) : s.UnitKept (tankEvent e t) := by
  have reports (forced : Bool) := (h.setTank (t.tank.after t.path.working e)).tankReports t.tank e forced
  cases e with
  | settle => exact reports true
  | highFloat | fullFloat | present | runMinute | onTimeEnd | afterRunEnd | setting =>
    exact .ite (reports false) (h.setTank _)

theorem runSecondExpiry (h : s.UnitKept t) : s.UnitKept (runSecondExpiry t) :=
  .ite (h.setDry _).judgeDrying ((h.setDry _).markChanged.tankEvent _).judgeDrying

theorem tripCompressor (h : s.UnitKept t) : s.UnitKept (tripCompressor t) := by
  have tripped := (h.setDry t.dry.trip).markIf (decide (t.dry.trip.tripTotal ≠ t.dry.tripTotal))
  have told : s.UnitKept (if 3 ≤ t.dry.trip.trips.length then _ else _) :=
    .ite ((tripped.setComp .lockedOut).reportCondition .compLockout true)
      ((tripped.setComp .tripped).reportCondition .compTrip true)
  exact told.requestJob _

theorem checkTrip (h : s.UnitKept t) : s.UnitKept (checkTrip t) := by
  unfold Machine.checkTrip
  split
  · exact .ite h.tripCompressor h
  · exact .ite ((h.setComp _).reportCondition _ _).judgeHold h
  all_goals exact h

theorem enterDefrost (h : s.UnitKept t) : s.UnitKept (enterDefrost t) := ((h.setDry _).markIf _).setComp _

theorem checkDefrost (h : s.UnitKept t) : s.UnitKept (checkDefrost t) := by
  unfold Machine.checkDefrost
  split
  · exact .ite h.enterDefrost (h.setDry _)
  · exact .ite ((h.setDry _).setComp _).judgeHold (h.setDry _)
  all_goals exact h

theorem dryingCheck (h : s.UnitKept t) : s.UnitKept (dryingCheck t) := by
  have warned : s.UnitKept (checkWarning (Machine.checkTrip t)) := h.checkTrip.reported
  exact warned.checkDefrost.evaluateDemand.judgeDrying

theorem airflowReport (h : s.UnitKept t) : s.UnitKept (airflowReport t) := by
  have started : s.UnitKept (enterRunning t) := ((h.setDry _).markIf _).setComp _
  unfold Machine.airflowReport
  split
  · exact .ite (started.reportCondition _ _) h
  · exact .ite (h.stopCompressor.reportCondition _ _) (.ite (h.reportCondition _ _) h)
  all_goals exact h

/-! ### The air mover and the measurement front end -/

theorem airflowPeriod (h : s.UnitKept t) : s.UnitKept (airflowPeriod t) :=
  airflowReport (.ite (h.setAir _).markChanged.evaluateFilter (h.setAir _))

theorem placeResult (h : s.UnitKept t) (i : Nat) (taken : List Nat) : s.UnitKept (placeResult i taken t) := by
  have completed (results : List Nat) : s.UnitKept (completeSweep results t) :=
    ((((h.setAir _).markIf _).evaluateFilter.reportProgress 10).tellLearnPending false).requestJob _
  have next (j : Nat) (a : AirMover) : s.UnitKept (measurePoint j (t.setAir a)) := ((h.setAir a).setAir _).reportProgress _
  exact .ite h.abandonSweep (.ite (next _ _) (completed _))

theorem learnReading (h : s.UnitKept t) : s.UnitKept (learnReading t) := by
  unfold Machine.learnReading
  split
  · exact .ite (h.setAir _) (h.placeResult _ _)
  · exact h

theorem restartDebounce (h : s.UnitKept t) (sw : Switch) : s.UnitKept (restartDebounce sw t) := .ite (h.setFront _) h

theorem debounceExpiry (h : s.UnitKept t) (sw : Switch) : s.UnitKept (debounceExpiry sw t) := by
  have told (f : FrontEnd) (meaning : Bool) : s.UnitKept (switchReport sw meaning (t.setFront f)) := by
    cases sw with
    | highFloat => exact (h.setFront f).tankEvent (.highFloat meaning)
    | fullFloat => exact (h.setFront f).tankEvent (.fullFloat meaning)
    | tankPresent => exact (h.setFront f).tankEvent (.present meaning)
    | door => exact h.reported (u := doorReport meaning (t.setFront f))
  exact .ite (h.setFront _) (told _ _)

theorem settlingExpiry (h : s.UnitKept t) : s.UnitKept (settlingExpiry t) := by
  rw [settlingExpiry_eq]
  have told {u : State} (hu : s.UnitKept u) (isOpen : Bool) : s.UnitKept (doorReport isOpen u) := hu.reported
  exact told ((h.setFront _).tankEvent _) _

/-! ### The commands of Table 30 and supervision (R163 to R172) -/

theorem filterReset (h : s.UnitKept t) : s.UnitKept (filterReset t) := by
  have cleared {u : State} (hu : s.UnitKept u) : s.UnitKept (clearFilter u) :=
    (((((hu.setAir _).setFilter _).markIf _).evaluateFilter.reportChange .filterExhausted false).updateLamps _).requestJob _
  exact .ite (cleared (h.setCmd _)).startSweep (cleared (h.setCmd _))

/-- R172: the steps of a RESUME, each after the one before. -/
theorem leaveStandalone (h : s.UnitKept t) : s.UnitKept (leaveStandalone t) := by
  have ended : s.UnitKept (if t.cmd.allStop then setAllStop false t else t) := .ite h.reported h
  exact (((((ended.setCmd _).setAir _).modeReport .normal).reportCondition .standalone false).setCmd _).setCmd _

theorem judgeCommand (h : s.UnitKept t) (code : Byte) : s.UnitKept (judgeCommand code t) := by
  have accepted (status : CommandStatus) (awaited : Awaited) : s.UnitKept (accept status awaited t) := h.setCmd _
  have refused (status : CommandStatus) : s.UnitKept (refuse status t) := (h.setCmd _).raise _
  have learn : s.UnitKept (learnBaseline t) := .ite (refused _) (.ite (refused _) (accepted _ _).startSweep)
  have abort : s.UnitKept (abortLearn t) := .ite (accepted _ _).abandonSweep (refused _)
  have defrost : s.UnitKept (defrostNow t) := .ite (accepted _ _).enterDefrost (refused _)
  have freed : s.UnitKept (airClearLockout (dryingClearLockout (accept .accepted .save t))) :=
    (accepted .accepted .save).reported
  have resumed : s.UnitKept (resume t) := .ite h.leaveStandalone (refused _)
  exact .ite h.filterReset (.ite learn (.ite abort (.ite defrost (.ite (.ite (freed.requestJob _) (refused _)) (.ite resumed
    (.ite ((accepted _ _).requestJob _) (.ite (accepted _ _) (refused _))))))))

theorem startPulse (h : s.UnitKept t) : s.UnitKept (t.setStore t.store.startPulse) := h.stands rfl

theorem supervisionCount (h : s.UnitKept t) : s.UnitKept (supervisionCount t) := by
  have entered : s.UnitKept (setCondition .standalone true
      (t.setCmd { t.cmd with mode := .standalone, count := 0, counting := none })) := (h.setCmd _).setNotice _
  have told : s.UnitKept (airModeReport .standalone _) := entered.setAir _
  have judged := (told.abandonSweep.modeReport .standalone).judgeAllStop
  exact .ite (.ite judged.startPulse judged) (h.setCmd _)

/-! ### The memory path (R127, R135 to R144) -/

theorem delivered (h : s.UnitKept t) {old : Settings} (ht : Delivered old t u) : s.UnitKept u := by
  have slots (f : AirMover → AirMover) : s.UnitKept (changeSlots f t) := h.setAir _
  cases ht with
  | readWhereUsed => exact h
  | mode => exact judgeDrying (.ite (slots _) (slots _).evaluateDemand)
  | setpoint m => exact judgeDrying (.ite h.evaluateDemand h)
  | band => exact h.evaluateDemand.judgeDrying
  | drying => exact h.judgeDrying
  | dryDuty => exact (slots _).judgeDrying
  | speeds | defrostDuty | standaloneDuty => exact slots _
  | filter => exact h.evaluateFilter
  | tank off => exact .ite h (h.tankEvent _)
  | polarity =>
    have entry {v : State} (hv : s.UnitKept v) (sw : Switch) : s.UnitKept (polarityEntry old v sw) :=
      .ite hv (hv.restartDebounce sw)
    exact entry (entry (entry (entry h .highFloat) .fullFloat) .tankPresent) .door
  | threshold => exact .ite h h.reported
  | lamps | lampLevel => exact h.setLamps _
  | policy => exact h.judgeAllStop

theorem recordClamp (h : s.UnitKept t) (clamped : Option Nat) : s.UnitKept (recordClamp clamped t) := by
  cases clamped <;> exact h.stands rfl

theorem settingEnded (h : s.UnitKept t) : s.UnitKept (settingEnded t) := by
  rw [settingEnded_eq]
  exact h.stands rfl

theorem takeSettingCell (h : s.UnitKept t) (off v : Byte) : s.UnitKept (takeSettingCell off v t) := by
  have low : s.UnitKept (takeHexhLow v t) := (h.setPath _).settingEnded
  have high : s.UnitKept (takeHexhHigh v t) := ((h.setPath _).recordClamp _).evaluateFilter.settingEnded
  exact .ite low (.ite high (((h.setPath _).recordClamp _).delivered
    (deliverSetting_delivered t.path.working off.toNat _)).settingEnded)

theorem commandByte (h : s.UnitKept t) (code : Byte) : s.UnitKept (commandByte code t) := by
  have restarted : s.UnitKept (beginRestart (noteCommand code t)) := h.trans
    (.of_unready (StoredImages.queueOrdered_restartRequests _ _) (by simp [beginRestart]))
  have noted : s.UnitKept (noteCommand code t) := h.setCmd _
  exact .ite restarted ((noted.setPath _).judgeCommand code)

theorem takeAnchor (h : s.UnitKept t) (v : Byte) : s.UnitKept (takeAnchor v t) :=
  .ite h (h.unit ((StoredImages.Kept.requestMove _ _).trans (.ask _ _)))

/-- R128: whatever the place of a controller write, the unit is reached by an anchor write and by the blocks' requests. -/
theorem written {m : BitVec 15} {v : Byte} (h : Written m v s t) : s.UnitKept t := by
  have received (b : Byte) (waits : Nat) : s.UnitKept (busWrite m b waits s) := (refl s).stands rfl
  cases h with
  | forwarded => exact received _ _
  | anchorCell => exact (received _ _).takeAnchor v
  | setting off => exact (received _ _).takeSettingCell off v
  | command => exact (received _ _).commandByte v
  | latched off => exact (received _ _).setNotice _
  | stray off => exact ((received _ _).setPath _).raise _

theorem writeCycle (m : BitVec 15) (v : Byte) (s : State) : s.UnitKept (writeCycle m v s) :=
  .ite (written (controllerWrite_written m v s)) (refl s)

theorem windowRead (off : Byte) (s : State) : s.UnitKept (windowRead off s) := by
  obtain ⟨phase, store⟩ := controllerRead_keeps (address s.path.page off) s
  exact .ite ((refl s).reported phase store) (refl s)

end State.UnitKept

end Sys2Proof.Machine
end

section
/-! SUPPORT. The same relation through the load, the drain and the hold protocol's own events, and so through every step, with
the statement of the consistent unit (R148, R150 to R154). -/

namespace Sys2Proof.Machine

/-! ### The hold protocol's events (R150 to R154) -/

namespace StoredImages

/-- R150, R152: the head of the queue taken into service. -/
theorem Kept.serve {x : StoredImages} {j : Job} {rest : List Job} (asks : x.hold = .requesting) (head : x.queue = j :: rest)
    (sv : Service) (changed : Bool) : x.Kept { x with
      queue := rest, service := some sv, hold := .burst, ackTimer := none, changed := changed } := by
  refine ⟨fun ordered => ?_, fun held => ⟨?_, ?_, nofun⟩⟩
  · rw [head] at ordered
    exact ordered.2.2
  · simp [held.1, asks]
  · simp

/-- R151: RETRY_WAIT from a request, with its job waiting. -/
theorem Kept.refused {x : StoredImages} (asks : x.hold = .requesting) (count : Nat) :
    x.Kept { x.enterRetryWait with refusals := count } := by
  refine ⟨id, fun ⟨_, service, job⟩ => ?_⟩
  have served : x.service = none := by simpa [asks] using service
  exact enterRetryWait_holdConsistent x (job (.inl asks)) served

/-- R151: the next request after a wait. -/
theorem Kept.retried {x : StoredImages} (waits : x.hold = .retryWait) : x.Kept x.enterRequesting :=
  ⟨id, fun held => held.asked (by simp [waits]) (held.2.2 (.inr waits))⟩

/-- R147, R158: after a load the unit is idle, with at most the save of a failing supply in its queue. -/
theorem loadedStore_consistent (pfwLow ack changed : Bool) (l : LoadReads) (cause : ResetCause) :
    queueOrdered (loadedStore pfwLow ack { ofLoad l cause with changed := changed }).queue
      ∧ (loadedStore pfwLow ack { ofLoad l cause with changed := changed }).holdConsistent := by
  have idle : StoredImages.holdConsistent { ofLoad l cause with changed := changed } :=
    ⟨by simp [ofLoad, atReset], by simp [ofLoad, atReset], by simp [ofLoad, atReset]⟩
  unfold loadedStore
  split
  · have kept := (Kept.requestUrgentSave { ofLoad l cause with changed := changed }).trans (.ask _ ack)
    exact ⟨kept.ordered trivial, kept.held idle⟩
  · exact ⟨trivial, idle⟩

end StoredImages

namespace State.UnitKept

variable {s t : State}

theorem holdackRise (h : s.UnitKept t) : s.UnitKept (holdackRise t) := by
  unfold Machine.holdackRise
  split
  case h_1 j rest asks head => exact h.unit (.serve asks head _ _)
  all_goals exact h

theorem holdackFall (h : s.UnitKept t) (n : Nat) : s.UnitKept (holdackFall n t) := by
  unfold Machine.holdackFall
  split
  case h_1 =>
    split
    · exact h.unit (.cut _ _)
    · exact h
  case h_2 => exact h.unit (.ask _ _)
  case h_3 waits => exact .ite h (h.unit (.retried waits))
  case h_4 => exact h

theorem refuseHold (h : s.UnitKept t) (asks : t.store.hold = .requesting) : s.UnitKept (refuseHold t) := by
  have refused (count : Nat) : s.UnitKept (t.setStore { t.store.enterRetryWait with refusals := count }) :=
    h.unit (.refused asks count)
  exact .ite (refused _) ((refused _).raise _)

theorem burstComplete (h : s.UnitKept t) : s.UnitKept (burstComplete t) := by
  unfold Machine.burstComplete
  split
  case h_1 sv _ _ =>
    have finished : s.UnitKept (((t.setMemory (t.memory.writeAll (burstWrites t.path.page sv))).setPath
        (t.path.takeBurst sv)).setStore ((t.store.finish sv).ask t.pins.holdAck)) :=
      h.unit ((StoredImages.Kept.finish _ sv).trans (.ask _ _))
    exact .ite (finished.setCmd _) finished
  all_goals exact h

/-! ### Resets, loads and the drain (R156 to R160) -/

theorem wholeReset (cause : ResetCause) (written : Nat) (s t : State) : s.UnitKept (wholeReset cause written t) :=
  .of_unready (fun _ => trivial) (wholeReset_unready _ _ _)

theorem loadComplete (pfwLow : Bool) (s : State) : s.UnitKept (loadComplete pfwLow s) := by
  obtain ⟨changed, store⟩ := (loadComplete_loadedTo pfwLow s).store
  obtain ⟨ordered, held⟩ := StoredImages.loadedStore_consistent pfwLow s.pins.holdAck changed (loadReads s.memory)
    s.store.resetCause
  rw [← store] at ordered held
  exact ⟨fun _ => ordered, fun _ _ => held⟩

theorem drainJobComplete (draining : s.phase = .draining) : s.UnitKept (drainJobComplete s) := by
  unfold Machine.drainJobComplete
  split
  case h_1 d j rest _ head =>
    have tail (ordered : queueOrdered s.store.queue) : queueOrdered rest := by
      rw [head] at ordered
      exact ordered.2.2
    exact .ite (.of_unready (fun _ => trivial) (by simp)) (.of_unready tail (by simp [draining]))
  all_goals exact refl s

/-! ### Every command and the idle step -/

theorem exec (c : Instr) (s : State) : ∃ t, exec c s = .next t ∧ s.UnitKept t := by
  have h := refl s
  cases c with
  | powerOn n | nresetAssert n => exact ⟨_, rfl, wholeReset _ _ _ _⟩
  | nresetRelease => exact ⟨_, rfl, .ite (.of_unready id (by simp)) (h.setPins _)⟩
  | loadDelayExpiry => exact ⟨_, rfl, .ite (.of_unready id (by simp)) h⟩
  | loadComplete pfwLow => exact ⟨_, rfl, .ite (loadComplete _ _) h⟩
  | drainJobComplete =>
    refine ⟨_, rfl, ?_⟩
    split
    case isTrue draining => exact drainJobComplete draining
    case isFalse => exact h
  | converterArrival ch code =>
    obtain ⟨-, -, -, store, -, -, phase, -⟩ := converterArrival_frame ch code s
    exact ⟨_, rfl, .ite (h.reported phase store) h⟩
  | particleWindowEnd =>
    have judged : s.UnitKept (windowJudged s) := (h.setFront _).reportChange _ _
    refine ⟨_, rfl, .ite ?_ h⟩
    rw [particleWindowEnd_eq]
    exact judged.setAir _
  | tachEdge e k => exact ⟨_, rfl, .ite (.ite (h.setFront _) h) h⟩
  | particleSample | stoppedReport => exact ⟨_, rfl, .ite (h.setFront _) h⟩
  | switchRawChange sw high => exact ⟨_, rfl, .ite ((h.setPins _).restartDebounce sw) (h.setPins _)⟩
  | debounceExpiry sw => exact ⟨_, rfl, .ite (h.debounceExpiry _) h⟩
  | switchSettlingExpiry => exact ⟨_, rfl, .ite h.settlingExpiry h⟩
  | npfwAssert => exact ⟨_, rfl, .ite (h.setPins _).requestUrgent (h.setPins _)⟩
  | rampStep | settledTimerExpiry | armingTimerExpiry | stallWaitExpiry => exact ⟨_, rfl, .ite (h.setAir _) h⟩
  | stallCheck => exact ⟨_, rfl, .ite h.reported h⟩
  | airflowPeriod => exact ⟨_, rfl, .ite h.airflowPeriod h⟩
  | learnHoldExpiry => exact ⟨_, rfl, .ite h.reported h⟩
  | learnReading => exact ⟨_, rfl, .ite h.learnReading h⟩
  | dosePeriod => exact ⟨_, rfl, .ite h.dosePeriod h⟩
  | dryingCheck => exact ⟨_, rfl, .ite h.dryingCheck h⟩
  | offTimeExpiry => exact ⟨_, rfl, .ite h.reported h⟩
  | confirmationTimerExpiry => exact ⟨_, rfl, .ite h.reported h⟩
  | extraHoldExpiry => exact ⟨_, rfl, .ite h.reported h⟩
  | runSecondExpiry => exact ⟨_, rfl, .ite h.runSecondExpiry h⟩
  | defrostMaxExpiry => exact ⟨_, rfl, .ite h.reported h⟩
  | timedCycleExpiry => exact ⟨_, rfl, .ite (h.setDry _).judgeDrying h⟩
  | uptimeMinute => exact ⟨_, rfl, .ite (h.setDry _) h⟩
  | onTimeEnd | afterRunExpiry => exact ⟨_, rfl, .ite (h.tankEvent _) h⟩
  | pulseTimerExpiry => exact ⟨_, rfl, .ite (h.setNotice _) h⟩
  | lampPhaseTimer lamp =>
    cases lamp with
    | filter | tank => exact ⟨_, rfl, .ite (h.setLamps _) h⟩
  | quietTimerExpiry => exact ⟨_, rfl, .ite ((h.setPath _).requestJob _) h⟩
  | settingWrite | hexhLowWrite | hexhHighWrite | latchedWrite | strayWrite | filterReset | learnBaseline | abortLearn
  | defrostNow | clearLockout | resume | saveNow | restartArm | restart | unknownCommand =>
    exact ⟨_, rfl, writeCycle _ _ s⟩
  | anchorWrite v => exact ⟨_, rfl, writeCycle anchor v s⟩
  | summaryRead | snapshotLoadRead => exact ⟨_, rfl, windowRead _ _⟩
  | holdackRise => exact ⟨_, rfl, .ite (h.setPins _).holdackRise (h.setPins _)⟩
  | holdackFall n => exact ⟨_, rfl, .ite ((h.setPins _).holdackFall n) (h.setPins _)⟩
  | ackTimerExpiry =>
    refine ⟨_, rfl, ?_⟩
    split
    case isTrue asks => exact h.refuseHold asks.1
    case isFalse => exact h
  | retryTimerExpiry =>
    refine ⟨_, rfl, ?_⟩
    split
    case isTrue waits => exact .ite (h.stands rfl) (h.unit (.retried waits.1))
    case isFalse => exact h
  | burstComplete => exact ⟨_, rfl, .ite h.burstComplete h⟩
  | saveTimerExpiry => exact ⟨_, rfl, .ite h.saveTimerExpiry h⟩
  | supervisionCount => exact ⟨_, rfl, .ite h.supervisionCount h⟩
  | supervisionPulseEnd => exact ⟨_, rfl, .ite (h.stands rfl) h⟩

theorem step (stepped : step s = .next t) : s.UnitKept t := by
  unfold Machine.step at stepped
  split at stepped
  case h_1 =>
    obtain rfl := Host.Outcome.next.inj stepped
    exact (refl s).stands rfl
  case h_2 c rest _ =>
    have fetched : s.UnitKept (s.setPending rest) := (refl s).stands rfl
    obtain ⟨u, hu, kept⟩ := exec c (s.setPending rest)
    obtain rfl := Host.Outcome.next.inj (hu.symm.trans stepped)
    exact fetched.trans kept

end State.UnitKept

/-- Settles O50: every operation of the unit keeps the queue ordered and the hold protocol consistent, and the other blocks
reach the unit through those operations alone. -/
theorem storedUnitStaysConsistent : Obligations.StoredUnitStaysConsistent :=
  ⟨fun _ _ ordered stepped => (State.UnitKept.step stepped).ordered ordered,
    fun _ _ safe stepped => (State.UnitKept.step stepped).safe safe⟩

end Sys2Proof.Machine
end


section
/-! SUPPORT. The acknowledge, the refusal and the retry of a request for the bus, and a fall of HOLDACK in each hold state, with
their statements (R150 to R152, R154, R176). -/

namespace Sys2Proof.Machine

/-! ### The acknowledge (R150, R152) -/

theorem exec_holdackRise {s : State} (running : s.phase = .running) :
    exec .holdackRise s = .next (holdackRise (s.setPins { s.pins with holdAck := true })) :=
  congrArg Host.Outcome.next (if_pos running)

/-- R150: a rise in REQUESTING takes the head of the queue into service. -/
theorem holdackRise_of_requesting {s : State} {j : Job} {rest : List Job} (asks : s.store.hold = .requesting)
    (head : s.store.queue = j :: rest) : holdackRise s = enterBurst j rest s := by
  simp only [holdackRise, asks, head]

/-- R150: elsewhere it is ignored. -/
theorem holdackRise_of_other {s : State} (other : s.store.hold ≠ .requesting) : holdackRise s = s := by
  unfold holdackRise
  split
  case h_1 asks _ => exact absurd asks other
  all_goals rfl

theorem holdackRise_eq (s : State) : holdackRise s = s.setStore (holdackRise s).store := by
  unfold holdackRise
  split <;> rfl

/-! ### The refusal and the retry (R151) -/

theorem exec_ackTimerExpiry {s : State} (asks : s.store.hold = .requesting) (runs : s.store.ackTimer.isSome = true) :
    exec .ackTimerExpiry s = .next (refuseHold s) := congrArg Host.Outcome.next (if_pos ⟨asks, runs⟩)

theorem refuseHold_of_few {s : State} (few : s.store.refusals < 2) : refuseHold s
    = s.setStore { s.store.enterRetryWait with refusals := s.store.refusals + 1 } := by
  have below : s.store.refusals + 1 < 3 := by omega
  simp only [refuseHold, if_pos below]

/-- R151: the third refusal in a row is reported, and the count begins anew. -/
theorem refuseHold_of_third {s : State} (third : s.store.refusals = 2) : refuseHold s
    = raise .holdRefused (s.setStore { s.store.enterRetryWait with refusals := 0 }) := by
  have full : ¬ s.store.refusals + 1 < 3 := by omega
  simp only [refuseHold, if_neg full]

theorem exec_retryTimerExpiry {s : State} (waits : s.store.hold = .retryWait) (runs : s.store.retryTimer.isSome = true) :
    exec .retryTimerExpiry s = .next (s.setStore
      (if s.pins.holdAck then { s.store with retryTimer := none } else s.store.enterRequesting)) := by
  refine congrArg Host.Outcome.next ((if_pos ⟨waits, runs⟩).trans ?_)
  split <;> rfl

/-- Settles O51: the acknowledge by the hold state and the head of the queue, the refusal by its count, and the retry by the
level of HOLDACK. -/
theorem holdRequestIsAnswered : Obligations.HoldRequestIsAnswered := by
  refine ⟨fun s running => ⟨_, exec_holdackRise running, holdackRise_eq _, fun other => ?ignored, fun j rest asks head => ?served⟩,
    fun s asks runs most => ?refused, fun s waits runs => ?retried⟩
  case ignored => rw [holdackRise_of_other (by exact other)]; rfl
  case served =>
    have taken : holdackRise (s.setPins { s.pins with holdAck := true })
        = enterBurst j rest (s.setPins { s.pins with holdAck := true }) := holdackRise_of_requesting asks head
    rw [taken]
    have lines (c : Bool) := lines_in_burst (enterBurst j rest (s.setPins { s.pins with holdAck := true })) c running rfl
    refine ⟨rfl, rfl, rfl, fun c => ⟨(lines c).1, (lines c).2.1⟩, (lines true).2.2, rfl, rfl, ?_, ?_, ?_⟩
    · rintro rfl
      exact ⟨rfl, Bool.and_true _⟩
    · rintro rfl
      exact ⟨rfl, Bool.and_false _⟩
    · rintro rfl
      exact ⟨Bool.and_false _, rfl⟩
  case refused =>
    refine ⟨_, exec_ackTimerExpiry asks runs, ?_⟩
    obtain few | third : s.store.refusals < 2 ∨ s.store.refusals = 2 := by omega
    · rw [refuseHold_of_few few]
      exact ⟨rfl, rfl, rfl, rfl, rfl, fun _ => ⟨rfl, rfl⟩, fun third => absurd third (Nat.ne_of_lt few), rfl⟩
    · rw [refuseHold_of_third third]
      exact ⟨rfl, rfl, rfl, rfl, rfl, fun few => absurd third (Nat.ne_of_lt few), fun _ => ⟨rfl, by simp⟩, rfl⟩
  case retried =>
    refine ⟨_, exec_retryTimerExpiry waits runs, fun low => ?_, fun high => ?_, rfl⟩
    · rw [low]
      exact ⟨rfl, rfl, rfl, rfl⟩
    · rw [high]
      rfl

/-! ### A fall of HOLDACK (R150, R151, R154) -/

/-- R151: in RETRY_WAIT the fall ends a wait whose timer has run out. -/
theorem holdackFall_of_retryWait (n : Nat) {s : State} (waits : s.store.hold = .retryWait) :
    holdackFall n s = s.setStore (if s.store.retryTimer.isSome then s.store else s.store.enterRequesting) := by
  unfold holdackFall
  rw [waits]
  cases s.store.retryTimer.isSome <;> rfl

section Fall

variable {s : State} (n : Nat) (running : s.phase = .running)

include running

theorem exec_holdackFall : exec (.holdackFall n) s = .next (holdackFall n (s.setPins { s.pins with holdAck := false })) :=
  congrArg Host.Outcome.next (if_pos running)

/-- R154: a burst of the job in service, cut after `n` bytes. -/
theorem exec_holdackFall_burst {sv : Service} (burst : s.store.hold = .burst) (service : s.store.service = some sv) :
    exec (.holdackFall n) s = .next ((((s.setPins { s.pins with holdAck := false }).setMemory
      (s.memory.writeAll ((burstWrites s.path.page sv).take n))).setPath (s.path.takeCut sv n)).setStore (s.store.cut sv)) := by
  rw [exec_holdackFall n running]
  simp only [holdackFall, State.setPins_store, burst, service]
  rfl

theorem exec_holdackFall_idle (idle : s.store.hold = .idle) : exec (.holdackFall n) s
    = .next ((s.setPins { s.pins with holdAck := false }).setStore (s.store.ask false)) := by
  rw [exec_holdackFall n running]
  simp only [holdackFall, State.setPins_store, State.setPins_pins, idle]

theorem exec_holdackFall_retryWait (waits : s.store.hold = .retryWait) : exec (.holdackFall n) s
    = .next ((s.setPins { s.pins with holdAck := false }).setStore
      (if s.store.retryTimer.isSome then s.store else s.store.enterRequesting)) := by
  rw [exec_holdackFall n running, holdackFall_of_retryWait n (by exact waits)]
  rfl

theorem exec_holdackFall_requesting (asks : s.store.hold = .requesting) : exec (.holdackFall n) s
    = .next (s.setPins { s.pins with holdAck := false }) := by
  rw [exec_holdackFall n running]
  simp only [holdackFall, State.setPins_store, asks]

end Fall

namespace StoredImages

variable {x : StoredImages} (noMove : .windowMove ∉ x.queue)

include noMove

/-- With no move queued, none is pending once the burst has left its job. -/
theorem movePending_of_unserved : StoredImages.movePending { x with service := none } = false := by
  simp [movePending, noMove]

theorem cut_wearSave (record : List Byte) : x.cut (.wearSave record) = { x with
    queue := .wearSave :: x.queue.filter (· ≠ .wearSave), service := none, hold := .retryWait, holdReq := false,
    ackTimer := none, retryTimer := startTimer 1000, changed := true } := by
  simp only [cut, returnJob, movePending_of_unserved noMove, Bool.false_eq_true, if_false, Service.writesRecord,
    Service.record?, Option.isSome_some, Bool.or_true, enterRetryWait]

theorem cut_crcUpdate (check : Byte) : x.cut (.crcUpdate check) = { x with
    queue := .crcUpdate :: x.queue.filter (· ≠ .crcUpdate), service := none, hold := .retryWait, holdReq := false,
    ackTimer := none, retryTimer := startTimer 1000 } := by
  simp only [cut, returnJob, movePending_of_unserved noMove, Bool.false_eq_true, if_false, Service.writesRecord,
    Service.record?, Option.isSome_none, Bool.or_false, enterRetryWait]

theorem cut_windowMove (raw record : List Byte) (page : BitVec 7) : x.cut (.windowMove raw record page) = { x with
    queue := [.windowMove], target := page, service := none, hold := .retryWait, holdReq := false, ackTimer := none,
    retryTimer := startTimer 1000, changed := true } := by
  have moved := requestMove_of_notMem { x with service := none } page noMove
  simp only [cut, returnJob, moved, Service.writesRecord, Service.record?, Option.isSome_some, Bool.or_true, enterRetryWait]

end StoredImages

/-- R154: the one byte of a check-byte job, written or not. -/
theorem MemoryPath.takeCut_check (p : MemoryPath) (check : Byte) {n : Nat} (written : 1 ≤ n) :
    p.takeCut (.crcUpdate check) n = { p with protectedImage := p.protectedImage.set 39 check } := by
  have bytes : (burstWrites p.page (.crcUpdate check)).take n = [(address p.page 0xFE#8, check)] :=
    List.take_of_length_le written
  show { p with protectedImage := protectedAfter p.protectedImage p.page ((burstWrites p.page (.crcUpdate check)).take n) } = _
  rw [bytes, protectedAfter_check]

/-- Settles O53: the cut of each job in service by what it returns to the queue, and the fall in the other hold states. -/
theorem holdackFallCutsBurst : Obligations.HoldackFallCutsBurst := by
  refine ⟨fun n record s running burst service noMove => ?save, fun n s running idle => ?idle, fun n s running waits => ?waits,
    fun n s running asks => ⟨_, exec_holdackFall_requesting n running asks, rfl⟩,
    fun n check s running burst service noMove => ?check, fun n raw record page s running burst service noMove => ?move⟩
  case save =>
    refine ⟨_, exec_holdackFall_burst n running burst service, ?_⟩
    rw [StoredImages.cut_wearSave noMove]
    exact ⟨rfl, rfl, rfl, rfl, rfl, rfl, rfl, rfl, rfl, rfl, rfl, rfl, rfl, rfl⟩
  case idle =>
    refine ⟨_, exec_holdackFall_idle n running idle, fun empty => ?_, fun job => ?_, rfl⟩
    · simp [StoredImages.ask, empty]
    · rw [StoredImages.ask_of_idle _ idle job]
      exact ⟨rfl, rfl, rfl, rfl⟩
  case waits =>
    refine ⟨_, exec_holdackFall_retryWait n running waits, fun stopped => ?_, fun runs => if_pos runs, rfl⟩
    rw [stopped]
    exact ⟨rfl, rfl, rfl⟩
  case check =>
    refine ⟨_, exec_holdackFall_burst n running burst service, ?_, fun written => ⟨?_, s.path.takeCut_check check written⟩,
      StoredImages.cut_crcUpdate noMove check, rfl⟩
    · rintro rfl
      exact ⟨rfl, rfl⟩
    · show s.memory.writeAll (List.take n [(address s.path.page 0xFE#8, check)]) = _
      rw [List.take_of_length_le (by exact written)]
      rfl
  case move =>
    exact ⟨_, exec_holdackFall_burst n running burst service, rfl, StoredImages.cut_windowMove noMove raw record page, rfl⟩

end Sys2Proof.Machine
end

section
/-! SUPPORT. The CRC-8 of R155 byte by byte, what the two check bytes cover, the commands SAVE_NOW and 0xA5, and the reset
state, with their statements. -/

namespace Sys2Proof.Machine

/-! ### The check byte (R155) -/

/-- R155: the register shifts once, and a dropped 1 combines it with the polynomial. -/
def crcShift (r : Byte) : Byte := if r.msb then (r <<< 1) ^^^ 0x07#8 else r <<< 1

/-- R155: a byte is combined into the register, which then shifts eight times. -/
theorem crcByte_eq (reg b : Byte) : crcByte reg b = Nat.iterate crcShift 8 (reg ^^^ b) := rfl

theorem crc8_concat (bytes : List Byte) (b : Byte) : crc8 (bytes ++ [b]) = crcByte (crc8 bytes) b := by
  simp [crc8]

/-- Table 33: the save sequence stands at 0xC4 of the record. -/
theorem recordBytes_sequence (s : State) (seq : Byte) : (recordBytes s seq).getD 0x24 0 = seq := by
  simp [recordBytes, leBytes, List.range_succ]

/-- Table 27: the record check byte is the last of a save. -/
theorem saveWrites_getLast? (page : BitVec 7) (record : List Byte) :
    (saveWrites page record).getLast? = some (address page 0xC6#8, crc8 record) := List.getLast?_concat

/-- Settles O49: the CRC by its last byte, and the images that the two check bytes are taken over. -/
theorem checkByteIsCrc8 : Obligations.CheckByteIsCrc8 :=
  ⟨rfl, by decide, fun bytes b => (crc8_concat bytes b).trans (crcByte_eq _ _), fun _ => rfl,
    fun s seq => ⟨recordBytes_length s seq, recordBytes_sequence s seq⟩, saveWrites_getLast?⟩

/-! ### SAVE_NOW and the arming of a restart (R148, R163, R167) -/

theorem exec_saveNow {s : State} (cycles : s.takesCycles = true) :
    exec .saveNow s = .next (requestJob .wearSave (accept .accepted .save (commandNoted 0x32#8 s))) :=
  congrArg Host.Outcome.next (windowWrite_commandCell 0x32#8 s cycles (by decide))

theorem exec_restartArm {s : State} (cycles : s.takesCycles = true) :
    exec .restartArm s = .next (accept .armed .none (commandNoted 0xA5#8 s)) :=
  congrArg Host.Outcome.next (windowWrite_commandCell 0xA5#8 s cycles (by decide))

/-- R148: a request's queue stands when the unit then asks for the bus. -/
theorem requestJob_queue (j : Job) (s : State) : (requestJob j s).store.queue
    = if s.store.movePending = true ∨ j ∈ s.store.queue then s.store.queue else s.store.queue ++ [j] :=
  ((s.store.request j).ask_keeps s.pins.holdAck).1.trans (s.store.request_queue j)

/-- Settles O58: both commands are accepted as they are judged, and SAVE_NOW asks for its save besides. -/
theorem saveNowAndRestartArm : Obligations.SaveNowAndRestartArm := by
  refine ⟨fun s cycles canonical => ⟨_, exec_saveNow cycles, ?save⟩,
    fun s cycles canonical => ⟨_, exec_restartArm cycles, ?arm⟩⟩
  case save =>
    have queue : (requestJob .wearSave (accept .accepted .save (commandNoted 0x32#8 s))).store.queue = _ :=
      requestJob_queue _ _
    exact ⟨commandTaken_of canonical (by simp [onlyBlocks, accept]) rfl, supervisionRestarted_of rfl rfl rfl, rfl, rfl,
      by simp [queue], by simp, by simp, by simp, by simp, by simp, by simp [accept]⟩
  case arm =>
    exact ⟨commandTaken_of canonical (by simp [onlyBlocks, accept]) rfl, supervisionRestarted_of rfl rfl rfl, rfl, rfl, rfl,
      by simp, by simp, by simp, by simp, by simp, by simp [accept], by simp⟩

/-! ### The reset state (R156) -/

/-- R156: the part just after power-on waits for its load. -/
theorem State.reset_unready : State.reset.phase ≠ .running := by decide

theorem State.reset_fanSafe : State.reset.fanSafe := .of_image rfl rfl AirMover.atReset_safe

/-- R18, R94: no switch is settling, and the pump is off. -/
theorem State.reset_pumpSafe : State.reset.pumpSafe := .of_settled rfl (TankBlock.pumpHeld_of_off rfl)

/-- Settles O60: at reset the compressor is in OFF_HOLD, the queue is empty, nothing is latched, and what holds of a running
part holds of none. -/
theorem resetStateIsSafe : Obligations.ResetStateIsSafe := by
  have rested : State.reset.compressorRested := by rintro (ready | preRun) <;> contradiction
  have interlocked : State.reset.compressorInterlocked := by rintro (preRun | running) <;> contradiction
  have unready {p : Prop} : State.reset.phase = .running → p := fun running => absurd running State.reset_unready
  exact ⟨State.reset_fanSafe, rested, interlocked, State.reset_pumpSafe, NoticeUnit.atReset_latchesPresent, trivial, unready,
    unready, unready, rfl, unready⟩

end Sys2Proof.Machine
end

section
/-! SUPPORT. The resets, the 10 ms before the load, the restart that begins a drain, and the drain job by job, with their
statements (R153, R156, R159, R160, R167, R176). -/

namespace Sys2Proof.Machine

/-! ### Power-on, the reset line and the load's delay (R156, R176) -/

theorem lampOutput_dark (perceptual : Bool) : lampOutput perceptual 0 = 0 := by cases perceptual <;> rfl

/-- R176: a part in reset holds its outputs off and its lines released. -/
theorem wholeReset_partInReset (cause : ResetCause) (n : Nat) (s : State) : partInReset cause s (wholeReset cause n s) := by
  have unready := wholeReset_unready cause n s
  have lines (c : Bool) := lines_outside_running (wholeReset cause n s) c unready
  have released (c : Bool) : (wholeReset cause n s).phase.ownLines c = .released := by
    unfold wholeReset
    split <;> rfl
  have reset : (wholeReset cause n s).controllerResetPin = true := by
    simp [State.controllerResetPin, State.controllerHeld, unready]
  have notice : (wholeReset cause n s).noticePin = false := rfl
  refine ⟨rfl, rfl, rfl, rfl, rfl, rfl, rfl, rfl, rfl, rfl, rfl, rfl, rfl, fun l => ?_, rfl, notice, reset,
    fun k => waitPin_outside_running _ k unready, fun c => ?_, (lines true).2.2, rfl⟩
  · have dark : ((wholeReset cause n s).lamps.lamp l).intensity = 0 := by cases l <;> rfl
    rw [lampPin_eq, dark, lampOutput_dark]
  · obtain ⟨address, data, -⟩ := lines c
    exact ⟨address.trans (released c), data.trans (released c)⟩

/-- Settles O4: both resets are the one whole reset, and the two expiries before the load move the phase alone. -/
theorem resetLeadsToLoad : Obligations.ResetLeadsToLoad := by
  refine ⟨fun n s => ⟨_, rfl, wholeReset_partInReset .powerOn n s, rfl, rfl, rfl, rfl⟩, fun n s => ?line,
    fun s held => ⟨_, congrArg Host.Outcome.next (if_pos held), rfl⟩,
    fun s waits runs => ⟨_, congrArg Host.Outcome.next (if_pos ⟨waits, runs⟩), rfl⟩⟩
  case line =>
    exact ⟨_, rfl, wholeReset_partInReset .resetLine n (s.setPins { s.pins with nresetLow := true }), rfl, rfl, rfl, rfl⟩

/-! ### A restart (R159, R167) -/

/-- R159: the part as it begins a restart, the armed code noted and the command cell written. -/
def restarted (s : State) : State :=
  beginRestart (noteCommand codeRestart (busWrite (address s.path.page 0x40#8) 0 (takenWriteWaits s.path.working) s))

/-- R167: 0x5A at the command cell of an armed part. -/
theorem exec_restart {s : State} (cycles : s.takesCycles = true) (armed : s.path.armed = true) :
    exec .restart s = .next (restarted s) := by
  have place : classify s.path.page (address s.path.page 0x40#8) = .commandCell := classify_address _ _ (by decide)
  have taken : windowWrite 0x40#8 codeRestart s
      = commandByte codeRestart (busWrite (address s.path.page 0x40#8) 0 (takenWriteWaits s.path.working) s) := by
    rw [windowWrite_eq _ _ _ cycles, controllerWrite, place]
  exact congrArg Host.Outcome.next (taken.trans (if_pos ⟨armed, rfl⟩))

/-- R148, R159: a restart asks for the check byte of a write still quiet, then urgently for a save. -/
theorem StoredImages.restartRequests_queue (x : StoredImages) (quiet : Bool) :
    (x.restartRequests quiet).queue = .wearSave :: List.filter (· ≠ .wearSave)
      (if quiet = true ∧ x.movePending = false ∧ .crcUpdate ∉ x.queue then x.queue ++ [.crcUpdate] else x.queue) := by
  cases quiet with
  | false => rfl
  | true =>
    have asked : (x.request .crcUpdate).queue
        = if x.movePending = false ∧ .crcUpdate ∉ x.queue then x.queue ++ [.crcUpdate] else x.queue := by
      rw [request_queue, ← ite_not]
      simp only [not_or, Bool.not_eq_true]
    simp only [restartRequests, requestUrgentSave, if_true, asked, true_and]

theorem StoredImages.restartRequests_keeps (x : StoredImages) (quiet : Bool) :
    (x.restartRequests quiet).saveTimer = x.saveTimer ∧ (x.restartRequests quiet).changed = x.changed
      ∧ (x.restartRequests quiet).lastSeq = x.lastSeq := by
  cases quiet with
  | false => exact ⟨rfl, rfl, rfl⟩
  | true =>
    rw [StoredImages.restartRequests, if_pos rfl, StoredImages.request_eq]
    exact ⟨rfl, rfl, rfl⟩

/-- R131: a restart writes 0x00 at the command cell and no other byte. -/
theorem restarted_memory (s : State) : (restarted s).memory = s.memory.write (address s.path.page 0x40#8).toNat 0 := rfl

/-- Settles O7: the armed 0x5A begins the restart, whose queue is that of its requests. -/
theorem restartBeginsDrain : Obligations.RestartBeginsDrain := by
  intro s cycles canonical armed
  have unready : (restarted s).phase ≠ .running := Phase.noConfusion
  obtain ⟨saveTimer, changed, lastSeq⟩ := s.store.restartRequests_keeps s.path.quietTimer.isSome
  exact ⟨_, exec_restart cycles armed, rfl, rfl, (lines_outside_running _ true unready).2.2,
    fun k => waitPin_outside_running _ k unready, rfl, rfl, rfl, rfl, saveTimer, changed, rfl,
    s.store.restartRequests_queue s.path.quietTimer.isSome, rfl, lastSeq, rfl, rfl, rfl, rfl, rfl, rfl, rfl, rfl, rfl, rfl, rfl,
    onlyByte_of_write canonical (restarted_memory s), rfl, rfl⟩

/-! ### The drain (R153, R160) -/

/-- R160: the part after the head of the drain has been written. -/
def drained (d : Drain) (j : Job) (rest : List Job) (s : State) : State :=
  (((s.setMemory (s.memory.writeAll (burstWrites s.path.page (drainService s.store d j)))).setPath
    (s.path.takeBurst (drainService s.store d j))).setStore { s.store.recordSave (drainService s.store d j) with
      queue := rest, drain := if rest = [] then none else (s.store.recordSave (drainService s.store d j)).drain }).setPhase
    (if rest = [] then .loading else s.phase)

theorem exec_drainJobComplete {d : Drain} {j : Job} {rest : List Job} {s : State} (drains : s.phase = .draining)
    (images : s.store.drain = some d) (head : s.store.queue = j :: rest) :
    exec .drainJobComplete s = .next (drained d j rest s) := by
  have job : drainJobComplete s = drainJob d j rest s := by simp only [drainJobComplete, images, head]
  have written : drainJob d j rest s = drained d j rest s := by
    cases rest <;> rfl
  exact congrArg Host.Outcome.next ((if_pos drains).trans (job.trans written))

theorem drained_phase {d : Drain} {j : Job} {rest : List Job} {s : State} (drains : s.phase = .draining) :
    (drained d j rest s).phase = if rest = [] then .loading else .draining := by
  rw [← drains]
  rfl

/-! ### The record of a drain, with its sequence (R152) -/

section Sequence

variable {record : List Byte} (seq : Byte)

theorem withSequence_length : (withSequence record seq).length = record.length := List.length_set

theorem withSequence_sequence (size : record.length = 38) : (withSequence record seq).getD 0x24 0 = seq := by
  rw [withSequence, getD_set, if_pos ⟨rfl, by omega⟩]

theorem withSequence_other {i : Nat} (other : i ≠ 0x24) : (withSequence record seq).getD i 0 = record.getD i 0 := by
  rw [withSequence, getD_set, if_neg fun here => other here.1]

end Sequence

/-- Settles O8: each job's bytes by the last write at their offset, the record with the next sequence. -/
theorem drainWritesRecord : Obligations.DrainWritesRecord := by
  refine ⟨fun d rest s drains canonical images head size => ?save, fun d rest s drains canonical images head => ?check,
    fun d rest s drains canonical images head size rawLength => ?move⟩
  case save =>
    have sized := (withSequence_length (s.store.lastSeq + 1)).trans size
    have written {i : Nat} (place : i < 38) := Memory.read_of_lastWritten canonical
      (lastWritten_save_record (page := s.path.page) sized place)
    have sequence := withSequence_sequence (s.store.lastSeq + 1) size
    refine ⟨_, exec_drainJobComplete drains images head, fun i place other => (written place).trans (withSequence_other _ other),
      (written (i := 0x24) (by decide)).trans sequence,
      Memory.read_of_lastWritten canonical (lastWritten_saveWrites s.path.page sized 0xC6#8),
      fun a apart => Memory.read_writeAll_of_notin _ _ _ canonical fun w member here => ?_, sequence, rfl, rfl,
      drained_phase drains, rfl⟩
    obtain ⟨n, low, high, place⟩ := mem_saveWrites sized member
    exact apart n low high (here.symm.trans (congrArg BitVec.toNat place))
  case check =>
    exact ⟨_, exec_drainJobComplete drains images head, onlyByte_of_write canonical rfl, rfl, rfl, rfl, rfl,
      drained_phase drains, rfl⟩
  case move =>
    have sized := (withSequence_length (s.store.lastSeq + 1)).trans size
    have written {i : Nat} (place : i < 64) := Memory.read_of_lastWritten canonical
      (lastWritten_move_raw s.store.target (record := withSequence d.record (s.store.lastSeq + 1)) rawLength sized place)
    have saved {i : Nat} (place : i < 38) := Memory.read_of_lastWritten canonical
      (lastWritten_move_record (page := s.store.target) rawLength sized place)
    have checked := lastWritten_moveWrites s.store.target rawLength sized
    have sequence := withSequence_sequence (s.store.lastSeq + 1) size
    refine ⟨_, exec_drainJobComplete drains images head, rfl, fun i place => written place,
      Memory.read_of_lastWritten canonical (checked 0xFE#8),
      fun i place other => (saved place).trans (withSequence_other _ other), (saved (i := 0x24) (by decide)).trans sequence,
      Memory.read_of_lastWritten canonical (checked 0xC6#8),
      fun a apart => Memory.read_writeAll_of_notin _ _ _ canonical fun w member here => ?_, rfl, sequence, rfl,
      drained_phase drains, rfl⟩
    obtain ⟨n, low, rfl⟩ | ⟨n, high, place⟩ := mem_moveWrites rawLength sized member
    · exact apart n (.inl low) here.symm
    · exact apart n (.inr high) (here.symm.trans (congrArg BitVec.toNat place))

end Sys2Proof.Machine
end

section
/-! SUPPORT. A load that replaces an image, and a restart that reloads the images of its own drain, with their statements
(R157, R159, R160). -/

namespace Sys2Proof.Machine

/-! ### The two checks of a load (R157) -/

theorem settingsOk_iff {s : State} : (loadReads s.memory).settingsOk = true ↔ settingsCheck s := by
  rw [settingsCheck, ← loadReads_page]
  exact beq_iff_eq

theorem recordOk_iff {s : State} : (loadReads s.memory).recordOk = true ↔ recordCheck s := by
  rw [recordCheck, ← loadReads_page]
  exact beq_iff_eq

/-- R157: the settings that fail their check are the default image's. -/
theorem loadReads_defaulted {s : State} (failed : ¬ settingsCheck s) : (loadReads s.memory).raw = defaultImage :=
  if_neg (mt settingsOk_iff.1 failed)

/-- R157: the record that fails its check is the zero record. -/
theorem loadReads_lost {s : State} (failed : ¬ recordCheck s) : (loadReads s.memory).record = List.replicate 38 0 :=
  if_neg (mt recordOk_iff.1 failed)

/-! ### The occurrences of a load (R157) -/

theorem loadOccurrences_settingsDefaulted {l : LoadReads} (failed : ¬ l.settingsOk = true) (s : State) :
    hasFlag (loadOccurrences l s).notice.latched .settingsDefaulted = true := by
  have other : Flag.wearLost ≠ .settingsDefaulted := by decide
  simp only [loadOccurrences, if_neg failed]
  split
  · simp
  · simp [hasFlag_or_bit_of_ne _ other]

theorem loadOccurrences_wearLost {l : LoadReads} (failed : ¬ l.recordOk = true) (s : State) :
    hasFlag (loadOccurrences l s).notice.latched .wearLost = true := by
  simp only [loadOccurrences, if_neg failed, raise_latched, hasFlag_or_bit]

/-! ### The memory after a load (R131, R157) -/

theorem LoadReads.protectedImage_eq (l : LoadReads) :
    l.memoryPath.protectedImage = l.record ++ [crc8 l.record, crc8 l.raw] := rfl

section Memory

variable {m : Memory} (canonical : m.wf = true)

include canonical

theorem loaded_settingsCheck : (m.writeAll (loadReads m).writes).read (address (loadReads m).page 0xFE#8).toNat
    = crc8 (loadReads m).raw := by
  refine (loaded_protected m canonical (i := 39) (by decide)).trans ?_
  rw [LoadReads.protectedImage_eq, List.getD_append_right _ _ _ _ (by rw [(loadReads_record m).1]; decide), (loadReads_record m).1]
  rfl

theorem loaded_recordCheck : (m.writeAll (loadReads m).writes).read (address (loadReads m).page 0xC6#8).toNat
    = crc8 (loadReads m).record := by
  refine (loaded_protected m canonical (i := 38) (by decide)).trans ?_
  rw [LoadReads.protectedImage_eq, List.getD_append_right _ _ _ _ (by rw [(loadReads_record m).1]), (loadReads_record m).1]
  rfl

theorem loaded_record {i : Nat} (place : i < 38) :
    (m.writeAll (loadReads m).writes).read (address (loadReads m).page (BitVec.ofNat 8 (0xA0 + i))).toNat
      = (loadReads m).record.getD i 0 := by
  rw [← protectedOffset_of_record place, loaded_protected m canonical (by omega)]
  exact List.getD_append _ _ _ _ (by rw [(loadReads_record m).1]; exact place)

/-- R157: with an intact record a load writes the settings and their check byte at most. -/
theorem loaded_of_recordOk (ok : (loadReads m).recordOk = true) {a : Nat}
    (apart : ∀ off, off < 0x40 ∨ off = 0xFE → a ≠ (address (loadReads m).page (BitVec.ofNat 8 off)).toNat) :
    (m.writeAll (loadReads m).writes).read a = m.read a := by
  have length := (loadReads_settings m).1
  refine Memory.read_writeAll_of_notin _ _ _ canonical fun w member here => ?_
  rw [LoadReads.writes, if_pos ok, List.append_nil] at member
  split at member
  case isTrue => cases member
  case isFalse =>
    obtain run | check := List.mem_append.1 member
    · obtain ⟨i, place, rfl⟩ := mem_writesAt run
      rw [Nat.zero_add] at here
      exact apart i (.inl (by omega)) here.symm
    · obtain rfl := List.mem_singleton.1 check
      exact apart 0xFE (.inr rfl) here.symm

/-- R157: with intact settings a load writes the record and its check byte at most. -/
theorem loaded_of_settingsOk (ok : (loadReads m).settingsOk = true) {a : Nat}
    (apart : ∀ off, 0xA0 ≤ off → off ≤ 0xC6 → a ≠ (address (loadReads m).page (BitVec.ofNat 8 off)).toNat) :
    (m.writeAll (loadReads m).writes).read a = m.read a := by
  refine Memory.read_writeAll_of_notin _ _ _ canonical fun w member here => ?_
  rw [LoadReads.writes, if_pos ok, List.nil_append] at member
  split at member
  case isTrue => cases member
  case isFalse =>
    obtain ⟨n, low, high, place⟩ := mem_saveWrites (loadReads_record m).1 member
    exact apart n low high (here.symm.trans (congrArg BitVec.toNat place))

end Memory

/-- Settles O5: the blocks of a load with the replaced image, and the memory with the write-backs. -/
theorem loadReplacesFailedImages : Obligations.LoadReplacesFailedImages := by
  refine ⟨fun p s loading canonical failed => ?settings, fun p s loading canonical failed => ?record⟩
  case settings =>
    obtain ⟨t, stepped, h⟩ := exec_loadComplete p loading
    have raw := loadReads_defaulted failed
    have page : t.path.page = (loadReads s.memory).page := congrArg MemoryPath.page h.path
    refine ⟨t, stepped, h.phase, page.trans (loadReads_page s), (congrArg MemoryPath.raw h.path).trans raw,
      (congrArg MemoryPath.working h.path).trans (congrArg Settings.ofRaw raw),
      (h.latched _ (by decide) (by decide)).trans (loadOccurrences_settingsDefaulted (mt settingsOk_iff.1 failed) s),
      fun i place => ?_, ?_, fun record a apart => ?_, h.pending⟩
    · rw [page, h.memory, loaded_raw _ canonical place, raw]
    · rw [page, h.memory, loaded_settingsCheck canonical, raw]
    · rw [← loadReads_page] at apart
      rw [h.memory]
      exact loaded_of_recordOk canonical (recordOk_iff.2 record) apart
  case record =>
    obtain ⟨t, stepped, h⟩ := exec_loadComplete p loading
    have lost := loadReads_lost failed
    have page : t.path.page = (loadReads s.memory).page := congrArg MemoryPath.page h.path
    have filter := h.filter
    have dry := h.dry
    have tank := h.tank
    obtain ⟨baseline, q, -⟩ := AirMover.ofLoad_rest (Settings.ofRaw (loadReads s.memory).raw) (loadReads s.memory).record
    obtain ⟨changed, store⟩ := h.store
    obtain ⟨-, lastSeq, lastCheck, -⟩ := loadedStore_kept _ _ _ _ _ store
    rw [← h.air] at baseline q
    rw [lost] at filter dry tank baseline q lastSeq lastCheck
    refine ⟨t, stepped,
      (h.latched _ (by decide) (by decide)).trans (loadOccurrences_wearLost (mt recordOk_iff.1 failed) s),
      congrArg FilterState.dose filter, congrArg FilterState.remainder filter, congrArg FilterState.hours filter,
      congrArg FilterState.minutes filter, congrArg Drying.runHours dry, congrArg Drying.runMinutes dry,
      congrArg Drying.starts dry, congrArg Drying.defrosts dry, congrArg Drying.tripTotal dry,
      congrArg TankBlock.cycles tank, baseline, q, lastSeq, lastCheck, fun i place => ?_, ?_,
      page.trans (loadReads_page s), fun settings a apart => ?_, h.pending⟩
    · rw [page, h.memory, loaded_record canonical place, lost, List.getD_replicate _ place]
    · rw [page, h.memory, loaded_recordCheck canonical, lost]
    · rw [← loadReads_page] at apart
      rw [h.memory]
      exact loaded_of_settingsOk canonical (settingsOk_iff.2 settings) apart

end Sys2Proof.Machine
end

section
/-! SUPPORT. A restart that drains a save and a check-byte update, and reloads the images that they wrote (R159, R160), with
its statement. -/

namespace Sys2Proof.Machine

/-! ### The bytes that a restart writes (R131, R153, R160) -/

/-- The images that a restart takes as it begins. -/
def restartImages (s : State) : Drain := { record := recordBytes s s.store.lastSeq, raw := s.path.raw }

/-- The record that the drain's save writes. -/
def restartRecord (s : State) : List Byte := withSequence (recordBytes s s.store.lastSeq) (s.store.lastSeq + 1)

/-- The part after a restart whose drain held a save and a check-byte update. -/
def restartDrained (s : State) : State :=
  drained (restartImages s) .crcUpdate [] (drained (restartImages s) .wearSave [.crcUpdate] (restarted s))

/-- The writes of the command cell, of the save and of the check-byte update, in their order. -/
def restartWrites (s : State) : List (BitVec 15 × Byte) :=
  ((address s.path.page 0x40#8, 0) :: saveWrites s.path.page (restartRecord s))
    ++ [(address s.path.page 0xFE#8, crc8 s.path.raw)]

theorem Memory.writeAll_cons (m : Memory) (w : BitVec 15 × Byte) (ws : List (BitVec 15 × Byte)) :
    m.writeAll (w :: ws) = (m.write w.1.toNat w.2).writeAll ws := rfl

/-- R153: the writes of a drained save. -/
theorem drained_wearSave_memory (d : Drain) (rest : List Job) (s : State) : (drained d .wearSave rest s).memory
    = s.memory.writeAll (saveWrites s.path.page (withSequence d.record (s.store.lastSeq + 1))) := rfl

/-- R153: the write of a drained check-byte update. -/
theorem drained_crcUpdate_memory (d : Drain) (rest : List Job) (s : State) : (drained d .crcUpdate rest s).memory
    = s.memory.writeAll [(address s.path.page 0xFE#8, crc8 d.raw)] := rfl

/-- R159: a restart keeps the page, the last save and the reset cause RESTART for its drain, with the images it takes. -/
theorem restarted_unit (s : State) : (restarted s).path.page = s.path.page ∧ (restarted s).store.lastSeq = s.store.lastSeq
    ∧ (restarted s).store.resetCause = .restart ∧ (restarted s).store.drain = some (restartImages s) :=
  ⟨rfl, (s.store.restartRequests_keeps s.path.quietTimer.isSome).2.2, rfl, rfl⟩

/-- R160: a drained save leaves the page, and with jobs behind it the drain goes on. -/
theorem drained_wearSave_unit (d : Drain) (j : Job) (rest : List Job) (s : State) :
    (drained d .wearSave (j :: rest) s).path.page = s.path.page ∧ (drained d .wearSave (j :: rest) s).phase = s.phase
      ∧ (drained d .wearSave (j :: rest) s).store.drain = s.store.drain
      ∧ (drained d .wearSave (j :: rest) s).store.resetCause = s.store.resetCause
      ∧ (drained d .wearSave (j :: rest) s).notice = s.notice := ⟨rfl, rfl, rfl, rfl, rfl⟩

/-- R160: a drained check-byte update, the last job of its drain, leads to the reload. -/
theorem drained_crcUpdate_unit (d : Drain) (s : State) : (drained d .crcUpdate [] s).phase = .loading
    ∧ (drained d .crcUpdate [] s).store.resetCause = s.store.resetCause ∧ (drained d .crcUpdate [] s).notice = s.notice :=
  ⟨rfl, rfl, rfl⟩

theorem restartDrained_memory (s : State) : (restartDrained s).memory = s.memory.writeAll (restartWrites s) := by
  obtain ⟨page, lastSeq, -⟩ := restarted_unit s
  obtain ⟨kept, -⟩ := drained_wearSave_unit (restartImages s) .crcUpdate [] (restarted s)
  have record : withSequence (restartImages s).record (s.store.lastSeq + 1) = restartRecord s := rfl
  have raw : (restartImages s).raw = s.path.raw := rfl
  rw [restartDrained, drained_crcUpdate_memory, drained_wearSave_memory, kept, page, lastSeq, restarted_memory, record, raw,
    restartWrites, Memory.writeAll_append, Memory.writeAll_cons s.memory]

/-- R160: the reload after the restart's drain. -/
theorem restartDrained_unit (s : State) : (restartDrained s).phase = .loading ∧ (restartDrained s).store.resetCause = .restart
    ∧ (restartDrained s).notice = .atReset := by
  obtain ⟨-, -, cause, -⟩ := restarted_unit s
  obtain ⟨-, -, -, causeSaved, noticeSaved⟩ := drained_wearSave_unit (restartImages s) .crcUpdate [] (restarted s)
  obtain ⟨phase, causeChecked, noticeChecked⟩ :=
    drained_crcUpdate_unit (restartImages s) (drained (restartImages s) .wearSave [.crcUpdate] (restarted s))
  exact ⟨phase, causeChecked.trans (causeSaved.trans cause), noticeChecked.trans noticeSaved⟩

theorem restartRecord_length (s : State) : (restartRecord s).length = 38 :=
  (withSequence_length _).trans (recordBytes_length s _)

/-- Table 33: the loaded working hours are those of the record's two bytes. -/
theorem restartRecord_hours (s : State) :
    leValue (((restartRecord s).drop 0x06).take 2) = s.filter.hours % 65536 := by
  simp [restartRecord, withSequence, recordBytes, leBytes, List.range_succ, leValue, leByte]
  omega

/-- Table 33: the loaded cycle count is that of the record's two bytes. -/
theorem restartRecord_cycles (s : State) :
    leValue (((restartRecord s).drop 0x11).take 2) = s.tank.cycles % 65536 := by
  simp [restartRecord, withSequence, recordBytes, leBytes, List.range_succ, leValue, leByte]
  omega

/-- What a restart leaves at the window offset `o` of its page. -/
theorem lastWritten_restartWrites (s : State) (o : Byte) :
    lastWritten (restartWrites s) (address s.path.page o).toNat
      = if o = 0xFE#8 then some (crc8 s.path.raw) else if o = 0xC6#8 then some (crc8 (restartRecord s))
        else if 0xA0 ≤ o.toNat then (restartRecord s)[o.toNat - 0xA0]? else if o = 0x40#8 then some 0 else none := by
  rw [restartWrites, lastWritten_append, lastWritten_singleton, lastWritten, lastWritten_saveWrites _ (restartRecord_length s)]
  simp only [address_inj, eq_comm (b := o)]
  by_cases settings : o = 0xFE#8
  · simp [settings]
  · by_cases record : o = 0xC6#8
    · simp [record]
    · by_cases high : 0xA0 ≤ o.toNat
      · have apart : o ≠ 0x40#8 := fun same => by
          rw [same] at high
          exact absurd high (by decide)
        simp [settings, record, high, apart]
      · simp [settings, record, high]

/-- Every byte of a restart is in the window, below the anchor. -/
theorem restartWrites_ne_anchor {s : State} {w : BitVec 15 × Byte} (member : w ∈ restartWrites s) : w.1.toNat ≠ 0x7FFF := by
  have below {off : Byte} (low : off.toNat < 0xFF) : (address s.path.page off).toNat ≠ 0x7FFF := fun here =>
    address_ne_anchor s.path.page off low (BitVec.eq_of_toNat_eq here)
  obtain front | check := List.mem_append.1 member
  · obtain rfl | save := List.mem_cons.1 front
    · exact below (by decide)
    · obtain ⟨n, -, high, place⟩ := mem_saveWrites (restartRecord_length s) save
      rw [place]
      exact below (by rw [offset_toNat (by omega)]; omega)
  · obtain rfl := List.mem_singleton.1 check
    exact below (by decide)

/-! ### What the reload finds (R157, R160) -/

section Reload

variable {s : State} (canonical : s.memory.wf = true) (anchored : loadPage s = s.path.page)

include canonical

theorem restartDrained_read (o : Byte) : (restartDrained s).memory.read (address s.path.page o).toNat
    = (lastWritten (restartWrites s) (address s.path.page o).toNat).getD (s.memory.read (address s.path.page o).toNat) := by
  rw [restartDrained_memory, Memory.read_writeAll _ _ canonical]

/-- R153: the save's bytes stand in the memory. -/
theorem restartDrained_record :
    readRun (restartDrained s).memory s.path.page 0xA0 38 = restartRecord s := by
  have size := restartRecord_length s
  refine eq_of_getD (readRun_length _ _ _ _) size fun i place => ?_
  have offset : (BitVec.ofNat 8 (0xA0 + i)).toNat = 0xA0 + i := offset_toNat (by omega)
  have apart {x : Byte} (high : 0xC6 ≤ x.toNat) : BitVec.ofNat 8 (0xA0 + i) ≠ x := fun same => by
    rw [← same, offset] at high
    omega
  rw [readRun_getD _ _ _ place, restartDrained_read canonical, lastWritten_restartWrites, if_neg (apart (by decide)),
    if_neg (apart (by decide)), offset, if_pos (by omega), Nat.add_sub_cancel_left, List.getElem?_eq_getElem (size ▸ place),
    List.getD_eq_getElem _ _ (size ▸ place)]
  rfl

/-- A restart writes no cell of the raw image. -/
theorem restartDrained_raw (length : s.path.raw.length = 64) (inMemory : s.rawInMemory) :
    readRun (restartDrained s).memory s.path.page 0x00 64 = s.path.raw := by
  refine eq_of_getD (readRun_length _ _ _ _) length fun i place => ?_
  have offset : (BitVec.ofNat 8 i).toNat = i := offset_toNat (by omega)
  have apart {x : Byte} (high : 0x40 ≤ x.toNat) : BitVec.ofNat 8 i ≠ x := fun same => by
    rw [← same, offset] at high
    omega
  rw [readRun_getD _ _ _ place, Nat.zero_add, restartDrained_read canonical, lastWritten_restartWrites,
    if_neg (apart (by decide)), if_neg (apart (by decide)), offset, if_neg (by omega), if_neg (apart (by decide)),
    Option.getD_none, inMemory i place]

include anchored

/-- R126, R160: the reload takes the page that the restart kept. -/
theorem restartDrained_loadPage : loadPage (restartDrained s) = s.path.page := by
  have anchor : (restartDrained s).memory.read 0x7FFF = s.memory.read 0x7FFF := by
    rw [restartDrained_memory]
    exact Memory.read_writeAll_of_notin _ _ _ canonical fun w member => restartWrites_ne_anchor member
  rw [← anchored, loadPage, loadPage, anchor]

theorem restartDrained_settingsCheck (length : s.path.raw.length = 64) (inMemory : s.rawInMemory) :
    settingsCheck (restartDrained s) := by
  rw [settingsCheck, restartDrained_loadPage canonical anchored, restartDrained_raw canonical length inMemory,
    restartDrained_read canonical, lastWritten_restartWrites, if_pos rfl, Option.getD_some]

theorem restartDrained_recordCheck : recordCheck (restartDrained s) := by
  rw [recordCheck, restartDrained_loadPage canonical anchored, restartDrained_record canonical, restartDrained_read canonical,
    lastWritten_restartWrites, if_neg (by decide), if_pos rfl, Option.getD_some]

end Reload

/-- R126: what a load takes of its reads into the window and into two of its counters. -/
theorem State.LoadedTo.taken {p : Bool} {s t : State} (h : s.LoadedTo p t) :
    t.path.page = (loadReads s.memory).page ∧ t.path.raw = (loadReads s.memory).raw
      ∧ t.filter.hours = leValue (((loadReads s.memory).record.drop 0x06).take 2)
      ∧ t.tank.cycles = leValue (((loadReads s.memory).record.drop 0x11).take 2) :=
  ⟨congrArg MemoryPath.page h.path, congrArg MemoryPath.raw h.path, congrArg FilterState.hours h.filter,
    congrArg TankBlock.cycles h.tank⟩

/-- R148: with an empty queue and a write still quiet, the restart drains a save and a check-byte update. -/
theorem restarted_queue {s : State} (quiet : s.path.quietTimer.isSome = true) (empty : s.store.queue = [])
    (unserved : s.store.service = none) : (restarted s).store.queue = [.wearSave, .crcUpdate] := by
  have free : s.store.movePending = false := by simp [StoredImages.movePending, empty, unserved]
  refine (s.store.restartRequests_queue s.path.quietTimer.isSome).trans ?_
  simp [quiet, free, empty]

/-- Settles O9: after the drain both checks hold, so the reload takes the images as they stand. -/
theorem restartReloadsOwnImages : Obligations.RestartReloadsOwnImages := by
  intro p s cycles canonical armed quiet empty unserved length inMemory anchored
  have settings := restartDrained_settingsCheck canonical anchored length inMemory
  have record := restartDrained_recordCheck canonical anchored
  have page := restartDrained_loadPage canonical anchored
  obtain ⟨raw, taken, -⟩ := loadReads_intact settings record
  rw [page, restartDrained_raw canonical length inMemory] at raw
  rw [page, restartDrained_record canonical] at taken
  obtain ⟨-, -, -, images⟩ := restarted_unit s
  obtain ⟨-, draining, imagesKept, -⟩ := drained_wearSave_unit (restartImages s) .crcUpdate [] (restarted s)
  obtain ⟨loading, restart, notice⟩ := restartDrained_unit s
  have saved : exec .drainJobComplete (restarted s)
      = .next (drained (restartImages s) .wearSave [.crcUpdate] (restarted s)) :=
    exec_drainJobComplete rfl images (restarted_queue quiet empty unserved)
  have checked : exec .drainJobComplete (drained (restartImages s) .wearSave [.crcUpdate] (restarted s))
      = .next (restartDrained s) := exec_drainJobComplete draining (imagesKept.trans images) rfl
  obtain ⟨t, stepped, h⟩ := exec_loadComplete p loading
  obtain ⟨loadedPage, loadedRaw, hours, tankCycles⟩ := h.taken
  obtain ⟨changed, store⟩ := h.store
  obtain ⟨-, lastSeq, -, cause, -⟩ := loadedStore_kept _ _ _ _ _ store
  have occurred := h.latched
  rw [loadOccurrences_of_intact (settingsOk_of_check settings) (recordOk_of_check record), notice] at occurred
  rw [taken] at lastSeq hours tankCycles
  exact ⟨_, _, _, t, exec_restart cycles armed, saved, checked, stepped, h.phase,
    loadedPage.trans ((loadReads_page _).trans page), loadedRaw.trans raw, occurred _ (by decide) (by decide),
    occurred _ (by decide) (by decide), lastSeq.trans (withSequence_sequence _ (recordBytes_length s _)),
    cause.trans restart, hours.trans (restartRecord_hours s), tankCycles.trans (restartRecord_cycles s)⟩

end Sys2Proof.Machine
end
